-- ==== Sys2Proof/Word.lean ====
section
/-! DEFINITION. The word types of the OB-470 model: what the manual counts, masks or sends as bits. -/

namespace Sys2Proof

/-- One byte of a record, a transaction or a link transfer. -/
abbrev Byte := BitVec 8
/-- A 16-bit field: ring index, tag, AU number, clip number. -/
abbrev Word16 := BitVec 16
/-- A 32-bit field: frame count, block number, chunk sequence, address field of a command. -/
abbrev Word32 := BitVec 32
/-- A 64-bit field: a card's serial. -/
abbrev Word64 := BitVec 64
/-- One audio sample: 24 bits, two's complement (R144). -/
abbrev Sample := BitVec 24

/-- A byte write with its byte enable: a write transaction carries one per byte of its range (00_scope, "Transactions"). -/
abbrev LaneByte := Byte × Bool

/-- The eight bits of a byte on the motion port, in the order in which they are received (R213). -/
abbrev PortBits := Vector Bool 8

end Sys2Proof
end

