-- ==== Sys2Proof/Syntax.lean ====
section
/-! DEFINITION. The commands of the OB-470 model: one constructor of `Instr` for each row of spec/opcode_table.json (a host
command with the fields of its 64-byte entry, or a step of the part with what the outside supplies to it). -/

namespace Sys2Proof

/-- The two card slots (R205). -/
inductive CardSlot where
  | a | b
  deriving DecidableEq, Repr

/-- A transaction in the form of the two memory ports (00_scope, "Transactions"). A write carries one `LaneByte` for each byte
of its range, so its length is the length of that list. -/
inductive Transaction where
  | read (addr len : Nat)
  | write (addr : Nat) (lanes : List LaneByte)
  deriving DecidableEq, Repr

/-- The head of a command entry that the unit keeps: the 16-bit tag and the NOTIFY flag (R190, R206). -/
structure EntryHead where
  tag : Word16
  notify : Bool
  deriving DecidableEq, Repr

/-- The kind byte of SET_REGION and the kind parameters from offset 20 (R206), as the entry holds them. -/
inductive RegionSpec where
  | stream (prerecordBytes lateWindow : Word32) (holdLimit : Word16)
  | index
  | frame (slotCount bpp : Byte) (wIn hIn : Word16) (stride : Word32)
  | aliasView (frameRecord : Byte) (wOut hOut : Word16)
  | audio
  | unknown (kind : Byte)
  deriving DecidableEq, Repr

/-- A message heard on the accessory line up to its CRC byte (R165, R211). -/
structure LinkMessage where
  identifier : Byte
  length : Byte
  data : List Byte
  crc : Byte
  deriving DecidableEq, Repr

/-- One constructor per row of the opcode table. -/
inductive Instr where
  -- the memory path and the control page
  | hostTransactionTake (t : Transaction)
  | holdTimerExpiry
  | downstreamGrant
  | hostDownstreamCompletion (data : List Byte)
  | upstreamCompletion
  | commandProducerWrite
  | reportConsumerWrite
  | reportProducerAck
  | statusTimerExpiry
  -- host commands: a taken command entry
  | unknownCommand (h : EntryHead) (code : Word16)
  | setRegion (h : EntryHead) (record : Byte) (base size : Word32) (spec : RegionSpec)
  | clearRegion (h : EntryHead) (record : Byte)
  | recConfig (h : EntryHead) (mode gripRec : Byte) (chunkMax chunkMin : Word32)
  | recStart (h : EntryHead) (clip : Word16)
  | recStop (h : EntryHead)
  | cardChain (h : EntryHead) (slot : Byte) (group : Word32)
  | cardSleep (h : EntryHead) (slot : Byte)
  | cardWake (h : EntryHead) (slot : Byte)
  | cardEject (h : EntryHead) (slot : Byte)
  | stabConfig (h : EntryHead) (biasX biasY : Word16) (dirX dirY kSteady kPan : Byte) (panThreshold : Word16)
      (panEnter : Byte) (panExit : Word16)
  | stabEnable (h : EntryHead)
  | stabDisable (h : EntryHead)
  | focalLoad (h : EntryHead) (addr : Word32)
  | focalLoadReadReturn (data : List Byte)
  | zoomConfig (h : EntryHead) (addr : Word32) (seg : Word16) (e tolerance : Byte)
  | zoomConfigReadReturn (data : List Byte)
  | zoomHome (h : EntryHead)
  | zoomGoto (h : EntryHead) (target : Word16) (maxLevel : Byte)
  | zoomSpeed (h : EntryHead) (level : Byte)
  | zoomStop (h : EntryHead)
  | audioConfig (h : EntryHead) (role enables : Byte)
  | audioOff (h : EntryHead)
  | accConfigBegin (h : EntryHead)
  | accBufferSet (h : EntryHead) (index direction identifier owner mode staleCycles : Byte)
  | accFilterSet (h : EntryHead) (acceptEnable acceptCode acceptMask rejectEnable rejectCode rejectMask : Byte)
  | accLinkSet (h : EntryHead) (period q : Byte)
  | accConfigEnd (h : EntryHead)
  | accSend (h : EntryHead) (index length : Byte) (data : List Byte)
  | ackConditions (h : EntryHead) (set : Word16)
  | setNoticeMask (h : EntryHead) (set : Word16)
  | softReset (h : EntryHead)
  -- the clip assembler
  | chunkChoice
  | videoPayloadReadReturn (data : List Byte)
  | audioPayloadReadReturn (data : List Byte)
  | pageOpen
  | clipClose
  | recordingStopped
  -- the card controllers
  | cardDetectActive (slot : CardSlot)
  | cardSettleExpiry (slot : CardSlot)
  | cardRemoval (slot : CardSlot)
  | cardIdentRetry (slot : CardSlot)
  | cardIdentResponse (slot : CardSlot) (response : List Byte) (protectInput : Bool)
  | cardIdentTimeout (slot : CardSlot)
  | cardStatusPoll (slot : CardSlot) (elapsed : Nat)
  | cardStatusResponse (slot : CardSlot) (response : List Byte) (protectInput : Bool) (elapsed : Nat)
  | cardPageWriteTimeout (slot : CardSlot)
  | cardEraseTimeout (slot : CardSlot)
  | cardWakeTimeout (slot : CardSlot)
  | cardDescriptorFetchDone (slot : CardSlot) (data : List Byte) (protectInput : Bool)
  | cardRollover (slot : CardSlot)
  | cardEraseStart (slot : CardSlot)
  | cardPageWriteStart (slot : CardSlot)
  -- the motion unit
  | gyroSampleInstant
  | gyroAnswer (status yawLow yawHigh pitchLow pitchHigh : PortBits)
  | gyroReadTimeout
  -- the zoom drive
  | rampTick
  | lensTimerUnderflow
  | encoderEdge (samples : List Bool)
  | homeRise (samples : List Bool)
  -- the audio unit
  | samplePeriod (received : BitVec 128)
  | frameSync (edges : Nat) (sdin : BitVec 128)
  | missingFrame
  | audioSlipTimerExpiry
  | meterWindowEnd
  -- the accessory link
  | cycleInstant
  | accMessageReceive (slot : BitVec 4) (m : LinkMessage)
  | accSlotEnd (slot : BitVec 4)
  | accSlotStart (slot : BitVec 4)
  | accTransmitDone
  -- hard reset
  | resetNAssert
  | resetNRelease (memtop : BitVec 3) (encSample homeSample : Bool)
  deriving DecidableEq, Repr

end Sys2Proof
end

