-- ==== Sys2Proof/WellFormed.lean ====
section
/-! DEFINITION. Which commands have the form the manual gives their operands. -/

namespace Sys2Proof

/-- Bytes a transaction covers. -/
def Transaction.len : Transaction → Nat
  | .read _ n => n
  | .write _ lanes => lanes.length

/-- Address of a transaction's first byte. -/
def Transaction.addr : Transaction → Nat
  | .read a _ => a
  | .write a _ => a

/-- A transaction is 8 to 128 bytes in 8-byte beats within one 128-byte aligned line (00_scope, "Transactions"; R70). -/
def Transaction.wellFormed (t : Transaction) : Bool :=
  8 ≤ t.len && t.len ≤ 128 && t.len % 8 == 0 && t.addr % 8 == 0 && t.addr % 128 + t.len ≤ 128

/-- Data returned for a read: whole 8-byte beats, at most 128 bytes (00_scope, "Transactions"). -/
def readDataFormed (data : List Byte) : Bool :=
  data.length ≤ 128 && data.length % 8 == 0

/-- A message heard to its CRC byte has as many data bytes as its length byte says, unless the length byte is over 12: such a
message is judged at the length byte (R166). -/
def LinkMessage.wellFormed (m : LinkMessage) : Bool :=
  12 < m.length.toNat || m.data.length == m.length.toNat

/-- The command codes that R206 lists. -/
def listedCodes : List Word16 :=
  [0x01, 0x02, 0x10, 0x11, 0x12, 0x18, 0x19, 0x1A, 0x1B, 0x20, 0x21, 0x22, 0x23, 0x28, 0x29, 0x2A, 0x2B, 0x2C, 0x30, 0x31,
    0x38, 0x39, 0x3A, 0x3B, 0x3C, 0x3D, 0x40, 0x41, 0x7F]

/-- The kind `unknown` stands for the kind bytes that R205 does not list. -/
def RegionSpec.wellFormed : RegionSpec → Bool
  | .unknown kind => kind.toNat == 0 || 5 < kind.toNat
  | _ => true

/-- The form of a command's operands. -/
def Instr.wellFormed : Instr → Bool
  | .hostTransactionTake t => t.wellFormed
  | .hostDownstreamCompletion data => readDataFormed data
  | .unknownCommand _ code => !listedCodes.contains code
  | .setRegion _ _ _ _ spec => spec.wellFormed
  | .focalLoadReadReturn data => readDataFormed data
  | .zoomConfigReadReturn data => readDataFormed data
  | .accSend _ _ _ data => data.length == 12
  | .videoPayloadReadReturn data => readDataFormed data
  | .audioPayloadReadReturn data => readDataFormed data
  | .cardDescriptorFetchDone _ data _ => readDataFormed data
  | .accMessageReceive _ m => m.wellFormed
  | _ => true

end Sys2Proof
end

