-- ==== Sys2Proof/Decode.lean ====
section
/-! DEFINITION. What a table word spells (no row of the table gives bits), and how the 64 bytes of a command entry spell a host
command (R206), with the entry that spells a given command. -/

namespace Sys2Proof

/-- The command a table word spells. spec/opcode_table.json gives no row any bits, so no word spells a command. -/
def decodeTableWord (_nbits _w : Nat) : Option Instr := none

/-- `n` bytes of `v`, low byte first (00_scope, "Byte order"). -/
def littleEndian : Nat → Nat → List Byte
  | 0, _ => []
  | n + 1, v => BitVec.ofNat 8 v :: littleEndian n (v / 256)

/-- The value of bytes stored low byte first. -/
def fromLittleEndian : List Byte → Nat
  | [] => 0
  | b :: rest => b.toNat + 256 * fromLittleEndian rest

/-- The field `offset:size` of a record (11, opening). -/
def field (record : List Byte) (offset size : Nat) : Nat :=
  fromLittleEndian ((record.drop offset).take size)

/-- One byte of a record. -/
def byteAt (record : List Byte) (offset : Nat) : Byte := BitVec.ofNat 8 (field record offset 1)

/-- The kind byte 9:1 and the kind parameters of SET_REGION (R206). -/
def decodeRegionSpec (e : List Byte) : RegionSpec :=
  match field e 9 1 with
  | 1 => .stream (BitVec.ofNat 32 (field e 20 4)) (BitVec.ofNat 32 (field e 24 4)) (BitVec.ofNat 16 (field e 28 2))
  | 2 => .index
  | 3 => .frame (byteAt e 20) (byteAt e 21) (BitVec.ofNat 16 (field e 22 2)) (BitVec.ofNat 16 (field e 24 2))
      (BitVec.ofNat 32 (field e 28 4))
  | 4 => .aliasView (byteAt e 20) (BitVec.ofNat 16 (field e 22 2)) (BitVec.ofNat 16 (field e 24 2))
  | 5 => .audio
  | _ => .unknown (byteAt e 9)

/-- The command that the 64 bytes of a taken command entry spell (R190, R206). -/
def decodeEntry (e : List Byte) : Instr :=
  let h : EntryHead := ⟨BitVec.ofNat 16 (field e 2 2), (byteAt e 4).getLsbD 0⟩
  let b := byteAt e
  let w16 (o : Nat) : Word16 := BitVec.ofNat 16 (field e o 2)
  let w32 (o : Nat) : Word32 := BitVec.ofNat 32 (field e o 4)
  match field e 0 2 with
  | 0x01 => .setRegion h (b 8) (w32 12) (w32 16) (decodeRegionSpec e)
  | 0x02 => .clearRegion h (b 8)
  | 0x10 => .recConfig h (b 8) (b 9) (w32 12) (w32 16)
  | 0x11 => .recStart h (w16 8)
  | 0x12 => .recStop h
  | 0x18 => .cardChain h (b 8) (w32 12)
  | 0x19 => .cardSleep h (b 8)
  | 0x1A => .cardWake h (b 8)
  | 0x1B => .cardEject h (b 8)
  | 0x20 => .stabConfig h (w16 8) (w16 10) (b 12) (b 13) (b 14) (b 15) (w16 16) (b 18) (w16 20)
  | 0x21 => .stabEnable h
  | 0x22 => .stabDisable h
  | 0x23 => .focalLoad h (w32 8)
  | 0x28 => .zoomConfig h (w32 8) (w16 12) (b 14) (b 15)
  | 0x29 => .zoomHome h
  | 0x2A => .zoomGoto h (w16 8) (b 10)
  | 0x2B => .zoomSpeed h (b 8)
  | 0x2C => .zoomStop h
  | 0x30 => .audioConfig h (b 8) (b 9)
  | 0x31 => .audioOff h
  | 0x38 => .accConfigBegin h
  | 0x39 => .accBufferSet h (b 8) (b 9) (b 10) (b 11) (b 12) (b 13)
  | 0x3A => .accFilterSet h (b 8) (b 9) (b 10) (b 11) (b 12) (b 13)
  | 0x3B => .accLinkSet h (b 8) (b 9)
  | 0x3C => .accConfigEnd h
  | 0x3D => .accSend h (b 8) (b 9) ((List.range 12).map fun i => b (10 + i))
  | 0x40 => .ackConditions h (w16 8)
  | 0x41 => .setNoticeMask h (w16 8)
  | 0x7F => .softReset h
  | code => .unknownCommand h (BitVec.ofNat 16 code)

/-- A 64-byte entry from its code, head and argument bytes: 0:2 code, 2:2 tag, 4:1 flags, 5:1 result, 8:56 arguments (R206). -/
def entryBytes (code : Nat) (h : EntryHead) (args : List Byte) : List Byte :=
  (littleEndian 2 code ++ littleEndian 2 h.tag.toNat ++ [if h.notify then 1 else 0, 0, 0, 0] ++ args
    ++ List.replicate 56 (0 : Byte)).take 64

/-- The kind byte and the kind parameters of SET_REGION as they stand in the entry (R206). -/
def regionKindCode : RegionSpec → Byte
  | .stream _ _ _ => 1
  | .index => 2
  | .frame _ _ _ _ _ => 3
  | .aliasView _ _ _ => 4
  | .audio => 5
  | .unknown kind => kind

def regionParamBytes : RegionSpec → List Byte
  | .stream p l h => littleEndian 4 p.toNat ++ littleEndian 4 l.toNat ++ littleEndian 2 h.toNat
  | .frame n bpp w h s =>
      [n, bpp] ++ littleEndian 2 w.toNat ++ littleEndian 2 h.toNat ++ [0, 0] ++ littleEndian 4 s.toNat
  | .aliasView r w h => [r, 0] ++ littleEndian 2 w.toNat ++ littleEndian 2 h.toNat
  | _ => []

/-- The entry that a host writes for a command (R206); none for the rows that are no command. -/
def encodeEntry : Instr → Option (List Byte)
  | .setRegion h r base size spec =>
      some (entryBytes 0x01 h ([r, regionKindCode spec, 0, 0] ++ littleEndian 4 base.toNat ++ littleEndian 4 size.toNat
        ++ regionParamBytes spec))
  | .clearRegion h r => some (entryBytes 0x02 h [r])
  | .recConfig h m g mx mn =>
      some (entryBytes 0x10 h ([m, g, 0, 0] ++ littleEndian 4 mx.toNat ++ littleEndian 4 mn.toNat))
  | .recStart h clip => some (entryBytes 0x11 h (littleEndian 2 clip.toNat))
  | .recStop h => some (entryBytes 0x12 h [])
  | .cardChain h s g => some (entryBytes 0x18 h ([s, 0, 0, 0] ++ littleEndian 4 g.toNat))
  | .cardSleep h s => some (entryBytes 0x19 h [s])
  | .cardWake h s => some (entryBytes 0x1A h [s])
  | .cardEject h s => some (entryBytes 0x1B h [s])
  | .stabConfig h bx bY dx dy ks kp t n x =>
      some (entryBytes 0x20 h (littleEndian 2 bx.toNat ++ littleEndian 2 bY.toNat ++ [dx, dy, ks, kp]
        ++ littleEndian 2 t.toNat ++ [n, 0] ++ littleEndian 2 x.toNat))
  | .stabEnable h => some (entryBytes 0x21 h [])
  | .stabDisable h => some (entryBytes 0x22 h [])
  | .focalLoad h a => some (entryBytes 0x23 h (littleEndian 4 a.toNat))
  | .zoomConfig h a seg e t => some (entryBytes 0x28 h (littleEndian 4 a.toNat ++ littleEndian 2 seg.toNat ++ [e, t]))
  | .zoomHome h => some (entryBytes 0x29 h [])
  | .zoomGoto h t m => some (entryBytes 0x2A h (littleEndian 2 t.toNat ++ [m]))
  | .zoomSpeed h l => some (entryBytes 0x2B h [l])
  | .zoomStop h => some (entryBytes 0x2C h [])
  | .audioConfig h r e => some (entryBytes 0x30 h [r, e])
  | .audioOff h => some (entryBytes 0x31 h [])
  | .accConfigBegin h => some (entryBytes 0x38 h [])
  | .accBufferSet h i d n o m s => some (entryBytes 0x39 h [i, d, n, o, m, s])
  | .accFilterSet h ae ac am re rc rm => some (entryBytes 0x3A h [ae, ac, am, re, rc, rm])
  | .accLinkSet h p q => some (entryBytes 0x3B h [p, q])
  | .accConfigEnd h => some (entryBytes 0x3C h [])
  | .accSend h i l data => some (entryBytes 0x3D h ([i, l] ++ data))
  | .ackConditions h s => some (entryBytes 0x40 h (littleEndian 2 s.toNat))
  | .setNoticeMask h s => some (entryBytes 0x41 h (littleEndian 2 s.toNat))
  | .softReset h => some (entryBytes 0x7F h [])
  | .unknownCommand h code => some (entryBytes code.toNat h [])
  | _ => none

end Sys2Proof
end

