-- ==== Sys2Proof/Config.lean ====
section
/-! DEFINITION. The fixed numbers of the OB-470 (each with the rule that gives it) and the one value the manual leaves open
that no operand of a row supplies (an opaque constant: no proof can see what it is). -/

namespace Sys2Proof.Config

/-- Transactions the in-order queue holds at most (R70). -/
def upstreamQueueCap : Nat := 8
/-- The fairness cap: host grants in a row while an eligible internal request waits (R83). -/
def hostGrantCap : Nat := 8
/-- Bytes of a line of the memory ports (00_scope, "Transactions"). -/
def lineBytes : Nat := 128
/-- Granule of region bases and sizes, and size of the control page and of a card page (R74, R78, R36). -/
def pageBytes : Nat := 4096
/-- Entries the Entry List holds at most (R19). -/
def entryListCap : Nat := 64
/-- Entries the Clip Index holds at most (R35). -/
def clipIndexCap : Nat := 255
/-- Page Queue records the assembler opens at most (R37). -/
def pageQueueCap : Nat := 8
/-- Pages of an allocation unit (R44). -/
def auPages : Nat := 1024
/-- Bytes kept free between the widest retained span and the ring (R1, R4). -/
def ringReserve : Nat := 65536
/-- Smallest AU count a card may report (R44, R47). -/
def minAuCount : Nat := 16
/-- LINK descriptors in a row that end a chain (R54). -/
def linkRunCap : Nat := 4
/-- Awaiting pages at which a running erase is held, and at which a held one is continued (R60, R61). -/
def holdBacklog : Nat := 6
def continueBacklog : Nat := 2
/-- Microseconds that must have passed since ERASE_CONTINUE before ERASE_HOLD (R60). -/
def holdSpacing : Nat := 1000
/-- Failed gyro reads that raise GYRO_FAULT (R89). -/
def gyroFailCap : Nat := 5
/-- Largest margin of a view axis, in pixels (R96, R107). -/
def maxMargin : Nat := 1023
/-- Bytes of an audio block, its lines and its sample periods (R152, R154). -/
def blockBytes : Nat := 12288
def blockLines : Nat := 96
def blockPeriods : Nat := 1024
/-- Most block slots of an AUDIO region (R153). -/
def maxBlockSlots : Nat := 512
/-- Frames the elastic store holds, and at which its priming ends (R150). -/
def elasticCap : Nat := 8
def primingLevel : Nat := 4
/-- Bit clocks of a frame, the bit count at which a frame is missing and the count after a miss (R146, R147). -/
def frameBits : Nat := 128
def countAfterMiss : Nat := 2
/-- Frame syncs in a row that lock, and misses that drop the lock (R146, R148). -/
def lockRun : Nat := 4
def missCap : Nat := 3
/-- Sample periods of a meter window and windows a peak is held (R157, R158). -/
def meterWindow : Nat := 960
def meterHold : Nat := 50
/-- The sixteen meter thresholds, segment 1 first (R157). -/
def meterThresholds : List Nat :=
  [8389, 26527, 83886, 132950, 265271, 529285, 838861, 1056063, 1491729, 2107123, 2976390, 4204263, 5292854, 6663308,
    7476355, 8388607]
/-- Unread notices the report ring holds at most, and entries the command ring holds (R188, R189, R193). -/
def reportRingCap : Nat := 64
def commandRingCap : Nat := 16
/-- A freshness count that stays stale (R177). -/
def staleCount : Nat := 255

/-- The encoder count after an accepted edge that would take the signed 32-bit count past its range (R138 gives no value
there): the count before and whether the direction is TELE. Free: it has no body. -/
opaque encoderPastRange : Word32 → Bool → Word32

end Sys2Proof.Config
end

