-- ==== Sys2Proof/Machine/State.lean ====
section
/-! DEFINITION. The state of the OB-470: every block's registers, lists, marks and outputs as plain data, the queue of waiting
commands, and the machine right after a hard reset (RESET_N low). -/

namespace Sys2Proof.Machine

/-! ### Names the manual gives (R205) -/

/-- Result codes of commands; `aborted` is a final result only (R191, R192, R205). -/
inductive Result where
  | ok | accepted | busy | badArg | badState | noMedia | notHomed | unknown | aborted
  deriving DecidableEq, Repr

/-- A command kept while it is outstanding (R192). -/
structure Kept where
  code : Byte
  tag : Word16
  notify : Bool
  deriving DecidableEq, Repr

/-- The fourteen conditions in the order of their numbers (R205). -/
inductive Condition where
  | streamOverrun | audioOverrun | audioUnlocked | cardAFault | cardBFault | mediaExhausted | zoomFault | gyroFault
  | accQueueOverrun | accLinkError | gripStale | cmdRingOverrun | audioSlip | aliasFault
  deriving DecidableEq, Repr

/-- The states of a condition (R198). -/
inductive CondState where
  | clear | active | ackedActive | latched
  deriving DecidableEq, Repr

/-- The recording states (2.1). -/
inductive RecState where
  | idle | armed | recording | stopping
  deriving DecidableEq, Repr

/-- The recording modes (R22). -/
inductive Mode where
  | singleA | singleB | relayAB | relayBA | mirror
  deriving DecidableEq, Repr

/-- The card states (3.2). -/
inductive CardState where
  | absent | probing | ready | active | full | failed | writeProtected | asleep
  deriving DecidableEq, Repr

/-- The chain states of a card controller (3.2). -/
inductive ChainStatus where
  | none | loading | set
  deriving DecidableEq, Repr

/-- The axis states of the Motion Unit (5.4). -/
inductive AxisState where
  | off | steady | pan | hold
  deriving DecidableEq, Repr

/-- The servo states of the Zoom Drive (7.5). -/
inductive ServoState where
  | unhomed | idle | speed | goto | homing | fault
  deriving DecidableEq, Repr

/-- The direction of the lens: TELE moves toward Zmax (7.1). -/
inductive ZoomDir where
  | wide | tele
  deriving DecidableEq, Repr

/-- The audio states (8.1). -/
inductive AudioState where
  | off | seek | locked | holdover
  deriving DecidableEq, Repr

/-- The audio roles (R144). -/
inductive AudioRole where
  | follower | master
  deriving DecidableEq, Repr

/-- The link states (9.2). -/
inductive LinkState where
  | off | config | running
  deriving DecidableEq, Repr

/-! ### Stream Tap (chapter 1) -/

/-- The kind of an entry (R18). -/
inductive EntryKind where
  | key | mark
  deriving DecidableEq, Repr

/-- A key-frame entry (R18). -/
structure Entry where
  kind : EntryKind
  pos : Nat
  frame : Word32
  timecode : Word32
  deriving DecidableEq, Repr

/-- The cases of a stream write (R6). -/
inductive WriteCase where
  | append | patch | straddle | latePatch | gap
  deriving DecidableEq, Repr

/-- A classified stream write: its case, ring offset, length, start position, new cursor value and, for a gap, the skipped
length (R6, R9, R11). -/
structure StreamWrite where
  kase : WriteCase
  offset : Nat
  len : Nat
  start : Nat
  newCursor : Nat
  skipped : Nat
  deriving DecidableEq, Repr

/-- The Stream Tap: positions, Entry List, held write (its presence is the running hold timer), the mark that a REC_STOP was taken
during the hold (R15, log 31), discontinuity mark and TAP_EVENT counts (R3, R10, R11, R14, R19). -/
structure Tap where
  cursor : Nat
  floor : Nat
  ship : Nat
  entries : List Entry
  held : Option StreamWrite
  stopHold : Bool
  discontinuity : Bool
  latePatches : Word16
  gaps : Word16
  indexPartials : Word16
  indexStales : Word16
  deriving DecidableEq, Repr

/-! ### Memory path (chapter 4) -/

/-- An ALIAS region: its parameters, the geometry taken from the FRAME region it was bound to, and whether it is still bound
(R107, R108). -/
structure AliasGeometry where
  frameRecord : Nat
  wOut : Nat
  hOut : Nat
  slotCount : Nat
  bpp : Nat
  stride : Nat
  slotSize : Nat
  frameBase : Nat
  marginX : Nat
  marginY : Nat
  bound : Bool
  deriving DecidableEq, Repr

/-- What a region is for, with the parameters of its kind (R1, R106, R107). -/
inductive RegionKind where
  | stream (prerecordBytes lateWindow holdLimit : Nat)
  | index
  | frame (slotCount bpp wIn hIn stride : Nat)
  | aliasView (g : AliasGeometry)
  | audio
  deriving DecidableEq, Repr

/-- An occupied record of the Region Table (4.2). -/
structure Region where
  base : Nat
  size : Nat
  kind : RegionKind
  deriving DecidableEq, Repr

/-- The progress of an in-order queue entry (R70). -/
inductive Progress where
  | held | waiting | issued | done
  deriving DecidableEq, Repr

/-- One downstream transaction of a queue entry: what is issued, and for a read how many leading bytes of its data are dropped
and how many bytes it is responsible for (R80, R115). -/
structure Piece where
  txn : Transaction
  skip : Nat
  count : Nat
  deriving DecidableEq, Repr

/-- An entry of the in-order queue. `serial` numbers the takes (the model's own, to name the writes that a read waits for);
`pieces` is the treatment, as the downstream transactions it leads to (none for a discarded write); `data` gathers read data in
upstream order (R70, R71, R80); `snooped` says that the index words it writes are handed on at its issue (R78). -/
structure QueueEntry where
  serial : Nat
  txn : Transaction
  pieces : List Piece
  issued : Nat
  returned : Nat
  progress : Progress
  data : List Byte
  snooped : Bool
  deriving DecidableEq, Repr

/-- An internal read that a requester presents, with the serials of the host writes that must be issued before it is eligible
(R84). -/
structure ReadRequest where
  addr : Nat
  len : Nat
  after : List Nat
  deriving DecidableEq, Repr

/-- Who a downstream completion is routed to (R72). `ignored` is a write of the part whose acknowledgement nothing waits for,
or a read whose requester abandoned it. -/
inductive Destination where
  | host (serial : Nat)
  | card (slot : CardSlot)
  | video (start stop skip : Nat)
  | audioPayload
  | commandEntry
  | focalTable
  | speedTable
  | producerWord (value : Word16)
  | ignored
  deriving DecidableEq, Repr

/-- A transaction issued downstream and not yet completed (R72). -/
structure Issued where
  txn : Transaction
  dest : Destination
  deriving DecidableEq, Repr

/-- The Path Unit (R70 to R87). `resetLow` is the RESET_N input held low; `memSize` the size sampled from MEMTOP; `upstreamOut`
the newest completion returned to the host (read data, empty for a write). -/
structure Path where
  resetLow : Bool
  memSize : Nat
  regions : Vector (Option Region) 8
  queue : List QueueEntry
  nextSerial : Nat
  inFlight : List Issued
  hostGrants : Nat
  producerCopy : Word16
  consumerCopy : Word16
  upstreamOut : Option (List Byte)
  deriving DecidableEq, Repr

/-! ### Clip Assembler (chapter 2) -/

/-- A set of the two cards: target, written and failed sets of a page (R37). -/
structure CardSet where
  a : Bool
  b : Bool
  deriving DecidableEq, Repr

/-- A record of the Page Queue (R36, R37). -/
structure PageRecord where
  clip : Word16
  target : CardSet
  written : CardSet
  failed : CardSet
  firstHeader : Nat
  sealed : Bool
  content : List Byte
  deriving DecidableEq, Repr

/-- Clip bytes built or read and not yet laid into a page; `header` marks a run whose first byte begins a chunk header (R36). -/
structure LayRun where
  header : Bool
  bytes : List Byte
  deriving DecidableEq, Repr

/-- The payload reads of the chunk in progress: none, or the next byte (or line) to ask for, the next to return, and the end
(R33, R34). -/
inductive PayloadRun where
  | none
  | video (next returned stop : Nat)
  | audio (slot base next returned : Nat)
  deriving DecidableEq, Repr

/-- The audio stop block of a stopping clip (R27). -/
inductive AudioStop where
  | unfixed
  | upTo (block : Word32)
  | nothing
  deriving DecidableEq, Repr

/-- The Clip Assembler (R22 to R43). `targets` is the card, or in MIRROR the cards, that the clip is on; `relayHead` says that the
next page opened begins with a RELAY_CONTINUE CLIP_HEAD (R39); `closed` says that the clip has no more chunks. -/
structure Clip where
  state : RecState
  mode : Mode
  chunkMax : Nat
  chunkMin : Nat
  gripRec : Bool
  clipNumber : Word16
  lastClip : Word16
  startCursor : Nat
  clipStart : Nat
  preRecord : Nat
  startFrame : Word32
  videoStamp : Word32
  chunkSeq : Word32
  index : List Entry
  audioPart : Bool
  shipPtr : Option Word32
  audioDiscontinuity : Bool
  audioStop : AudioStop
  stopPos : Nat
  stopCmd : Option Kept
  targets : CardSet
  pages : List PageRecord
  lay : List LayRun
  run : PayloadRun
  readReq : Option ReadRequest
  relayHead : Bool
  closed : Bool
  deriving DecidableEq, Repr

/-! ### Card Controllers (chapter 3) -/

/-- The erase state of an AU (3.2). -/
inductive EraseState where
  | needed | erasing | erased
  deriving DecidableEq, Repr

/-- The lookahead (3.2). -/
inductive Lookahead where
  | unresolved
  | au (number : Word16) (erase : EraseState)
  | theEnd
  deriving DecidableEq, Repr

/-- A chain descriptor as read (R210). -/
structure Descriptor where
  value : Word32
  kind : Byte
  flags : Byte
  deriving DecidableEq, Repr

/-- What the walk in progress resolves: nothing, the first AU of a chain, or the lookahead (R52, R55). -/
inductive WalkGoal where
  | none | first | lookahead
  deriving DecidableEq, Repr

/-- Which AU an outstanding erase is for: the current one, the lookahead, or one that has left the chain (R57). -/
inductive EraseRole where
  | current | lookahead | orphan
  deriving DecidableEq, Repr

/-- The erase record: AU, which AU of the chain it is, whether HELD, and running time used in µs (3.2, R61). -/
structure EraseRecord where
  au : Word16
  role : EraseRole
  held : Bool
  used : Nat
  deriving DecidableEq, Repr

/-- A CARD_SLEEP or CARD_EJECT that waits for an erase (3.2). -/
inductive PendingRequest where
  | sleep (k : Kept)
  | eject (k : Kept)
  deriving DecidableEq, Repr

/-- The state an ASLEEP card returns to (3.2). -/
inductive SleepOrigin where
  | none | ready | full
  deriving DecidableEq, Repr

/-- The operation outstanding on a card link, apart from an erase that runs by itself (R45): `drain…` are what a SOFT_RESET
left running (R69). -/
inductive CardPhase where
  | idle | ident | unlockPage | unlockErase (role : EraseRole) | pageWrite | holdCheck | continueCheck | wake
  | drainPage | drainWake
  deriving DecidableEq, Repr

/-- The card link operations (R44, R212). -/
inductive CardOp where
  | ident | status | unlock
  | pageWrite (au : Word16) (page : Nat) (content : List Byte)
  | auErase (au : Word16)
  | eraseHold | eraseContinue | sleep | wake
  deriving DecidableEq, Repr

/-- A Card Controller (3.2). `detect` and `protectInput` are the slot's inputs as last given; `settling` the running 50 ms settle
timer; `statusOut` a STATUS whose response has not come; `holdRefused` says that the last ERASE_HOLD was not taken, so that the
next try follows the next poll (R60); `rolloverWait` a rollover that waits for the lookahead (R56); `badEnd` a chain ended by
CHAIN_BAD (R54); `issuedOps` the operations the newest step that issued any put on the link (an output of the model). -/
structure Card where
  detect : Bool
  protectInput : Bool
  state : CardState
  settling : Bool
  identified : Bool
  auCount : Word16
  serial : Word64
  cardProtect : Bool
  chain : ChainStatus
  chainCmd : Option Kept
  nextGroup : Nat
  group : List Descriptor
  groupAddr : Nat
  groupIndex : Nat
  linkRun : Nat
  badEnd : Bool
  walk : WalkGoal
  fetchReq : Option ReadRequest
  au : Option Word16
  pageIndex : Nat
  eraseState : EraseState
  lookahead : Lookahead
  erase : Option EraseRecord
  lastContinue : Option Nat
  request : Option PendingRequest
  wakeCmd : Option Kept
  sleepOrigin : SleepOrigin
  badAus : Word16
  phase : CardPhase
  statusOut : Bool
  holdRefused : Bool
  rolloverWait : Bool
  issuedOps : List CardOp
  deriving DecidableEq, Repr

/-! ### Motion Unit (chapter 5) -/

/-- One axis of the Motion Unit (5.1). -/
structure Axis where
  state : AxisState
  angle : Int
  shift : Int
  panEnterCount : Nat
  panExitCount : Nat
  bias : Int
  inverted : Bool
  deriving DecidableEq, Repr

/-- The Motion Unit (5.1). `reading` is a gyro read in flight, during which the part holds the gyro's select asserted; `portOut` holds
the bits that the newest read sent on the motion port, in the order sent (R88, R213; an output of the model, log 36). -/
structure Motion where
  x : Axis
  y : Axis
  lastYaw : Int
  lastPitch : Int
  failures : Nat
  sampling : Bool
  reading : Bool
  portOut : List Bool
  kSteady : Nat
  kPan : Nat
  panThreshold : Nat
  panEnter : Nat
  panExit : Nat
  focal : Vector Nat 33
  deriving DecidableEq, Repr

/-! ### View Translator (chapter 6) -/

/-- What a FILLING or READY record holds (6.2). -/
structure FrameRecord where
  frame : Word32
  shiftX : Int
  shiftY : Int
  zoomPos : Nat
  axisX : AxisState
  axisY : AxisState
  deriving DecidableEq, Repr

/-- A record of the Slot Table (R109). -/
inductive SlotRecord where
  | empty
  | filling (r : FrameRecord)
  | ready (r : FrameRecord)
  deriving DecidableEq, Repr

/-- The View Translator: the Slot Table (no records while no FRAME region is set), the frame count and the ALIAS_WRITE count. -/
structure View where
  slots : List SlotRecord
  frameCount : Word32
  aliasWrites : Word16
  deriving DecidableEq, Repr

/-! ### Zoom Drive (chapter 7) -/

/-- An entry of the Speed Table, and a prescaler and reload pair of the lens timer (7.3, R122): `prescaler` is 1, 2, 16 or 128. -/
structure TimerSetting where
  prescaler : Nat
  reload : Nat
  deriving DecidableEq, Repr

structure SpeedEntry where
  setting : TimerSetting
  braking : Nat
  deriving DecidableEq, Repr

/-- The move in progress in GOTO (7.1). -/
structure GotoRecord where
  target : Nat
  maxLevel : Nat
  braking : Bool
  cmd : Kept
  deriving DecidableEq, Repr

/-- An input filter: its filtered level, the run of differing samples and the previous sample (R137). -/
structure InputFilter where
  level : Bool
  run : Nat
  last : Bool
  deriving DecidableEq, Repr

/-- The Zoom Drive (7.1). `enable` is the ENABLE output and `enableOffPending` its wait for the stopping underflow; `dir` is the
DIR output, `step` the STEP output. -/
structure Zoom where
  servo : ServoState
  homed : Bool
  configured : Bool
  pos : Nat
  level : Nat
  dir : ZoomDir
  running : Bool
  stopRequest : Bool
  stored : TimerSetting
  active : TimerSetting
  counter : Nat
  step : Bool
  enable : Bool
  enableOffPending : Bool
  hostDemand : Int
  move : Option GotoRecord
  override : Bool
  homingSteps : Nat
  homingCmd : Option Kept
  encoder : Word32
  encFilter : InputFilter
  homeFilter : InputFilter
  speeds : Vector SpeedEntry 16
  seg : Nat
  e : Nat
  tolerance : Nat
  deriving DecidableEq, Repr

/-! ### Audio Unit (chapter 8) -/

/-- One frame of four 24-bit samples, channel 0 first (R144). -/
structure AudioFrame where
  c0 : Sample
  c1 : Sample
  c2 : Sample
  c3 : Sample
  deriving DecidableEq, Repr

/-- A frame of the elastic store with its REPEAT mark (R150). -/
structure StoredFrame where
  frame : AudioFrame
  repeated : Bool
  deriving DecidableEq, Repr

/-- The flags of an audio block: one MUTED flag per channel and DEGRADED (R152). -/
structure BlockFlags where
  muted : BitVec 4
  degraded : Bool
  deriving DecidableEq, Repr

/-- What a FILLING or DONE record of the Audio Block Table holds (R154). -/
structure BlockInfo where
  number : Word32
  stamp : Word32
  flags : BlockFlags
  deriving DecidableEq, Repr

/-- A record of the Audio Block Table (R154). -/
inductive BlockRecord where
  | free
  | filling (i : BlockInfo)
  | done (i : BlockInfo)
  deriving DecidableEq, Repr

/-- The block taking samples: its number and stamp, the index of its next sample period, and the bytes of its incomplete line
(R152, R154, R155). -/
structure CurrentBlock where
  number : Word32
  stamp : Word32
  index : Nat
  partialLine : List Byte
  deriving DecidableEq, Repr

/-- A complete line that waits for its grant (R154). -/
structure AudioLine where
  number : Word32
  line : Nat
  addr : Nat
  bytes : List Byte
  deriving DecidableEq, Repr

/-- A channel's meter (R157, R158). -/
structure Meter where
  peak : Nat
  segment : Nat
  held : Nat
  holdCount : Nat
  deriving DecidableEq, Repr

/-- The Audio Unit (chapter 8). `blocks` is the Audio Block Table, no records while no AUDIO region is set; `windowCount` counts
the sample periods of the meter window; `slipTimer` is the running 1 s timer of AUDIO_SLIP; `driving` says that the part drives BCLK
and FS (R144, R159); `seekFresh` says that no frame sync event has come since the entry to SEEK (R146). -/
structure Audio where
  state : AudioState
  role : AudioRole
  enables : BitVec 4
  bitCount : Nat
  syncRun : Nat
  seekFresh : Bool
  missCount : Nat
  everLocked : Bool
  lastArrived : AudioFrame
  lastDrained : AudioFrame
  store : List StoredFrame
  priming : Bool
  slipTimer : Bool
  driving : Bool
  blocks : List BlockRecord
  nextBlock : Word32
  current : Option CurrentBlock
  lines : List AudioLine
  meters : Vector Meter 4
  windowCount : Nat
  deriving DecidableEq, Repr

/-! ### Accessory Link Controller (chapter 9) -/

/-- Who supplies or takes a dedicated buffer's content (9.3). -/
inductive BufferOwner where
  | host | gripIn | tallyOut | meterOut | lensOut
  deriving DecidableEq, Repr

/-- A received content: the length is that of the data (9.3). -/
structure LinkContent where
  data : List Byte
  deriving DecidableEq, Repr

/-- A dedicated RECEIVE buffer (9.3). -/
structure ReceiveBuffer where
  identifier : BitVec 4
  owner : BufferOwner
  staleCycles : Nat
  content : Option LinkContent
  freshness : Nat
  notified : Option LinkContent
  deriving DecidableEq, Repr

/-- A dedicated TRANSMIT buffer: `content` present means FULL (9.3). -/
structure TransmitBuffer where
  identifier : BitVec 4
  owner : BufferOwner
  oneshot : Bool
  content : Option LinkContent
  waitingSend : Option Kept
  deriving DecidableEq, Repr

/-- One of the sixteen message buffers (9.3). -/
inductive LinkBuffer where
  | unconfigured
  | receive (r : ReceiveBuffer)
  | transmit (t : TransmitBuffer)
  deriving DecidableEq, Repr

/-- A message of the receive queue (R175). -/
structure QueueMessage where
  identifier : BitVec 4
  data : List Byte
  deriving DecidableEq, Repr

/-- What the part drives on the accessory line: nothing, the cycle mark, or a message in a slot, with the ONESHOT send that its
content carries (R164, R165, R182). -/
inductive LineDrive where
  | released
  | mark
  | message (slot : BitVec 4) (bytes : List Byte) (send : Option Kept)
  deriving DecidableEq, Repr

/-- Acceptance and rejection filter (R174). -/
structure LinkFilter where
  acceptEnable : Bool
  acceptCode : BitVec 4
  acceptMask : BitVec 4
  rejectEnable : Bool
  rejectCode : BitVec 4
  rejectMask : BitVec 4
  deriving DecidableEq, Repr

/-- The Accessory Link Controller (chapter 9). `startWait` and `stopWait` hold the command that waits; `errors` is the error
window, bit 0 the cycle in progress (R168); `heard` marks the slots of this cycle whose one message has been judged (R166). -/
structure Acc where
  link : LinkState
  startWait : Option Kept
  stopWait : Option Kept
  periodMs : Nat
  q : Nat
  buffers : Vector LinkBuffer 16
  filter : LinkFilter
  queue : List QueueMessage
  errors : BitVec 8
  heard : BitVec 16
  line : LineDrive
  deriving DecidableEq, Repr

/-! ### Command and Notice Unit (chapter 10) -/

/-- REC_STATE events (R205). -/
inductive RecEvent where
  | started | stopped | aborted | refused
  deriving DecidableEq, Repr

/-- ZOOM_DONE outcomes (R205). -/
inductive ZoomOutcome where
  | reached | homed | aborted | fault
  deriving DecidableEq, Repr

/-- The sources of TAP_EVENT (R207). -/
inductive TapSource where
  | latePatch | gap | indexPartial | indexStale | aliasWrite
  deriving DecidableEq, Repr

/-- A notice as its owner posts it; counts, condition states and the sequence are added when it is written (R194, R195, R207). -/
inductive Notice where
  | condition (c : Condition)
  | cmdDone (cmd : Kept) (final : Result)
  | recState (event : RecEvent) (state : RecState) (result : Option Result) (mode : Mode) (clip : Word16) (chunks : Word32)
  | cardState (slot : CardSlot) (new previous : CardState) (au : Option Word16) (page : Nat) (probed : Option (Word16 × Word64))
  | chainBad (slot : CardSlot) (descriptor : Nat)
  | auBad (slot : CardSlot) (au : Word16)
  | zoomDone (home : Bool) (outcome : ZoomOutcome) (pos : Nat) (target : Option Nat) (tag : Word16)
  | tapEvent (source : TapSource) (offset skipped : Nat)
  | accMsg (buffer : Nat) (identifier : BitVec 4) (stale : Bool) (data : List Byte)
  deriving DecidableEq, Repr

/-- A stamped notice, pending or about to be written, with its fold count (R192, R193, R195). -/
structure StampedNotice where
  notice : Notice
  frame : Word32
  folds : Nat
  deriving DecidableEq, Repr

/-- What a rank 6 write is, where something waits on its presentation or acknowledgement (R194, R201). -/
inductive WriteTag where
  | plain
  | producerWord (value : Word16)
  | statusLine
  deriving DecidableEq, Repr

/-- A write that the unit presents at rank 6 (R81). -/
structure ReportWrite where
  addr : Nat
  lanes : List LaneByte
  tag : WriteTag
  deriving DecidableEq, Repr

/-- The command entry in progress: none; its entry read; or a command whose table read is outstanding (R190, R102, R125). -/
inductive CommandPhase where
  | idle
  | entry
  | focal (cmd : Kept)
  | zoom (cmd : Kept) (seg e tolerance : Nat)
  deriving DecidableEq, Repr

/-- The Command and Notice Unit (R188 to R204). -/
structure Control where
  consumer : Word16
  effectiveProducer : Word16
  reportProducer : Word16
  published : Word16
  phase : CommandPhase
  readReq : Option ReadRequest
  writes : List ReportWrite
  pendingNotices : List StampedNotice
  conditions : Vector CondState 14
  noticeMask : Word16
  writeCount : Word32
  rewrite : Bool
  statusTimer : Bool
  deriving DecidableEq, Repr

/-- What a block hands to the Command and Notice Unit in a step: a notice, the start of a cause, the end of a cause (R193,
R198). -/
inductive Report where
  | post (n : Notice)
  | start (c : Condition)
  | stop (c : Condition)
  deriving DecidableEq, Repr

/-! ### The regions in force, read back from the Region Table -/

/-- The STREAM region and its parameters (R1). -/
structure StreamRegion where
  base : Nat
  size : Nat
  prerecordBytes : Nat
  lateWindow : Nat
  holdLimit : Nat
  deriving DecidableEq, Repr

/-- The FRAME region, its parameters and the number of its record (R106). -/
structure FrameRegion where
  record : Nat
  base : Nat
  slotCount : Nat
  bpp : Nat
  wIn : Nat
  hIn : Nat
  stride : Nat
  deriving DecidableEq, Repr

/-- An internal requester of the downstream arbiter, in rank order (R81). -/
inductive Requester where
  | audioUnit
  | card (slot : CardSlot)
  | clipAssembler
  | commandReads
  | reportWrites
  deriving DecidableEq, Repr

/-- The room of a card, or of the cards of a target set: unbounded or a number of bytes, which may count against an UNRESOLVED
lookahead (R38, R55). -/
structure Room where
  bytes : Option Nat
  unresolved : Bool
  deriving DecidableEq, Repr

/-- The chunk a boundary chooses: INDEX, the AUDIO chunk of a DONE block, or VIDEO of a payload length (R32). -/
inductive ChunkPick where
  | index
  | audio (i : BlockInfo)
  | video (length : Nat)
  deriving DecidableEq, Repr

/-! ### The whole part -/

/-- The state of the part, the queue of commands that wait (`pending`, first in, first out), and the model's clock `now`, in µs,
that the elapsed times of the card rows advance. -/
structure State where
  path : Path
  tap : Tap
  clip : Clip
  cardA : Card
  cardB : Card
  motion : Motion
  view : View
  zoom : Zoom
  audio : Audio
  acc : Acc
  control : Control
  now : Nat
  pending : List Instr
  deriving DecidableEq, Repr

/-- Why the machine stops with a fault. -/
inductive Fault where
  /-- A row whose operands do not have the form the manual gives them (`Instr.wellFormed`): a transaction outside the form of
  the ports, a message whose data do not match its length byte. Raised by HOST_TRANSACTION_TAKE, ACC_MESSAGE_RECEIVE,
  SET_REGION, UNKNOWN_COMMAND and ACC_SEND on such operands only. Safe: the manual has no such operand. -/
  | malformedOperand
  deriving DecidableEq, Repr

/-- Why the model gives no answer. -/
inductive Refusal where
  /-- An instruction that has no meaning yet, by the table's mnemonic. Raised by exec's refused arms (there is none). Safe. -/
  | notModelled (mnemonic : String)
  deriving DecidableEq, Repr

/-! ### Values after a hard reset -/

/-- R21. -/
def Tap.reset : Tap :=
  { cursor := 0, floor := 0, ship := 0, entries := [], held := none, stopHold := false, discontinuity := false, latePatches := 0,
    gaps := 0, indexPartials := 0, indexStales := 0 }

/-- R85. The memory size is sampled at the release (R86); until then nothing reads it (log 3). -/
def Path.reset : Path :=
  { resetLow := true, memSize := 134217728, regions := Vector.replicate 8 none, queue := [], nextSerial := 0, inFlight := [],
    hostGrants := 0, producerCopy := 0, consumerCopy := 0, upstreamOut := none }

def CardSet.empty : CardSet := ⟨false, false⟩

/-- R43. -/
def Clip.reset : Clip :=
  { state := .idle, mode := .singleA, chunkMax := 262144, chunkMin := 65536, gripRec := false, clipNumber := 0, lastClip := 0,
    startCursor := 0, clipStart := 0, preRecord := 0, startFrame := 0, videoStamp := 0, chunkSeq := 0, index := [],
    audioPart := false, shipPtr := none, audioDiscontinuity := false, audioStop := .unfixed, stopPos := 0, stopCmd := none,
    targets := CardSet.empty, pages := [], lay := [], run := .none, readReq := none,
    relayHead := false, closed := false }

/-- R68. -/
def Card.reset : Card :=
  { detect := false, protectInput := false, state := .absent, settling := false, identified := false, auCount := 0, serial := 0,
    cardProtect := false, chain := .none, chainCmd := none, nextGroup := 0, group := [], groupAddr := 0, groupIndex := 0,
    linkRun := 0, badEnd := false, walk := .none, fetchReq := none, au := none, pageIndex := 0, eraseState := .needed,
    lookahead := .unresolved, erase := none, lastContinue := none, request := none, wakeCmd := none, sleepOrigin := .none,
    badAus := 0, phase := .idle, statusOut := false, holdRefused := false, rolloverWait := false, issuedOps := [] }

/-- R104. -/
def Axis.reset : Axis :=
  { state := .off, angle := 0, shift := 0, panEnterCount := 0, panExitCount := 0, bias := 0, inverted := false }

/-- R104. -/
def Motion.reset : Motion :=
  { x := Axis.reset, y := Axis.reset, lastYaw := 0, lastPitch := 0, failures := 0, sampling := false, reading := false,
    portOut := [], kSteady := 10, kPan := 5, panThreshold := 2560, panEnter := 64, panExit := 256, focal := Vector.replicate 33 16 }

/-- R120. -/
def View.reset : View := { slots := [], frameCount := 0, aliasWrites := 0 }

/-- R142. The filters take their level from the first samples, at the release (R137). -/
def Zoom.reset : Zoom :=
  { servo := .unhomed, homed := false, configured := false, pos := 0, level := 0, dir := .wide, running := false,
    stopRequest := false, stored := ⟨128, 65535⟩, active := ⟨128, 65535⟩, counter := 65535, step := false, enable := false,
    enableOffPending := false, hostDemand := 0, move := none, override := false, homingSteps := 0, homingCmd := none,
    encoder := 0, encFilter := ⟨false, 0, false⟩, homeFilter := ⟨false, 0, false⟩,
    speeds := Vector.replicate 16 ⟨⟨128, 65535⟩, 0⟩, seg := 16, e := 1, tolerance := 4 }

def silentFrame : AudioFrame := ⟨0, 0, 0, 0⟩

/-- R162. -/
def Audio.reset : Audio :=
  { state := .off, role := .follower, enables := 0, bitCount := 0, syncRun := 0, seekFresh := false, missCount := 0,
    everLocked := false,
    lastArrived := silentFrame, lastDrained := silentFrame, store := [], priming := false, slipTimer := false, driving := false,
    blocks := [], nextBlock := 0, current := none, lines := [], meters := Vector.replicate 4 ⟨0, 0, 0, 0⟩, windowCount := 0 }

/-- R186. -/
def Acc.reset : Acc :=
  { link := .off, startWait := none, stopWait := none, periodMs := 4, q := 0, buffers := Vector.replicate 16 .unconfigured,
    filter := ⟨false, 0, 0, false, 0, 0⟩, queue := [], errors := 0, heard := 0, line := .released }

/-- R204. -/
def Control.reset : Control :=
  { consumer := 0, effectiveProducer := 0, reportProducer := 0, published := 0, phase := .idle, readReq := none, writes := [],
    pendingNotices := [], conditions := Vector.replicate 14 .clear, noticeMask := 0, writeCount := 0, rewrite := false,
    statusTimer := false }

/-- The machine in hard reset, RESET_N low: the state of R21, R43, R68, R85, R104, R120, R142, R162, R186 and R204. A program
runs from its first RESET_N_RELEASE (log 3). -/
def State.reset : State :=
  { path := Path.reset, tap := Tap.reset, clip := Clip.reset, cardA := Card.reset, cardB := Card.reset, motion := Motion.reset,
    view := View.reset, zoom := Zoom.reset, audio := Audio.reset, acc := Acc.reset, control := Control.reset, now := 0, pending := [] }

/-! ### Setters -/

def State.setPath (s : State) (v : Path) : State := { s with path := v }
def State.setTap (s : State) (v : Tap) : State := { s with tap := v }
def State.setClip (s : State) (v : Clip) : State := { s with clip := v }
def State.setMotion (s : State) (v : Motion) : State := { s with motion := v }
def State.setView (s : State) (v : View) : State := { s with view := v }
def State.setZoom (s : State) (v : Zoom) : State := { s with zoom := v }
def State.setAudio (s : State) (v : Audio) : State := { s with audio := v }
def State.setAcc (s : State) (v : Acc) : State := { s with acc := v }
def State.setControl (s : State) (v : Control) : State := { s with control := v }
def State.setPending (s : State) (v : List Instr) : State := { s with pending := v }
def State.setNow (s : State) (v : Nat) : State := { s with now := v }

/-- The controller of a slot. -/
def State.card (s : State) : CardSlot → Card
  | .a => s.cardA
  | .b => s.cardB

def State.setCard (s : State) : CardSlot → Card → State
  | .a, v => { s with cardA := v }
  | .b, v => { s with cardB := v }

end Sys2Proof.Machine
end

