-- ==== Sys2Proof/Machine/Flags.lean ====
section
/-! DEFINITION. Codes (R205), flag bytes, condition sets and the two cyclic redundancy checks (R165, R209). -/

namespace Sys2Proof.Machine

/-! ### Codes of R205 -/

def Result.code : Result → Byte
  | .ok => 0 | .accepted => 1 | .busy => 2 | .badArg => 3 | .badState => 4 | .noMedia => 5 | .notHomed => 6 | .unknown => 7
  | .aborted => 8

def Mode.code : Mode → Byte
  | .singleA => 0 | .singleB => 1 | .relayAB => 2 | .relayBA => 3 | .mirror => 4

/-- The mode a mode byte names; 0xFF is the default SINGLE_A (R22, R206). -/
def modeOf (b : Byte) : Option Mode :=
  match b.toNat with
  | 0 => some .singleA | 1 => some .singleB | 2 => some .relayAB | 3 => some .relayBA | 4 => some .mirror
  | 255 => some .singleA
  | _ => none

def RecState.code : RecState → Byte
  | .idle => 0 | .armed => 1 | .recording => 2 | .stopping => 3

def RecEvent.code : RecEvent → Byte
  | .started => 0 | .stopped => 1 | .aborted => 2 | .refused => 3

def CardState.code : CardState → Byte
  | .absent => 0 | .probing => 1 | .ready => 2 | .active => 3 | .full => 4 | .failed => 5 | .writeProtected => 6 | .asleep => 7

def ChainStatus.code : ChainStatus → Byte
  | .none => 0 | .loading => 1 | .set => 2

def AxisState.code : AxisState → Byte
  | .off => 0 | .steady => 1 | .pan => 2 | .hold => 3

def ServoState.code : ServoState → Byte
  | .unhomed => 0 | .idle => 1 | .speed => 2 | .goto => 3 | .homing => 4 | .fault => 5

def ZoomDir.code : ZoomDir → Byte
  | .wide => 0 | .tele => 1

def ZoomOutcome.code : ZoomOutcome → Byte
  | .reached => 0 | .homed => 1 | .aborted => 2 | .fault => 3

def AudioState.code : AudioState → Byte
  | .off => 0 | .seek => 1 | .locked => 2 | .holdover => 3

def AudioRole.code : AudioRole → Byte
  | .follower => 0 | .master => 1

def LinkState.code : LinkState → Byte
  | .off => 0 | .config => 1 | .running => 2

def EntryKind.code : EntryKind → Byte
  | .key => 1 | .mark => 2

/-- KEY for code 1, MARK for every other code (R18). -/
def entryKindOf (b : Byte) : EntryKind := if b = 1 then .key else .mark

def CondState.code : CondState → Byte
  | .clear => 0 | .active => 1 | .ackedActive => 2 | .latched => 3

def TapSource.code : TapSource → Byte
  | .latePatch => 0 | .gap => 1 | .indexPartial => 2 | .indexStale => 3 | .aliasWrite => 4

/-- The slot a slot code names (R205). -/
def slotOf (b : Byte) : Option CardSlot :=
  match b.toNat with
  | 0 => some .a | 1 => some .b | _ => none

def slotNumber : CardSlot → Nat
  | .a => 0 | .b => 1

def otherSlot : CardSlot → CardSlot
  | .a => .b | .b => .a

/-- The prescaler a code names: 1, 2, 16 or 128 (R205). -/
def prescalerOf (b : Byte) : Option Nat :=
  match b.toNat with
  | 0 => some 1 | 1 => some 2 | 2 => some 16 | 3 => some 128 | _ => none

/-- The period in ms a period code names; 0xFF is the default 4 ms (R172, R205). -/
def periodOf (b : Byte) : Option Nat :=
  match b.toNat with
  | 0 => some 2 | 1 => some 4 | 2 => some 5 | 3 => some 8 | 4 => some 10 | 255 => some 4 | _ => none

def ownerOf (b : Byte) : Option BufferOwner :=
  match b.toNat with
  | 0 => some .host | 1 => some .gripIn | 2 => some .tallyOut | 3 => some .meterOut | 4 => some .lensOut | _ => none

/-- A flag byte counts any non-zero value as set (R205). -/
def flagSet (b : Byte) : Bool := b != 0

/-! ### Conditions -/

/-- Condition numbers (R205). -/
def Condition.number : Condition → Fin 14
  | .streamOverrun => 0 | .audioOverrun => 1 | .audioUnlocked => 2 | .cardAFault => 3 | .cardBFault => 4
  | .mediaExhausted => 5 | .zoomFault => 6 | .gyroFault => 7 | .accQueueOverrun => 8 | .accLinkError => 9
  | .gripStale => 10 | .cmdRingOverrun => 11 | .audioSlip => 12 | .aliasFault => 13

/-- The conditions in the order of their numbers. -/
def allConditions : List Condition :=
  [.streamOverrun, .audioOverrun, .audioUnlocked, .cardAFault, .cardBFault, .mediaExhausted, .zoomFault, .gyroFault,
    .accQueueOverrun, .accLinkError, .gripStale, .cmdRingOverrun, .audioSlip, .aliasFault]

/-- A slot's FAULT condition (R50). -/
def slotFault : CardSlot → Condition
  | .a => .cardAFault | .b => .cardBFault

/-- A condition set names condition n by bit n (R205). -/
def setNames (set : Word16) (c : Condition) : Bool := set.getLsbD c.number.val

/-- A condition set names something beyond the fourteen when bit 14 or 15 is set (R206). -/
def setBeyond (set : Word16) : Bool := set.getLsbD 14 || set.getLsbD 15

/-! ### Cyclic redundancy checks -/

/-- One bit of the CRC-16 with polynomial x¹⁶ + x¹² + x⁵ + 1 (R209). -/
def crc16Bit (c : Word16) : Word16 := if c.msb then (c <<< 1) ^^^ 0x1021 else c <<< 1

def crc16Byte (c : Word16) (b : Byte) : Word16 :=
  crc16Bit (crc16Bit (crc16Bit (crc16Bit (crc16Bit (crc16Bit (crc16Bit (crc16Bit (c ^^^ (b.zeroExtend 16 <<< 8)))))))))

/-- The header CRC: initial value 0xFFFF, each byte most significant bit first, no inversion (R209). -/
def crc16 (bytes : List Byte) : Word16 := bytes.foldl crc16Byte 0xFFFF

/-- One bit of the CRC-8 with polynomial x⁸ + x² + x + 1 (R165). -/
def crc8Bit (c : Byte) : Byte := if c.msb then (c <<< 1) ^^^ 0x07 else c <<< 1

def crc8Byte (c : Byte) (b : Byte) : Byte :=
  crc8Bit (crc8Bit (crc8Bit (crc8Bit (crc8Bit (crc8Bit (crc8Bit (crc8Bit (c ^^^ b))))))))

/-- The CRC of a message: initial value 0, each byte most significant bit first, no inversion (R165). -/
def crc8 (bytes : List Byte) : Byte := bytes.foldl crc8Byte 0

/-! ### Card sets and card flags -/

def CardSet.has (c : CardSet) : CardSlot → Bool
  | .a => c.a | .b => c.b

def CardSet.add (c : CardSet) : CardSlot → CardSet
  | .a => { c with a := true } | .b => { c with b := true }

def CardSet.remove (c : CardSet) : CardSlot → CardSet
  | .a => { c with a := false } | .b => { c with b := false }

def CardSet.only : CardSlot → CardSet
  | .a => ⟨true, false⟩ | .b => ⟨false, true⟩

def CardSet.isEmpty (c : CardSet) : Bool := !c.a && !c.b

def CardSet.slots (c : CardSet) : List CardSlot := [CardSlot.a, CardSlot.b].filter c.has

/-- The card role of a CLIP_HEAD: A, B or BOTH (R31, R205). -/
def CardSet.role (c : CardSet) : Byte := if c.a && c.b then 2 else if c.b then 1 else 0

/-- The STATUS flags of a card: BUSY, UNLOCKED, HELD, ERR (R212). -/
def statusBusy (f : Byte) : Bool := f.getLsbD 0
def statusUnlocked (f : Byte) : Bool := f.getLsbD 1
def statusHeld (f : Byte) : Bool := f.getLsbD 2
def statusErr (f : Byte) : Bool := f.getLsbD 3

/-- The flag byte of a chunk header (R209). -/
def chunkFlags (discontinuity degraded relayContinue mirrored : Bool) : Byte :=
  (if discontinuity then 1 else 0) ||| (if degraded then 2 else 0) ||| (if relayContinue then 4 else 0)
    ||| (if mirrored then 8 else 0)

/-- No flag of an audio block is set (R152). -/
def BlockFlags.clear : BlockFlags := ⟨0, false⟩

/-- DEGRADED is set on the chunk of a block that carries DEGRADED or any MUTED flag (R31). -/
def BlockFlags.degradesChunk (f : BlockFlags) : Bool := f.degraded || f.muted != 0

end Sys2Proof.Machine
end

