-- ==== Sys2Proof/Machine/Operands.lean ====
section
/-! DEFINITION. The operand forms: fields with defaults, ranges of lines and beats, and the records that the part reads from
memory and from its links (R205, R206, R210, R211, R212, R213, R88). -/

namespace Sys2Proof.Machine

/-! ### Fields -/

/-- A field that selects its default when it holds its all-ones value (R1, R206). -/
def orDefault {w : Nat} (v : BitVec w) (default : Nat) : Nat := if v = BitVec.allOnes w then default else v.toNat

/-- Round toward zero (00_scope, "Integer arithmetic"). -/
def trunc (a : Int) (b : Nat) : Int := a.tdiv (b : Int)

/-- A signed value in `n` bytes, two's complement, low byte first. -/
def littleEndianInt (n : Nat) (v : Int) : List Byte := littleEndian n (v.emod ((256 : Int) ^ n)).toNat

/-- Bytes cut or filled with zeros to a fixed length (R205: unnamed bytes are 0). -/
def toLength (n : Nat) (bytes : List Byte) : List Byte := (bytes ++ List.replicate n (0 : Byte)).take n

/-- A field as the value v when present and 0 when absent (R205). -/
def orZero (v : Option Nat) : Nat := v.getD 0

/-! ### Lines, beats and ranges (00_scope, "Transactions") -/

/-- Bytes from an address to the end of its 128-byte line. -/
def toLineEnd (addr : Nat) : Nat := Config.lineBytes - addr % Config.lineBytes

/-- The whole 8-byte beats that hold `n` bytes from `addr`, as one read (R115). -/
def beatRead (addr n : Nat) : Transaction := .read (addr / 8 * 8) ((addr + n + 7) / 8 * 8 - addr / 8 * 8)

/-- A downstream read responsible for `n` bytes from `addr` (R115). -/
def piece (addr n : Nat) : Piece := ⟨beatRead addr n, addr % 8, n⟩

/-- Lanes that write every byte of a list. -/
def allLanes (bytes : List Byte) : List LaneByte := bytes.map fun b => (b, true)

/-- An 8-byte write that enables `bytes` from `offset` of its beat and nothing else. -/
def beatLanes (offset : Nat) (bytes : List Byte) : List LaneByte :=
  List.replicate offset ((0 : Byte), false) ++ allLanes bytes ++ List.replicate (8 - offset - bytes.length) ((0 : Byte), false)

/-- The transaction is a write. -/
def isWrite : Transaction → Bool
  | .read _ _ => false
  | .write _ _ => true

/-- A byte lies in a region when it is at or above the base and below base + size (R73). -/
def Region.holds (r : Region) (addr : Nat) : Bool := r.base ≤ addr && addr < r.base + r.size

/-- Two ranges share a byte. -/
def rangesOverlap (b₁ n₁ b₂ n₂ : Nat) : Bool := b₁ < b₂ + n₂ && b₂ < b₁ + n₁

/-! ### Records the part reads from memory (R210, R102) -/

/-- A descriptor: 0:4 value, 4:1 kind, 5:1 flags (R210). -/
def descriptorAt (group : List Byte) (i : Nat) : Descriptor :=
  ⟨BitVec.ofNat 32 (field group (8 * i) 4), byteAt group (8 * i + 4), byteAt group (8 * i + 5)⟩

/-- The four descriptors of a group (R53, R210). -/
def descriptorsOf (group : List Byte) : List Descriptor := (List.range 4).map (descriptorAt group)

/-- An entry record of the INDEX ring: stream address, timecode, slot index, kind (R210). -/
structure EntryRecord where
  addr : Nat
  timecode : Word32
  slot : Nat
  kind : EntryKind
  deriving DecidableEq, Repr

def entryRecordOf (r : List Byte) : EntryRecord :=
  ⟨field r 0 4, BitVec.ofNat 32 (field r 4 4), field r 8 1, entryKindOf (byteAt r 9)⟩

/-- The entry of level L of a Speed Table, at offset 8 × L: 0:1 prescaler code, 2:2 reload, 4:2 braking steps (R210). -/
def speedEntryOf (table : List Byte) (level : Nat) : Option SpeedEntry :=
  (prescalerOf (byteAt table (8 * level))).map fun p => ⟨⟨p, field table (8 * level + 2) 2⟩, field table (8 * level + 4) 2⟩

/-- The Speed Table of 128 bytes, when every entry of levels 1 to 15 names a prescaler; level 0 is read and not used, so its
prescaler code is taken as ÷1 when it names none (R125, R210). -/
def speedTableOf (table : List Byte) : Option (Vector SpeedEntry 16) :=
  if (List.range 15).all fun i => (speedEntryOf table (i + 1)).isSome then
    some (Vector.ofFn fun i : Fin 16 => (speedEntryOf table i.val).getD ⟨⟨1, field table (8 * i.val + 2) 2⟩, field table (8 * i.val + 4) 2⟩)
  else none

/-- The 33 gains of a Focal Table, each 16 bits, low byte first; none when a gain is 0 (R102). -/
def focalTableOf (table : List Byte) : Option (Vector Nat 33) :=
  if (List.range 33).all fun i => field table (2 * i) 2 != 0 then
    some (Vector.ofFn fun i : Fin 33 => field table (2 * i.val) 2)
  else none

/-! ### The links (R88, R211, R212) -/

/-- The data bytes after the lead byte 0x5A of a card's response; none when the transfer drew no response (R212). -/
def cardResponse (response : List Byte) : Option (List Byte) :=
  match response with
  | lead :: rest => if lead = 0x5A then some rest else none
  | [] => none

/-- The flags of a STATUS response; no response counts as showing BUSY (R45, R212). DESIGN CHOICE (log 38): a lead byte alone, with no
flags byte after it, counts as no response too. -/
def statusFlags (response : List Byte) : Byte :=
  match cardResponse response with
  | some (f :: _) => f
  | _ => 1

/-- What an IDENT response gives: AU count, the card's own protect state, serial (R212). -/
structure CardIdentity where
  auCount : Word16
  cardProtect : Bool
  serial : Word64
  deriving DecidableEq, Repr

/-- The identity in an IDENT response (R47, R212). DESIGN CHOICE (log 38): a response with fewer than 11 bytes after the lead byte counts
as no response. -/
def identityOf (response : List Byte) : Option CardIdentity :=
  match cardResponse response with
  | some r => if r.length < 11 then none
      else some ⟨BitVec.ofNat 16 (field r 0 2), (byteAt r 2).getLsbD 0, BitVec.ofNat 64 (field r 3 8)⟩
  | none => none

/-- The transfer of a card link operation: code byte and argument bytes (R212). -/
def CardOp.bytes : CardOp → List Byte
  | .ident => [0x10]
  | .status => [0x11]
  | .unlock => [0x20]
  | .pageWrite au page content => [0x30] ++ littleEndian 2 au.toNat ++ littleEndian 2 page ++ content
  | .auErase au => [0x31] ++ littleEndian 2 au.toNat
  | .eraseHold => [0x32]
  | .eraseContinue => [0x33]
  | .sleep => [0x40]
  | .wake => [0x41]

/-- The nibbles of bytes as they go over the four data lines of a card link: of each byte the low four bits first (R212). -/
def nibblesOf (bytes : List Byte) : List (BitVec 4) := bytes.flatMap fun b => [b.extractLsb' 0 4, b.extractLsb' 4 4]

/-- The bytes that a transfer's response has after and with its lead byte (R212). -/
def CardOp.responseLength : CardOp → Nat
  | .ident => 12
  | .status => 2
  | _ => 1

/-- One clock of a card link: whether the slot's select is asserted, and what the part drives on the data lines; none while they are
released (R212). -/
structure LinkClock where
  select : Bool
  data : Option (BitVec 4)
  deriving DecidableEq, Repr

/-- The clocks of a transfer: with the select held asserted the code and argument bytes are sent, the data lines are released and the
response is clocked in; then the select is released (R212). DESIGN CHOICE (log 36): as many clocks also where the first byte of the response is
not 0x5A. -/
def CardOp.clocks (op : CardOp) : List LinkClock :=
  (nibblesOf op.bytes).map (fun n => ⟨true, some n⟩) ++ List.replicate (2 * op.responseLength) ⟨true, none⟩ ++ [⟨false, none⟩]

/-- What a slot's link has shown over the operations that the newest step issued on it (R212; an output, log 36). -/
def linkClocks (c : Card) : List LinkClock := c.issuedOps.flatMap CardOp.clocks

/-- The bits of a byte in the order of the motion port, the most significant first (R213). -/
def mostSignificantFirst (b : Byte) : List Bool := (List.range 8).map fun i => b.getLsbD (7 - i)

/-- The request byte of a gyro read: it names the rate group (R213). -/
def gyroRequest : Byte := 0xA8

/-- A rate of the gyro's answer: signed 16 bits, low byte first (R88). -/
def gyroRate (low high : Byte) : Int := (BitVec.ofNat 16 (fromLittleEndian [low, high])).toInt

/-- The byte of bits received on the motion port: the first one received is the most significant (R213). -/
def portByte (bits : PortBits) : Byte := bits.toList.foldl (fun b x => (b <<< 1) ||| (if x then 1 else 0)) 0

/-- The levels of a byte on the accessory line, one for each bit time: a low start bit, the data bits with the least significant first,
and a high stop bit (R165). -/
def byteLevels (b : Byte) : List Bool := [false] ++ (List.range 8).map (fun i => b.getLsbD i) ++ [true]

/-- The levels that the part drives on the accessory line, one for each bit time of 0.5 µs: low for the 16 µs of the mark, the bytes of
a message in order, and none while the line is released and idles high (R164, R165). -/
def LineDrive.levels : LineDrive → List Bool
  | .released => []
  | .mark => List.replicate 32 false
  | .message _ bytes _ => bytes.flatMap byteLevels

/-- The bytes of a message on the accessory line: identifier, length, data and CRC (R165, R211). -/
def messageBytes (identifier : BitVec 4) (data : List Byte) : List Byte :=
  let body := (identifier.zeroExtend 8 : Byte) :: BitVec.ofNat 8 data.length :: data
  body ++ [crc8 body]

/-- The four samples of a frame: slot n of 32 bits carries channel n in its first 24 bits, most significant bit first; the first
bit received is the most significant bit of `sdin` (R144). -/
def frameOf (sdin : BitVec 128) : AudioFrame :=
  ⟨sdin.extractLsb' 104 24, sdin.extractLsb' 72 24, sdin.extractLsb' 40 24, sdin.extractLsb' 8 24⟩

/-- The sample of a channel. -/
def sampleOf (f : AudioFrame) : Fin 4 → Sample
  | 0 => f.c0 | 1 => f.c1 | 2 => f.c2 | 3 => f.c3

/-- A channel's sample, or 0 where its enable is clear (R145). -/
def enabledFrame (enables : BitVec 4) (f : AudioFrame) : AudioFrame :=
  ⟨if enables.getLsbD 0 then f.c0 else 0, if enables.getLsbD 1 then f.c1 else 0, if enables.getLsbD 2 then f.c2 else 0,
    if enables.getLsbD 3 then f.c3 else 0⟩

/-- The twelve bytes of a period frame in a block (R152). -/
def frameBytes (f : AudioFrame) : List Byte :=
  littleEndian 3 f.c0.toNat ++ littleEndian 3 f.c1.toNat ++ littleEndian 3 f.c2.toNat ++ littleEndian 3 f.c3.toNat

end Sys2Proof.Machine
end

