-- ==== Sys2Proof/Machine/Ops.lean ====
section
/-! DEFINITION. The operations that the blocks share: regions, internal reads, rank 6 writes, notices, the Condition Set, the
status block, the envelope of a command, and the shared queue of downstream completions. -/

namespace Sys2Proof.Machine

/-! ### Outcomes -/

/-- The outcome of a step. -/
abbrev Outcome := Host.Outcome State Fault Refusal

/-- The outcome of a row that takes place by `f`: while RESET_N is low no block acts, and nothing changes (R85, log 5). -/
def act (f : State → State) (s : State) : Outcome := .next (if s.path.resetLow then s else f s)

/-! ### Regions (4.2) -/

/-- Address of the control page: the top 4,096 bytes below the memory size (R78). -/
def controlPage (s : State) : Nat := s.path.memSize - Config.pageBytes

/-- The occupied records of the Region Table. -/
def regions (s : State) : List Region := s.path.regions.toList.filterMap id

/-- The region an address lies in (R73). -/
def regionAt (s : State) (addr : Nat) : Option Region := (regions s).find? (·.holds addr)

def Region.asStream (r : Region) : Option StreamRegion :=
  match r.kind with
  | .stream p l h => some ⟨r.base, r.size, p, l, h⟩
  | _ => none

/-- The STREAM region (R1). -/
def streamRegion (s : State) : Option StreamRegion := (regions s).findSome? Region.asStream

/-- The FRAME region with the number of its record (R106). -/
def frameRegionOf (table : Vector (Option Region) 8) : Option FrameRegion :=
  (List.range 8).findSome? fun (i : Nat) =>
    match table[i]? with
    | some (some ⟨base, _, .frame n bpp w h st⟩) => some ⟨i, base, n, bpp, w, h, st⟩
    | _ => none

def frameRegion (s : State) : Option FrameRegion := frameRegionOf s.path.regions

def Region.asAlias (r : Region) : Option AliasGeometry :=
  match r.kind with
  | .aliasView g => some g
  | _ => none

/-- The geometry of the ALIAS region (R107). -/
def aliasRegion (s : State) : Option AliasGeometry := (regions s).findSome? Region.asAlias

/-- Base and size of the AUDIO region (R153). -/
def audioRegion (s : State) : Option (Nat × Nat) :=
  (regions s).findSome? fun r => match r.kind with | .audio => some (r.base, r.size) | _ => none

/-- Base and size of the INDEX region (R2). -/
def indexRegion (s : State) : Option (Nat × Nat) :=
  (regions s).findSome? fun r => match r.kind with | .index => some (r.base, r.size) | _ => none

/-- The margins M_x and M_y: those of a bound ALIAS region, 0 otherwise (R96). -/
def margins (s : State) : Nat × Nat :=
  match aliasRegion s with
  | some g => if g.bound then (g.marginX, g.marginY) else (0, 0)
  | none => (0, 0)

/-! ### Internal reads (R81, R84) -/

/-- The serials of the host writes taken, forwarded and not yet issued; a HELD write is excepted (R84). -/
def unissuedWrites (s : State) : List Nat :=
  (s.path.queue.filter fun e => e.progress == .waiting && isWrite e.txn).map (·.serial)

/-- A read as its requester presents it now. -/
def presentRead (s : State) (addr len : Nat) : ReadRequest := ⟨addr, len, unissuedWrites s⟩

/-- A read is eligible once every host write it waits for has been issued (R84). -/
def readEligible (s : State) (r : ReadRequest) : Bool :=
  (unissuedWrites s).all fun n => !r.after.contains n

/-! ### Downstream completions (R72) -/

/-- The port completes transactions in issue order: the next one that something waits for, and the state without it. Ignored
completions ahead of it have returned without effect (R72). -/
def nextCompletion (s : State) : Option (Issued × State) :=
  match s.path.inFlight.dropWhile (fun i => i.dest == .ignored) with
  | [] => none
  | i :: rest => some (i, s.setPath { s.path with inFlight := rest })

/-- Reads in flight whose destination fails `keep` are abandoned: their completions are discarded on return (R72). -/
def abandonReads (s : State) (lost : Destination → Bool) : State :=
  s.setPath { s.path with
    inFlight := s.path.inFlight.map fun i => if lost i.dest then { i with dest := .ignored } else i }

/-! ### Writes at rank 6 (R81, R188) -/

/-- The unit presents a write at rank 6, after those it has presented before. -/
def presentWrite (w : ReportWrite) (s : State) : State :=
  s.setControl { s.control with writes := s.control.writes ++ [w] }

/-- The write of the command consumer word, at 0xE04: one 8-byte write with the four bytes of the word enabled (R188). -/
def consumerWordWrite (s : State) (v : Word16) : ReportWrite :=
  ⟨controlPage s + 0xE00, beatLanes 4 (littleEndian 4 v.toNat), .plain⟩

/-- The write of the report producer word, at 0xE08 (R188). -/
def producerWordWrite (s : State) (v : Word16) : ReportWrite :=
  ⟨controlPage s + 0xE08, beatLanes 0 (littleEndian 4 v.toNat), .producerWord v⟩

/-! ### Notices (10.3, R207) -/

def probedBytes : Option (Word16 × Word64) → List Byte
  | some (n, serial) => littleEndian 2 n.toNat ++ littleEndian 8 serial.toNat
  | none => []

/-- Kind code of a notice (R207). -/
def Notice.kind : Notice → Byte
  | .condition _ => 1 | .cmdDone _ _ => 2 | .recState _ _ _ _ _ _ => 3 | .cardState _ _ _ _ _ _ => 4 | .chainBad _ _ => 4
  | .auBad _ _ => 4 | .zoomDone _ _ _ _ _ => 5 | .tapEvent _ _ _ => 6 | .accMsg _ _ _ _ => 7

/-- Source byte of a notice (R207). -/
def Notice.source : Notice → Byte
  | .condition c => BitVec.ofNat 8 c.number.val
  | .cmdDone k _ => k.code
  | .recState _ _ _ _ _ _ => 0
  | .cardState slot _ _ _ _ _ => BitVec.ofNat 8 (3 * slotNumber slot)
  | .chainBad slot _ => BitVec.ofNat 8 (3 * slotNumber slot + 1)
  | .auBad slot _ => BitVec.ofNat 8 (3 * slotNumber slot + 2)
  | .zoomDone home _ _ _ _ => if home then 1 else 0
  | .tapEvent src _ _ => src.code
  | .accMsg buffer _ _ _ => BitVec.ofNat 8 buffer

/-- The count a TAP_EVENT source keeps (R10, R117). -/
def tapCount (s : State) : TapSource → Word16
  | .latePatch => s.tap.latePatches
  | .gap => s.tap.gaps
  | .indexPartial => s.tap.indexPartials
  | .indexStale => s.tap.indexStales
  | .aliasWrite => s.view.aliasWrites

def setTapCount (s : State) (v : Word16) : TapSource → State
  | .latePatch => s.setTap { s.tap with latePatches := v }
  | .gap => s.setTap { s.tap with gaps := v }
  | .indexPartial => s.setTap { s.tap with indexPartials := v }
  | .indexStale => s.setTap { s.tap with indexStales := v }
  | .aliasWrite => s.setView { s.view with aliasWrites := v }

/-- Add 1 to a 16-bit count that saturates (R10, R51, R117). -/
def saturatingSucc (v : Word16) : Word16 := if v = 0xFFFF then v else v + 1

def hasChunks : RecEvent → Bool
  | .stopped => true | .aborted => true | _ => false

/-- The 24 payload bytes of a notice as it is written into the ring: counts, condition states and fold count stand as they do
then (R195, R198, R207). -/
def noticePayload (s : State) (p : StampedNotice) : List Byte :=
  toLength 24 <| match p.notice with
  | .condition c =>
      [BitVec.ofNat 8 c.number.val, (s.control.conditions[c.number]).code] ++ s.control.conditions.toList.map CondState.code
  | .cmdDone k final =>
      littleEndian 2 k.code.toNat ++ littleEndian 2 k.tag.toNat ++ [final.code, BitVec.ofNat 8 (min p.folds 255)]
  | .recState ev st result mode clip chunks =>
      [ev.code, st.code, (result.map Result.code).getD 0, mode.code] ++ littleEndian 2 clip.toNat ++ [0, 0]
        ++ (if hasChunks ev then littleEndian 4 chunks.toNat else [])
  | .cardState _ new old au page probed =>
      [new.code, old.code] ++ littleEndian 2 ((au.getD 0xFFFF).toNat) ++ littleEndian 2 page ++ probedBytes probed
  | .chainBad _ addr => littleEndian 4 addr
  | .auBad slot au => littleEndian 2 au.toNat ++ littleEndian 2 (s.card slot).badAus.toNat
  | .zoomDone _ outcome pos target tag =>
      [outcome.code, 0] ++ littleEndian 2 pos ++ littleEndian 2 (orZero target) ++ littleEndian 2 tag.toNat
  | .tapEvent src offset skipped =>
      littleEndian 4 offset ++ littleEndian 4 skipped ++ littleEndian 2 (tapCount s src).toNat
  | .accMsg _ identifier stale data =>
      [identifier.zeroExtend 8, BitVec.ofNat 8 data.length, if stale then 1 else 0, 0] ++ data

/-- The 32 bytes of a notice: 0:1 kind, 1:1 source, 2:2 sequence, 4:4 frame count, 8:24 payload (R207). -/
def noticeBytes (kind source : Byte) (sequence : Word16) (frame : Word32) (payload : List Byte) : List Byte :=
  [kind, source] ++ littleEndian 2 sequence.toNat ++ littleEndian 4 frame.toNat ++ payload

/-- The ring takes 32 bytes at the place of the report producer, which advances; the write of the notice and the write of the
producer word are presented in that order (R194). -/
def writeRing (bytes : List Byte) (s : State) : State :=
  let place := controlPage s + 0x400 + 32 * (s.control.reportProducer.toNat % 64)
  let next := s.control.reportProducer + 1
  presentWrite (producerWordWrite s next)
    (presentWrite ⟨place, allLanes bytes, .plain⟩ (s.setControl { s.control with reportProducer := next }))

/-- What the writing of a notice does to the count its owner keeps: it returns to 0 (R10, R51, R117). -/
def clearNoticeCount (n : Notice) (s : State) : State :=
  match n with
  | .tapEvent src _ _ => setTapCount s 0 src
  | .auBad slot _ => s.setCard slot { s.card slot with badAus := 0 }
  | _ => s

/-- A notice is written into the report ring (R194). -/
def writeNotice (p : StampedNotice) (s : State) : State :=
  clearNoticeCount p.notice
    (writeRing (noticeBytes p.notice.kind p.notice.source s.control.reportProducer p.frame (noticePayload s p)) s)

/-- Unread notices: (report producer − consumer copy) mod 65,536 (R193). -/
def unread (s : State) : Nat := (s.control.reportProducer - s.path.consumerCopy).toNat

/-- Two notices are of one kind and source (R195). -/
def sameSource (m n : Notice) : Bool := m.kind == n.kind && m.source == n.source

def isCmdDone : Notice → Bool
  | .cmdDone _ _ => true
  | _ => false

/-- A notice that pends joins the pending list, or replaces the pending notice of its kind and source in its place; a CMD_DONE
that replaces one counts it as folded (R192, R195). -/
def pendNotice (p : StampedNotice) : List StampedNotice → List StampedNotice
  | [] => [p]
  | q :: rest =>
    if sameSource q.notice p.notice then { p with folds := if isCmdDone p.notice then q.folds + 1 else 0 } :: rest
    else q :: pendNotice p rest

/-- A block posts a notice: it is stamped with the frame count, and written at once when the ring has room (R193). -/
def postNotice (n : Notice) (s : State) : State :=
  let p : StampedNotice := ⟨n, s.view.frameCount, 0⟩
  if unread s < Config.reportRingCap then writeNotice p s
  else s.setControl { s.control with pendingNotices := pendNotice p s.control.pendingNotices }

/-! ### The Condition Set (10.4) -/

def condState (s : State) (c : Condition) : CondState := s.control.conditions[c.number]

def setCondState (s : State) (c : Condition) (v : CondState) : State :=
  s.setControl { s.control with conditions := s.control.conditions.set c.number v }

/-- A condition's cause is present exactly while it is ACTIVE or ACKED_ACTIVE (R198). -/
def CondState.causePresent : CondState → Bool
  | .active => true | .ackedActive => true | _ => false

def causePresent (s : State) (c : Condition) : Bool := (condState s c).causePresent

/-- A cause starts: a CLEAR or LATCHED condition becomes ACTIVE with a CONDITION notice, unless the mask holds it. A start while
the cause is present starts nothing new (R198, R200). -/
def startCause (c : Condition) (s : State) : State :=
  if causePresent s c then s
  else
    let s1 := setCondState s c .active
    if setNames s.control.noticeMask c then s1 else postNotice (.condition c) s1

/-- The state a condition takes when its cause ends (R198). -/
def CondState.ended : CondState → CondState
  | .active => .latched | .ackedActive => .clear | st => st

/-- The state a condition takes when ACK_CONDITIONS names it (R198). -/
def CondState.acked : CondState → CondState
  | .active => .ackedActive | .latched => .clear | st => st

/-- A cause ends, if it is present (R198). -/
def endCause (c : Condition) (s : State) : State := setCondState s c (condState s c).ended

/-! ### Reports of a block -/

def report (s : State) : Report → State
  | .post n => postNotice n s
  | .start c => startCause c s
  | .stop c => endCause c s

/-- The reports of a step, in order. -/
def reports (rs : List Report) (s : State) : State := rs.foldl report s

/-- The CMD_DONE of a command that ends: posted when its NOTIFY flag was set (R192). -/
def commandEnds (cmd : Option Kept) (final : Result) : List Report :=
  match cmd with
  | some k => if k.notify then [.post (.cmdDone k final)] else []
  | none => []

/-! ### Places freed in the report ring (R176, R196) -/

/-- The head of the receive queue is written as an ACC_MSG of source QUEUE and leaves; the cause of ACC_QUEUE_OVERRUN ends with
the last (R175, R176). DESIGN CHOICE (log 35): its frame count is the one at the moment of writing. -/
def writeQueueHead (m : QueueMessage) (rest : List QueueMessage) (s : State) : State :=
  let payload := toLength 24 ([m.identifier.zeroExtend 8, BitVec.ofNat 8 m.data.length, 0, 0] ++ m.data)
  let s1 := writeRing (noticeBytes 7 0xFF s.control.reportProducer s.view.frameCount payload) s
  let s2 := s1.setAcc { s1.acc with queue := rest }
  if rest.isEmpty then endCause .accQueueOverrun s2 else s2

/-- The unit fills free places: pending notices, oldest first, then queue messages (R196). `fuel` bounds the places. -/
def fillRing : Nat → State → State
  | 0, s => s
  | fuel + 1, s =>
    if unread s < Config.reportRingCap then
      match s.control.pendingNotices with
      | p :: rest => fillRing fuel (writeNotice p (s.setControl { s.control with pendingNotices := rest }))
      | [] =>
        match s.acc.queue with
        | m :: rest => fillRing fuel (writeQueueHead m rest s)
        | [] => s
    else s

/-! ### The status block (R201, R208) -/

/-- Pages that await a card: sealed, targeting it, neither written nor failed on it (R37). -/
def awaits (slot : CardSlot) (p : PageRecord) : Bool :=
  p.sealed && p.target.has slot && !p.written.has slot && !p.failed.has slot

def pagesAwaiting (s : State) (slot : CardSlot) : Nat := (s.clip.pages.filter (awaits slot)).length

def cardStatusBytes (c : Card) : List Byte :=
  [c.state.code, c.chain.code] ++ littleEndian 2 ((c.au.getD 0xFFFF).toNat) ++ littleEndian 2 c.pageIndex ++ [0, 0]

def axisStatusBytes (a : Axis) : List Byte :=
  [a.state.code, 0] ++ littleEndianInt 2 a.shift ++ littleEndianInt 4 a.angle

/-- Index and record of the FILLING slot (R119). -/
def fillingSlot (slots : List SlotRecord) : Option (Nat × FrameRecord) :=
  (List.range slots.length).findSome? fun (i : Nat) =>
    match slots[i]? with
    | some (.filling r) => some (i, r)
    | _ => none

def fillingBytes (slots : List SlotRecord) : List Byte :=
  match fillingSlot slots with
  | some (i, r) =>
      [BitVec.ofNat 8 i, r.axisX.code, r.axisY.code, 0] ++ littleEndian 4 r.frame.toNat ++ littleEndianInt 2 r.shiftX
        ++ littleEndianInt 2 r.shiftY ++ littleEndian 2 r.zoomPos ++ [0, 0]
  | none => (0xFF : Byte) :: List.replicate 15 (0 : Byte)

def currentBlockBytes : Option CurrentBlock → List Byte
  | some c => littleEndian 4 c.number.toNat ++ littleEndian 4 c.stamp.toNat
  | none => List.replicate 8 (0 : Byte)

def Acc.waitByte (a : Acc) : Byte := (if a.startWait.isSome then 1 else 0) ||| (if a.stopWait.isSome then 2 else 0)

/-- The 512 bytes of the status block (R208), with the write count as its first and last fields. -/
def statusBytes (s : State) : List Byte :=
  littleEndian 4 s.control.writeCount.toNat ++ littleEndian 4 s.view.frameCount.toNat
    ++ fillingBytes s.view.slots
    ++ [s.clip.state.code, BitVec.ofNat 8 s.clip.pages.length, BitVec.ofNat 8 (pagesAwaiting s .a),
        BitVec.ofNat 8 (pagesAwaiting s .b)]
    ++ littleEndian 2 s.clip.clipNumber.toNat ++ [0, 0]
    ++ littleEndian 8 s.tap.cursor ++ littleEndian 8 s.tap.floor ++ littleEndian 8 s.tap.ship
    ++ cardStatusBytes s.cardA ++ cardStatusBytes s.cardB
    ++ littleEndian 2 s.zoom.pos ++ [BitVec.ofNat 8 s.zoom.level, s.zoom.dir.code, s.zoom.servo.code, 0, 0, 0]
    ++ axisStatusBytes s.motion.x ++ axisStatusBytes s.motion.y
    ++ [s.audio.state.code, s.audio.role.code, 0, 0]
    ++ currentBlockBytes s.audio.current
    ++ s.audio.meters.toList.map (fun m => BitVec.ofNat 8 m.segment)
    ++ s.audio.meters.toList.map (fun m => BitVec.ofNat 8 m.held)
    ++ [s.acc.link.code, s.acc.waitByte] ++ List.replicate 10 (0 : Byte)
    ++ s.control.conditions.toList.map CondState.code
    ++ List.replicate 366 (0 : Byte)
    ++ littleEndian 4 s.control.writeCount.toNat

/-- Line i of a snapshot as one of its four 128-byte writes (R201). -/
def statusLineWrite (s : State) (block : List Byte) (i : Nat) : ReportWrite :=
  ⟨controlPage s + 0xC00 + 128 * i, allLanes ((block.drop (128 * i)).take 128), .statusLine⟩

/-- A snapshot: the write count advances, the bytes are gathered, and the four lines are presented in address order (R201). -/
def takeSnapshot (s : State) : State :=
  let s1 := s.setControl { s.control with writeCount := s.control.writeCount + 1 }
  let block := statusBytes s1
  s1.setControl { s1.control with writes := s1.control.writes ++ (List.range 4).map (statusLineWrite s1 block) }

/-- The lines of a snapshot are still being presented: a line stands behind the write that the unit presents now (R81, R201). -/
def snapshotInProgress (s : State) : Bool := (s.control.writes.drop 1).any fun w => w.tag == .statusLine

/-- A status block write is requested: a snapshot now, or the rewrite mark while one is in progress (R201). -/
def requestStatus (s : State) : State :=
  if snapshotInProgress s then s.setControl { s.control with rewrite := true } else takeSnapshot s

/-! ### Commands (10.2) -/

/-- With entries available and none in progress, the unit presents the read of the ring place of the consumer (R190). -/
def presentEntryRead (s : State) : State :=
  if s.control.phase = .idle ∧ s.control.consumer ≠ s.control.effectiveProducer then
    s.setControl { s.control with
      phase := .entry
      readReq := some (presentRead s (controlPage s + 64 * (s.control.consumer.toNat % 16)) 64) }
  else s

/-- A command has its result: the write of the result field and the write of the advanced consumer are presented, and the next
entry may be read (R191). -/
def finishCommand (r : Result) (s : State) : State :=
  let place := controlPage s + 64 * (s.control.consumer.toNat % 16)
  let next := s.control.consumer + 1
  let s1 := presentWrite ⟨place, beatLanes 5 [r.code], .plain⟩ s
  let s2 := presentWrite (consumerWordWrite s next) s1
  presentEntryRead (s2.setControl { s2.control with consumer := next, phase := .idle })

/-- The state in which a command entry has just been taken: the entry read is the next completion of the port, and RESET_N is
high (R190). None when the unit has no entry to take. -/
def takeEntry (s : State) : Option State :=
  if s.path.resetLow then none
  else
    match nextCompletion s with
    | some (⟨_, .commandEntry⟩, s1) => some s1
    | _ => none

/-- A command row: the entry is taken, the command executed, its result written (R190, R191). Where no entry read returns, the
row does not take place and nothing changes (log 5). -/
def runCommand (s : State) (body : State → State × Result) : State :=
  match takeEntry s with
  | none => s
  | some s1 => let r := body s1; finishCommand r.2 r.1

/-- A command that is refused at its argument check, or whose table read is presented at rank 5 (R102, R125). -/
def runTableCommand (s : State) (argsGood : Bool) (addr len : Nat) (phase : CommandPhase) : State :=
  match takeEntry s with
  | none => s
  | some s1 =>
    if argsGood then s1.setControl { s1.control with phase := phase, readReq := some (presentRead s1 addr len) }
    else finishCommand .badArg s1

/-! ### Elapsed time (R45, R61, R64) -/

def runningErase (dt : Nat) (c : Card) : Card :=
  match c.erase with
  | some e => if e.held then c else { c with erase := some { e with used := e.used + dt } }
  | none => c

/-- `dt` µs pass: the clock advances, and so does the running time of each erase that is not held (R61). -/
def advanceTime (dt : Nat) (s : State) : State :=
  { s with now := s.now + dt, cardA := runningErase dt s.cardA, cardB := runningErase dt s.cardB }

end Sys2Proof.Machine
end

