-- ==== Sys2Proof/Machine/TapOps.lean ====
section
/-! DEFINITION. The Stream Tap: positions, classification, holds, overruns and the advance of ship (R3 to R15). -/

namespace Sys2Proof.Machine

/-- A clip is assembled in RECORDING, and in STOPPING until ship has reached or passed the stop position (R3). -/
def assembled (s : State) : Bool :=
  match s.clip.state with
  | .recording => true
  | .stopping => s.tap.ship < s.clip.stopPos
  | _ => false

/-- The entries at or above a position: those that stay when floor comes to it (R4, R13). -/
def entriesFrom (floor : Nat) (l : List Entry) : List Entry := l.filter fun e => floor ≤ e.pos

/-- The span that stays retained behind cursor while no clip is assembled (R4). -/
def retainedSpan (st : RecState) (r : StreamRegion) : Nat :=
  match st with
  | .armed => r.size - Config.ringReserve
  | _ => r.prerecordBytes

/-- While no clip is assembled, floor becomes the larger of its value and cursor less the retained span, ship equals floor, and
entries below floor are dropped (R4). -/
def recomputeFloor (s : State) : State :=
  if assembled s then s
  else
    match streamRegion s with
    | none => s
    | some r =>
      let f := max s.tap.floor (s.tap.cursor - retainedSpan s.clip.state r)
      s.setTap { s.tap with floor := f, ship := f, entries := entriesFrom f s.tap.entries }

/-- STREAM_OVERRUN's cause ends at an advance after which cursor − ship is less than size / 2 (R14). -/
def overrunEndTest (s : State) : State :=
  match streamRegion s with
  | none => s
  | some r => if 2 * (s.tap.cursor - s.tap.ship) < r.size then endCause .streamOverrun s else s

/-- An irregular write or record: its source's count adds 1 and a TAP_EVENT is posted (R10, R117). -/
def tapEvent (src : TapSource) (offset skipped : Nat) (s : State) : State :=
  postNotice (.tapEvent src offset skipped) (setTapCount s (saturatingSucc (tapCount s src)) src)

/-! ### Classification (R6) -/

/-- The case of a write at ring offset `a` of length `n` (R6). -/
def classify (r : StreamRegion) (t : Tap) (a n : Nat) : StreamWrite :=
  let d := (a + r.size - t.cursor % r.size) % r.size
  let b : Int := (t.cursor : Int) - r.size + d
  if d = 0 then ⟨.append, a, n, t.cursor, t.cursor + n, 0⟩
  else if (t.floor : Int) ≤ b ∧ b + n ≤ t.cursor then ⟨.patch, a, n, b.toNat, t.cursor, 0⟩
  else if (t.floor : Int) ≤ b then ⟨.straddle, a, n, b.toNat, b.toNat + n, 0⟩
  else if 0 ≤ b ∧ (t.floor : Int) - r.lateWindow ≤ b then ⟨.latePatch, a, n, b.toNat, t.cursor, 0⟩
  else ⟨.gap, a, n, t.cursor + d, t.cursor + d + n, d⟩

/-! ### Effects of a forwarded write, holds and overruns -/

/-- An append, straddle or gap that is forwarded: cursor advances, a gap posts its notice, floor is recomputed (R7, R9, R14). -/
def advanceCursor (w : StreamWrite) (s : State) : State :=
  let s1 := s.setTap { s.tap with cursor := w.newCursor }
  let s2 := if w.kase = .gap then tapEvent .gap w.offset w.skipped s1 else s1
  overrunEndTest (recomputeFloor s2)

/-- The hold test is met: forwarding the write would overwrite retained bytes (R11). -/
def overwrites (r : StreamRegion) (t : Tap) (w : StreamWrite) : Bool := r.size < w.newCursor - t.floor

/-- The write is forwarded as an overrun: floor and ship jump forward to c′ − size, entries below are dropped, the discontinuity mark is
set, the cause starts, and cursor becomes c′ (R3, R13, R14). DEDUCED (log 31): where ship has passed c′ − size already, in a hold that R15
prolongs, floor and ship stay, since R3 has them jump forward alone, and all else is as at any overrun. -/
def overrun (r : StreamRegion) (w : StreamWrite) (s : State) : State :=
  let f := max s.tap.floor (w.newCursor - r.size)
  let s1 := s.setTap { s.tap with floor := f, ship := f, entries := entriesFrom f s.tap.entries, discontinuity := true }
  let s2 := startCause .streamOverrun s1
  let s3 := s2.setTap { s2.tap with cursor := w.newCursor }
  let s4 := if w.kase = .gap then tapEvent .gap w.offset w.skipped s3 else s3
  if assembled s4 then overrunEndTest s4 else recomputeFloor (endCause .streamOverrun s4)

/-- The held entry becomes WAITING, and taking resumes (R79). -/
def forwardHeld (s : State) : State :=
  s.setPath { s.path with
    queue := s.path.queue.map fun e => if e.progress = .held then { e with progress := .waiting } else e }

/-- The held write is released: its timer stops, it is forwarded and takes the effect of its case (R12). -/
def releaseHeld (s : State) : State :=
  match s.tap.held with
  | none => s
  | some w => advanceCursor w (forwardHeld (s.setTap { s.tap with held := none, stopHold := false }))

/-- The re-test of a held write: it is released when it fits, or when no clip is assembled (R12). During a hold in which a REC_STOP
was taken it stays held until ship reaches the stop position, which ends assembly, or the timer expires (R15). DEDUCED: R15 goes before
the plain re-test of R12 there (log 31). -/
def retestHeld (s : State) : State :=
  match s.tap.held, streamRegion s with
  | some w, some r => if assembled s && (overwrites r s.tap w || s.tap.stopHold) then s else releaseHeld s
  | some _, none => releaseHeld s
  | none, _ => s

/-- Assembly of the clip has ended: STREAM_OVERRUN's cause ends and a held write is released (R5, R12, R14). -/
def assemblyEnded (s : State) : State := retestHeld (endCause .streamOverrun s)

/-- The newest queue entry is kept from the downstream port (R79). -/
def holdNewest : List QueueEntry → List QueueEntry
  | [] => []
  | [e] => [{ e with progress := .held }]
  | e :: rest => e :: holdNewest rest

/-- A stream write offered at take, whose entry is the newest of the queue (R6 to R11). -/
def offerStreamWrite (r : StreamRegion) (a n : Nat) (s : State) : State :=
  let w := classify r s.tap a n
  match w.kase with
  | .patch => s
  | .latePatch => tapEvent .latePatch a 0 s
  | _ =>
    if assembled s && overwrites r s.tap w then
      if r.holdLimit = 0 then overrun r w s
      else (s.setTap { s.tap with held := some w }).setPath { s.path with queue := holdNewest s.path.queue }
    else advanceCursor w s

/-! ### The advance of ship (R5) -/

/-- Entries that ship has passed move to the tail of the Clip Index, oldest first, and the newest of them gives the video frame
stamp (R5, R31, R35). DESIGN CHOICE (log 32): an entry taken after the VIDEO chunk around it was chosen is moved too, also where that
brings the Clip Index above the 255 entries that R33 left room for. DEDUCED (log 32): an entry is moved once ship lies above its
position (R5), so a VIDEO chunk that begins at an entry's position carries the stamp that stood before it. -/
def moveEntries (e : Nat) (s : State) : State :=
  let moved := s.tap.entries.filter fun x => x.pos < e
  let s1 := s.setTap { s.tap with ship := e, floor := e, entries := entriesFrom e s.tap.entries }
  s1.setClip { s1.clip with
    index := s1.clip.index ++ moved
    videoStamp := (moved.getLast?.map Entry.frame).getD s1.clip.videoStamp }

/-- The Clip Assembler reports a stream range that ends at `e` (R5). -/
def reportShipped (e : Nat) (s : State) : State :=
  if assembled s && s.tap.ship < e then
    let s1 := overrunEndTest (moveEntries e s)
    if assembled s1 then retestHeld s1 else assemblyEnded s1
  else s

end Sys2Proof.Machine
end

