-- ==== Sys2Proof/Machine/CardOps.lean ====
section
/-! DEFINITION. What the Card Controllers share with the Clip Assembler: a change of card state, availability, ERASE_CONTINUE
and leaving ACTIVE (R45, R48, R51, R61). -/

namespace Sys2Proof.Machine

def updateCard (slot : CardSlot) (f : Card → Card) (s : State) : State := s.setCard slot (f (s.card slot))

/-- A change of card state: a card that leaves FAILED ends its FAULT cause, and a CARD_STATE notice reports the change, with
serial and AU count when the state is reached from PROBING (R50, R51). -/
def setCardState (slot : CardSlot) (new : CardState) (s : State) : State :=
  let c := s.card slot
  if c.state = new then s
  else
    let s1 := s.setCard slot { c with state := new }
    let s2 := if c.state = .failed then endCause (slotFault slot) s1 else s1
    postNotice (.cardState slot new c.state c.au c.pageIndex
      (if c.state = .probing then some (c.auCount, c.serial) else none)) s2

/-- A card is available when it is READY with its chain SET and no request pending (R48). -/
def available (c : Card) : Bool := c.state == .ready && c.chain == .set && c.request.isNone

/-- A held erase is continued: ERASE_CONTINUE is issued, its time recorded, and STATUS read (R61). While another operation is
outstanding on the link nothing is issued (R45). In PROBING, before the first IDENT after a SOFT_RESET, the last continue time stays
none (R69). -/
def continueErase (slot : CardSlot) (s : State) : State :=
  let c := s.card slot
  match c.erase with
  | some e =>
    if e.held ∧ c.phase = .idle then
      s.setCard slot { c with
        phase := .continueCheck, statusOut := true, issuedOps := [.eraseContinue, .status]
        lastContinue := if c.state = .probing then none else some s.now }
    else s
  | none => s

def makeActive (slot : CardSlot) (s : State) : State := setCardState slot .active s

/-- A card leaves ACTIVE for another state; a held erase is continued (R48, R61). -/
def leaveActive (slot : CardSlot) (new : CardState) (s : State) : State := continueErase slot (setCardState slot new s)

/-- The Clip Assembler releases an ACTIVE card to READY (R48). -/
def releaseCard (slot : CardSlot) (s : State) : State :=
  if (s.card slot).state = .active then leaveActive slot .ready s else s

/-- An erase whose AU has left the chain stays outstanding on the card (R57). -/
def orphanErase (c : Card) : Card :=
  { c with erase := c.erase.map fun e => { e with role := .orphan } }

end Sys2Proof.Machine
end

