-- ==== Sys2Proof/Machine/Assembler.lean ====
section
/-! DEFINITION. What the Clip Assembler's rows share: laying bytes into pages, chunk headers, room, payload reads, the beginning
and the end of a clip, and the loss of a card (R23 to R42). -/

namespace Sys2Proof.Machine

/-! ### Pages (R36, R37) -/

/-- The open page: the newest record, while it is not sealed (R36). -/
def openPage (c : Clip) : Option PageRecord :=
  match c.pages.getLast? with
  | some p => if p.sealed then none else some p
  | none => none

/-- Bytes used of the open page. -/
def openUsed (c : Clip) : Nat := ((openPage c).map fun p => p.content.length).getD 0

/-- Free bytes of the open page, 0 when none is open. -/
def openFree (c : Clip) : Nat := ((openPage c).map fun p => Config.pageBytes - p.content.length).getD 0

/-- Clip bytes built and not yet laid into a page. -/
def layBytes (l : List LayRun) : Nat := (l.map fun r => r.bytes.length).sum

/-- Runs are laid into a page until it is full. The first header that begins in it gives its first-header offset (R36). -/
def layPage : List LayRun → PageRecord → PageRecord × List LayRun
  | [], p => (p, [])
  | r :: rest, p =>
    let free := Config.pageBytes - p.content.length
    if free = 0 then (p, r :: rest)
    else
      let first := if r.header ∧ p.firstHeader = Config.pageBytes then p.content.length else p.firstHeader
      let p1 := { p with content := p.content ++ r.bytes.take free, firstHeader := first }
      if r.bytes.length ≤ free then layPage rest p1 else (p1, ⟨false, r.bytes.drop free⟩ :: rest)

/-- A full page is sealed (R36). -/
def sealIfFull (p : PageRecord) : PageRecord := if p.content.length = Config.pageBytes then { p with sealed := true } else p

/-- What waits to be laid goes into the open page (R36). -/
def lay (c : Clip) : Clip :=
  match openPage c with
  | some p =>
    let r := layPage c.lay p
    { c with pages := c.pages.dropLast ++ [sealIfFull r.1], lay := r.2 }
  | none => c

/-- A new record for the targets of the clip; it becomes the open page (R36, R37). -/
def newPage (c : Clip) : PageRecord :=
  ⟨c.clipNumber, c.targets, CardSet.empty, CardSet.empty, Config.pageBytes, false, []⟩

/-- Cards that a record still waits for (R37). -/
def waitsFor (p : PageRecord) (slot : CardSlot) : Bool := p.target.has slot && !p.written.has slot && !p.failed.has slot

/-- A record leaves once its written and failed sets cover its targets (R37). -/
def pageDone (p : PageRecord) : Bool := !waitsFor p .a && !waitsFor p .b

/-! ### Chunks (R30, R31, R209) -/

def kindClipHead : Byte := 1
def kindVideo : Byte := 2
def kindAudio : Byte := 3
def kindIndex : Byte := 4
def kindPad : Byte := 5

/-- The first 30 bytes of a header (R209). -/
def headerBody (kind flags : Byte) (clip : Word16) (seq : Word32) (len locator : Nat) (stamp : Word32) (first : Nat) : List Byte :=
  [0xA7, 0xC1, 0xB3, 0xD5, kind, flags] ++ littleEndian 2 clip.toNat ++ littleEndian 4 seq.toNat ++ littleEndian 4 len
    ++ littleEndian 8 locator ++ littleEndian 4 stamp.toNat ++ littleEndian 2 first

/-- A header with its CRC, low byte first (R209). -/
def headerBytes (body : List Byte) : List Byte := body ++ littleEndian 2 (crc16 body).toNat

/-- The clip's target set holds both cards (R30). -/
def mirrored (c : Clip) : Bool := c.targets.a && c.targets.b

/-- The header of the next chunk; MIRRORED is set while the target set holds both cards (R30). -/
def chunkHeader (c : Clip) (kind flags : Byte) (len locator : Nat) (stamp : Word32) (first : Nat) : List Byte :=
  headerBytes (headerBody kind (flags ||| chunkFlags false false false (mirrored c)) c.clipNumber c.chunkSeq len locator stamp first)

/-- A chunk is built: its header takes the counter's value, the counter advances, and header and generated payload wait to be
laid (R30). -/
def addChunk (kind flags : Byte) (len locator : Nat) (stamp : Word32) (payload : List Byte) (c : Clip) : Clip :=
  { c with lay := c.lay ++ [⟨true, chunkHeader c kind flags len locator stamp 0 ++ payload⟩], chunkSeq := c.chunkSeq + 1 }

/-- A fill of `n` bytes: a PAD chunk, fewer than 32 zero bytes, or nothing (R36). -/
def fill (n : Nat) (c : Clip) : Clip :=
  if n = 0 then c
  else if n < 32 then { c with lay := c.lay ++ [⟨false, List.replicate n 0⟩] }
  else addChunk kindPad 0 (n - 32) 0 0 (List.replicate (n - 32) 0) c

/-- The 64 bytes of a CLIP_HEAD chunk with the card role and first-header offset of its own page (R31, R209). -/
def clipHead (c : Clip) (targets : CardSet) (relay : Bool) (first : Nat) : List Byte :=
  chunkHeader { c with targets := targets } kindClipHead (chunkFlags false false relay false) 32 0 c.startFrame first
    ++ toLength 32 (littleEndian 2 c.clipNumber.toNat ++ [c.mode.code, targets.role] ++ littleEndian 4 c.startFrame.toNat
      ++ littleEndian 8 c.preRecord ++ littleEndian 2 first)

/-- A CLIP_HEAD that begins a page is laid ahead of what waits; its first-header offset is 64 (R31). -/
def addClipHead (relay : Bool) (c : Clip) : Clip :=
  { c with lay := ⟨true, clipHead c c.targets relay 64⟩ :: c.lay, chunkSeq := c.chunkSeq + 1 }

/-- The 16 bytes of an INDEX entry (R209). -/
def indexEntryBytes (clipStart : Nat) (e : Entry) : List Byte :=
  littleEndian 6 (e.pos - clipStart) ++ [e.kind.code, 0] ++ littleEndian 4 e.frame.toNat ++ littleEndian 4 e.timecode.toNat

/-- An INDEX chunk takes every entry of the Clip Index and empties it (R35). -/
def layIndex (c : Clip) : Clip :=
  { addChunk kindIndex 0 (16 * c.index.length) 0 ((c.index.getLast?.map Entry.frame).getD 0)
      (c.index.flatMap (indexEntryBytes c.clipStart)) c with index := [] }

/-! ### Audio blocks as the assembler sees them (chapter 8) -/

def doneOf : BlockRecord → Option BlockInfo
  | .done i => some i
  | _ => none

def fillingOf : BlockRecord → Option BlockInfo
  | .filling i => some i
  | _ => none

/-- The DONE blocks of the Audio Block Table. -/
def doneBlocks (a : Audio) : List BlockInfo := a.blocks.filterMap doneOf

/-- The number of the block FILLING at this moment: the current block (R154). -/
def fillingBlock (a : Audio) : Option Word32 := a.current.map CurrentBlock.number

/-- Where a block number stands in the order in which blocks start: its distance from the next block number, as a signed value, since the
numbers wrap (R155). DEDUCED (log 22): newest, oldest, at or beyond and behind are meant in this order. -/
def blockOrder (a : Audio) (n : Word32) : Int := (n - a.nextBlock).toInt

def newer (a : Audio) (i j : BlockInfo) : BlockInfo := if blockOrder a i.number < blockOrder a j.number then j else i
def older (a : Audio) (i j : BlockInfo) : BlockInfo := if blockOrder a j.number < blockOrder a i.number then j else i

/-- The newest and the oldest of a list of blocks, in the order of their numbers. -/
def newestBlock (a : Audio) : List BlockInfo → Option BlockInfo
  | [] => none
  | i :: rest => some (rest.foldl (newer a) i)

def oldestBlock (a : Audio) : List BlockInfo → Option BlockInfo
  | [] => none
  | i :: rest => some (rest.foldl (older a) i)

/-- The DONE block that the audio ship pointer names (R32). -/
def doneBlock (a : Audio) (n : Word32) : Option BlockInfo := (doneBlocks a).find? fun i => i.number == n

/-- Where the audio ship pointer starts, and whether the discontinuity mark is set (R25). -/
def placeAudio (a : Audio) (f : Word32) : Word32 × Bool :=
  match newestBlock a ((doneBlocks a).filter fun i => f != 0 && i.stamp.ule f) with
  | some i => (i.number, false)
  | none =>
    match oldestBlock a (doneBlocks a) with
    | some i => (i.number, true)
    | none => ((fillingBlock a).getD a.nextBlock, true)

/-! ### Payload reads (R33, R34) -/

/-- The next read of the payload: a downstream read and where its completion goes (R33, R34). -/
def nextPayloadRead (s : State) : Option (Transaction × Destination) :=
  match s.clip.run, streamRegion s with
  | .video next _ stop, some r =>
    if next < stop then
      let off := next % r.size
      let n := min (min (toLineEnd (r.base + off)) (r.size - off)) (stop - next)
      some (beatRead (r.base + off) n, .video next (next + n) ((r.base + off) % 8))
    else none
  | .audio _ base next _, _ =>
    if next < Config.blockLines then some (.read (base + Config.lineBytes * next) Config.lineBytes, .audioPayload) else none
  | _, _ => none

/-- The assembler presents its next payload read (R81, R84). DEDUCED (log 16): a read that a stall withholds (R37) stays presented from
before the stall, so that it does not wait for host writes taken during it. -/
def presentClipRead (s : State) : State :=
  if s.clip.readReq.isSome then s
  else
    match nextPayloadRead s with
    | some (t, _) => s.setClip { s.clip with readReq := some (presentRead s t.addr t.len) }
    | none => s

/-- The open page is full and the queue holds 8 records or more: no payload read is issued (R37). -/
def assemblerStalled (c : Clip) : Bool := (openPage c).isNone && Config.pageQueueCap ≤ c.pages.length

/-- A destination of the assembler's payload reads. -/
def isPayload : Destination → Bool
  | .video _ _ _ => true
  | .audioPayload => true
  | _ => false

/-! ### Room (R38, R55) -/

/-- The room of a card: unbounded while its lookahead is an AU; otherwise the pages left, less the pages of the queue for the
card, and the free bytes of the open page (R38, R55). -/
def cardRoom (s : State) (slot : CardSlot) : Room :=
  let queued := (s.clip.pages.filter fun p => waitsFor p slot).length
  let bytes := (Config.auPages - (s.card slot).pageIndex) * Config.pageBytes + openFree s.clip - queued * Config.pageBytes
  match (s.card slot).lookahead with
  | .au _ _ => ⟨none, false⟩
  | .theEnd => ⟨some bytes, false⟩
  | .unresolved => ⟨some bytes, true⟩

/-- The smaller of two rooms; of two equal ones, the one that is resolved (R38). -/
def smallerRoom (x y : Room) : Room :=
  match x.bytes, y.bytes with
  | none, _ => y
  | _, none => x
  | some m, some n => if m < n then x else if n < m then y else if x.unresolved then y else x

/-- The room that a chunk of the clip must fit (R38). -/
def clipRoom (s : State) : Room :=
  match s.clip.targets.a, s.clip.targets.b with
  | true, true => smallerRoom (cardRoom s .a) (cardRoom s .b)
  | true, false => cardRoom s .a
  | false, true => cardRoom s .b
  | false, false => ⟨some 0, false⟩

/-- The card is at its end: no room is left against a lookahead that is END (R38, R55). -/
def atEnd (r : Room) : Bool := r.bytes == some 0 && !r.unresolved

/-- A chunk of `n` bytes fits (R38). -/
def fits (r : Room) (n : Nat) : Bool :=
  match r.bytes with
  | none => true
  | some m => n ≤ m

/-! ### Page reports and the release of cards (R37, R41) -/

/-- After an abort, a card leaves ACTIVE when no page of the queue waits for it (R41). -/
def releaseDrainedCard (slot : CardSlot) (s : State) : State :=
  if s.clip.state = .idle ∧ (s.clip.pages.any fun p => waitsFor p slot) = false then releaseCard slot s else s

def releaseDrained (s : State) : State := releaseDrainedCard .b (releaseDrainedCard .a s)

/-- Records whose written and failed sets cover their targets leave; those behind keep their order (R37). -/
def dropDone (s : State) : State := s.setClip { s.clip with pages := s.clip.pages.filter fun p => !pageDone p }

/-- A card's outcome is added to the first page that awaits it (R37). -/
def markFirst (slot : CardSlot) (f : PageRecord → PageRecord) : List PageRecord → List PageRecord
  | [] => []
  | p :: rest => if awaits slot p then f p :: rest else p :: markFirst slot f rest

def markWritten (slot : CardSlot) (p : PageRecord) : PageRecord := { p with written := p.written.add slot }
def markFailed (slot : CardSlot) (p : PageRecord) : PageRecord := { p with failed := p.failed.add slot }

/-- A Card Controller reports the page it wrote as written or failed (R37). -/
def pageReport (slot : CardSlot) (mark : PageRecord → PageRecord) (s : State) : State :=
  dropDone (s.setClip { s.clip with pages := markFirst slot mark s.clip.pages })

/-! ### Abort (R41) -/

/-- The open page is filled and sealed (R36, R41). -/
def closeOpenPage (c : Clip) : Clip :=
  match openPage c with
  | some _ => lay (fill (openFree c) { c with lay := [] })
  | none => { c with lay := [] }

/-- A record still awaits a working ACTIVE card (R41). -/
def hasWorkingCard (s : State) (p : PageRecord) : Bool :=
  (waitsFor p .a && s.cardA.state == .active) || (waitsFor p .b && s.cardB.state == .active)

/-- The recording is aborted (R41); the ABORTED notice carries the chunk sequence counter as it stands (R207). DESIGN CHOICE (log 32): the
audio ship pointer then names no block and the audio discontinuity mark is clear, of which R41 says nothing. -/
def abortClip (s : State) : State :=
  let c := s.clip
  let s1 := assemblyEnded (s.setClip { c with
    state := .idle, run := .none, readReq := none, relayHead := false, closed := false, index := [], stopCmd := none,
    audioDiscontinuity := false, shipPtr := none })
  let s2 := reports
    ([.stop .audioOverrun, .start .mediaExhausted, .post (.recState .aborted .idle none c.mode c.clipNumber c.chunkSeq)]
      ++ commandEnds c.stopCmd .aborted) s1
  let s3 := abandonReads s2 isPayload
  let s4 := s3.setClip (closeOpenPage s3.clip)
  releaseDrained (s4.setClip { s4.clip with pages := s4.clip.pages.filter (hasWorkingCard s4) })

/-! ### The end of a card (R39, R42) -/

def isRelay : Mode → Bool
  | .relayAB => true | .relayBA => true | _ => false

/-- The one card that a clip in a RELAY mode is on. -/
def clipSlot (c : Clip) : CardSlot := if c.targets.b then .b else .a

/-- The rest of an open page is filled before the clip leaves the card (R36). A page is open at the end of a card only where an AU
skipped as bad has taken the room that chunks were fitted to (R59). -/
def fillOpenPage (c : Clip) : Clip :=
  match openPage c with
  | some _ => lay (fill (openFree c) c)
  | none => c

/-- The card or cards the clip is on have reached their end: the clip relays, goes on with the other mirror card, or aborts
(R39, R41, R42). -/
def clipCardEnd (s : State) : State :=
  if isRelay s.clip.mode then
    let other := otherSlot (clipSlot s.clip)
    if available (s.card other) then
      let s1 := makeActive other (s.setClip (fillOpenPage s.clip))
      s1.setClip { s1.clip with targets := CardSet.only other, relayHead := true }
    else abortClip s
  else if s.clip.mode = .mirror then
    let left : CardSet := ⟨s.clip.targets.a && !atEnd (cardRoom s .a), s.clip.targets.b && !atEnd (cardRoom s .b)⟩
    if left.isEmpty then abortClip s else s.setClip { fillOpenPage s.clip with targets := left }
  else abortClip s

/-- What a chunk that does not fit leads to: the room is filled, and the card is at its end once the fill is laid (R38). -/
def fillRoom (room : Nat) (s : State) : State :=
  let s1 := s.setClip (lay (fill room s.clip))
  if s1.clip.lay.isEmpty then clipCardEnd s1 else s1

/-! ### The loss of a card (R26, R40, R42) -/

/-- The head page of a re-targeting: CLIP_HEAD and a PAD of 4,000 bytes, sealed (R40). -/
def headPage (c : Clip) (other : CardSlot) (first : Nat) : PageRecord :=
  let targets := CardSet.only other
  let c1 := { c with targets := targets }
  ⟨c.clipNumber, targets, CardSet.empty, CardSet.empty, 0, true,
    clipHead c targets true first
      ++ chunkHeader { c1 with chunkSeq := c.chunkSeq + 1 } kindPad 0 4000 0 0 0 ++ List.replicate 4000 0⟩

/-- Pages that the lost card has not written take the other card as their target (R40). DESIGN CHOICE (log 32): where that card stands in
the failed set of the page, lost earlier in the clip and given a new chain since, it leaves the set, so that the page is written to it. -/
def retargetPage (slot other : CardSlot) (p : PageRecord) : PageRecord :=
  if p.target.has slot && !p.written.has slot then
    { p with target := CardSet.only other, failed := (p.failed.add slot).remove other }
  else p

/-- The head page goes ahead of the first re-targeted page, or to the end where none is re-targeted (R40). DESIGN CHOICE (log 32): its
first-header offset is the one noted for that page at this moment, 4,096 for an open page in which no header has begun yet, also where
one begins in it later. -/
def insertHead (slot other : CardSlot) (head : Nat → PageRecord) : List PageRecord → List PageRecord
  | [] => [head Config.pageBytes]
  | p :: rest =>
    if p.target.has slot && !p.written.has slot then head p.firstHeader :: (p :: rest).map (retargetPage slot other)
    else p :: insertHead slot other head rest

/-- The clip moves to the other card, which becomes ACTIVE (R40). -/
def retarget (slot : CardSlot) (s : State) : State :=
  let other := otherSlot slot
  let s1 := makeActive other s
  let c := s1.clip
  s1.setClip { c with
    pages := insertHead slot other (headPage c other) c.pages
    chunkSeq := c.chunkSeq + 2
    targets := CardSet.only other
    relayHead := false }

/-- A card the clip is on is lost while the clip is made (R40, R41, R42). -/
def clipLosesCard (slot : CardSlot) (s : State) : State :=
  if isRelay s.clip.mode then
    if available (s.card (otherSlot slot)) then dropDone (retarget slot s) else abortClip s
  else
    let left := s.clip.targets.remove slot
    let s1 := s.setClip { s.clip with targets := left }
    if left.isEmpty then abortClip s1 else dropDone s1

/-- A card leaves ACTIVE in ARMED through failure or removal (R26), or because it is FULL, which is an end of the card before anything
has been laid (R41; log 33). -/
def armedLosesCard (slot : CardSlot) (s : State) : State :=
  if s.clip.targets.has slot then
    if s.clip.mode = .mirror ∧ (s.clip.targets.remove slot).isEmpty = false then
      s.setClip { s.clip with targets := s.clip.targets.remove slot }
    else if isRelay s.clip.mode ∧ available (s.card (otherSlot slot)) then
      let s1 := makeActive (otherSlot slot) s
      s1.setClip { s1.clip with targets := CardSet.only (otherSlot slot) }
    else abortClip s
  else s

/-- A Card Controller reports its ACTIVE card failed or removed: the card joins the failed set of each page of the queue
(R40, R42, R50). -/
def cardLost (slot : CardSlot) (s : State) : State :=
  let s1 := s.setClip { s.clip with pages := s.clip.pages.map (markFailed slot) }
  match s.clip.state with
  | .idle => releaseDrained (dropDone s1)
  | .armed => armedLosesCard slot s1
  | _ =>
    if s.clip.targets.has slot && !(s.clip.closed && s.clip.pages.isEmpty && s.clip.lay.isEmpty) then clipLosesCard slot s1
    else dropDone s1

/-- Bytes of the clip still go to the card: pages wait for it, or a chunk, a relay head or the end of the clip is unfinished on it. -/
def clipNeeds (slot : CardSlot) (s : State) : Bool :=
  (s.clip.pages.any fun p => waitsFor p slot)
    || (s.clip.targets.has slot && (!s.clip.lay.isEmpty || s.clip.run != .none || s.clip.relayHead))

/-- A Card Controller reports its card FULL. Pages that still await it are failed on it, and a clip that is on it, or ARMED with it,
moves or ends as at a failure (R26, R40, R41, R42). -/
def cardFull (slot : CardSlot) (s : State) : State :=
  if clipNeeds slot s || s.clip.state == .armed then cardLost slot s else releaseDrained s

/-! ### The start of a clip (R23, R24, R26) -/

/-- The cards a mode starts on (R23). -/
def firstCards : Mode → CardSet
  | .singleA => ⟨true, false⟩ | .relayAB => ⟨true, false⟩
  | .singleB => ⟨false, true⟩ | .relayBA => ⟨false, true⟩
  | .mirror => ⟨true, true⟩

/-- The clip begins at the oldest entry (R24, R25). -/
def beginClip (preRecord : Nat → Nat) (s : State) : State :=
  match s.tap.entries with
  | [] => s
  | e :: _ =>
    let s1 := s.setTap { s.tap with ship := e.pos, floor := e.pos, discontinuity := false }
    let audio := placeAudio s1.audio e.frame
    let c := { s1.clip with
      state := .recording, clipStart := e.pos, chunkSeq := 0, index := [], videoStamp := e.frame, startFrame := e.frame
      preRecord := preRecord e.pos
      shipPtr := if s1.clip.audioPart then some audio.1 else none
      audioDiscontinuity := s1.clip.audioPart && audio.2
      audioStop := .unfixed, stopCmd := none, lay := [], run := .none, readReq := none, relayHead := false, closed := false }
    s1.setClip (lay (addClipHead false { c with pages := c.pages ++ [newPage c] }))

/-- The regions that a recording needs are set (R23). -/
def regionsForClip (s : State) : Bool :=
  (streamRegion s).isSome && (frameRegion s).isSome && ((audioRegion s).isSome || s.audio.state == .off)

/-- The checks of REC_START, in their order (R23). -/
def recStartCheck (s : State) : Result :=
  let first := firstCards s.clip.mode
  if s.clip.state ≠ .idle then .badState
  else if !regionsForClip s then .badState
  else if !s.clip.pages.isEmpty then .busy
  else if (first.a && !available s.cardA) || (first.b && !available s.cardB) then .noMedia
  else .ok

/-- The cards of a start become ACTIVE (R23). DESIGN CHOICE (log 11): with both, the CARD_STATE notice of A comes before that of B. -/
def activate (set : CardSet) (s : State) : State :=
  let s1 := if set.a then makeActive .a s else s
  if set.b then makeActive .b s1 else s1

/-- An accepted REC_START (R23). -/
def acceptRecStart (clip : Word16) (s : State) : State :=
  let first := firstCards s.clip.mode
  let s1 := endCause .mediaExhausted (activate first (s.setClip { s.clip with clipNumber := clip, lastClip := clip, targets := first }))
  let s2 := s1.setClip { s1.clip with
    startCursor := s1.tap.cursor
    audioPart := (audioRegion s1).isSome && s1.audio.state != .off }
  let s3 := if s2.tap.entries.isEmpty then s2.setClip { s2.clip with state := .armed }
    else beginClip (fun p => s2.tap.cursor - p) s2
  postNotice (.recState .started s3.clip.state none s3.clip.mode clip 0) s3

/-- REC_START, whether from the host or from the grip (R23, R29). -/
def recStart (clip : Word16) (s : State) : State × Result :=
  match recStartCheck s with
  | .ok => (acceptRecStart clip s, .ok)
  | r => (s, r)

/-- The first entry is taken in ARMED (R19, R24). -/
def armedEntry (s : State) : State :=
  if s.clip.state = .armed then
    let s1 := beginClip (fun _ => 0) s
    postNotice (.recState .started .recording none s1.clip.mode s1.clip.clipNumber 0) s1
  else s

/-! ### REC_STOP (R26, R27) -/

/-- The audio stop block as it is fixed at REC_STOP (R27). -/
def audioStopAt (c : Clip) (a : Audio) : AudioStop :=
  if c.audioPart then
    match fillingBlock a, newestBlock a (doneBlocks a), c.shipPtr with
    | some n, _, _ => .upTo n
    | none, some i, some p => if blockOrder a i.number < blockOrder a p then .nothing else .upTo i.number
    | none, some i, none => .upTo i.number
    | none, none, _ => .nothing
  else .nothing

/-- REC_STOP, with the command when it has one to complete (R26, R27, R29); a hold in force is marked (R15). -/
def recStop (cmd : Option Kept) (s : State) : State × Result :=
  match s.clip.state with
  | .armed =>
    let s1 := releaseCard .b (releaseCard .a (s.setClip { s.clip with state := .idle }))
    (postNotice (.recState .stopped .idle none s1.clip.mode s1.clip.clipNumber 0) s1, .ok)
  | .recording =>
    let s1 := (s.setTap { s.tap with stopHold := s.tap.held.isSome }).setClip { s.clip with
      state := .stopping, stopPos := s.tap.cursor, audioStop := audioStopAt s.clip s.audio, stopCmd := cmd }
    (if assembled s1 then s1 else assemblyEnded s1, .accepted)
  | _ => (s, .badState)

/-- A press edge of the grip's REC button (R29). DEDUCED (log 21): a REFUSED notice carries the number that the press asked for and the
configured mode, since no clip exists. -/
def gripPress (s : State) : State :=
  if s.clip.gripRec then
    match s.clip.state with
    | .idle =>
      let clip := s.clip.lastClip + 1
      let r := recStart clip s
      if r.2 = .ok then r.1
      else postNotice (.recState .refused r.1.clip.state (some r.2) r.1.clip.mode clip 0) r.1
    | .armed => (recStop none s).1
    | .recording => (recStop none s).1
    | .stopping => s
  else s

end Sys2Proof.Machine
end

