-- ==== Sys2Proof/Machine/Motion.lean ====
section
/-! DEFINITION. The rows of the Motion Unit (chapter 5): gyro reads, the per-axis computation and its commands. -/

namespace Sys2Proof.Machine

/-! ### The per-axis computation (R91 to R98) -/

/-- Values that a sample uses for one axis: leak exponents and pan parameters, the gain and the margin. -/
structure SampleEnv where
  kSteady : Nat
  kPan : Nat
  panThreshold : Nat
  panEnter : Nat
  panExit : Nat
  gain : Nat
  margin : Nat
  deriving DecidableEq, Repr

/-- d, the rate less the bias, saturated to signed 16 bits (R91). -/
def rateStep (rate bias : Int) : Int := max (-32768) (min 32767 (rate - bias))

/-- The state test (R92). -/
def stateTest (e : SampleEnv) (d : Int) (a : Axis) : Axis :=
  match a.state with
  | .steady =>
    if e.panThreshold < d.natAbs then
      if a.panEnterCount + 1 = e.panEnter then { a with state := .pan, panEnterCount := 0 }
      else { a with panEnterCount := a.panEnterCount + 1 }
    else { a with panEnterCount := 0 }
  | .pan =>
    if d.natAbs < e.panThreshold / 2 then
      if a.panExitCount + 1 = e.panExit then { a with state := .steady, panExitCount := 0 }
      else { a with panExitCount := a.panExitCount + 1 }
    else { a with panExitCount := 0 }
  | _ => a

/-- Integration: in STEADY and PAN only (R93). -/
def integrate (st : AxisState) (d angle : Int) : Int :=
  match st with
  | .steady => angle + d
  | .pan => angle + d
  | _ => angle

/-- The leak exponent of a state (R94). -/
def leakExponent (e : SampleEnv) : AxisState → Nat
  | .steady => e.kSteady
  | _ => e.kPan

/-- The leak (R94). -/
def leak (k : Nat) (angle : Int) : Int := angle - trunc angle (2 ^ k)

/-- A_lim (R97). -/
def angleLimit (margin gain : Nat) : Nat := margin * 2 ^ 21 / gain

/-- The anti-windup clamp (R97). -/
def clampAngle (limit : Nat) (angle : Int) : Int :=
  if limit < angle.natAbs then (if 0 < angle then (limit : Int) else -(limit : Int)) else angle

/-- The shift before the direction: q / 2²¹ to the nearest whole pixel, halves away from zero (R98). -/
def roundShift (q : Int) : Int := q.sign * (((q.natAbs + 2 ^ 20) >>> 21 : Nat) : Int)

/-- One sample of one axis, in the order of R90; an axis in OFF takes no step. -/
def sampleAxis (e : SampleEnv) (rate : Int) (a : Axis) : Axis :=
  if a.state = .off then a
  else
    let d := rateStep rate a.bias
    let a1 := stateTest e d a
    let angle := clampAngle (angleLimit e.margin e.gain) (leak (leakExponent e a1.state) (integrate a1.state d a1.angle))
    let shift := roundShift (angle * e.gain)
    { a1 with angle := angle, shift := if a1.inverted then -shift else shift }

/-- The gain at zoom position `p` (R95). -/
def gainAt (table : Vector Nat 33) (seg p : Nat) : Nat :=
  let i := p / seg
  let lo := (table[i]?).getD 0
  match table[i + 1]? with
  | some hi => ((lo : Int) + trunc (((hi : Int) - lo) * (p % seg)) seg).toNat
  | none => (table[32])

/-- What a sample uses for an axis of this margin, as it stands at the sample (R90). -/
def sampleEnv (s : State) (margin : Nat) : SampleEnv :=
  ⟨s.motion.kSteady, s.motion.kPan, s.motion.panThreshold, s.motion.panEnter, s.motion.panExit,
    gainAt s.motion.focal s.zoom.seg s.zoom.pos, margin⟩

/-- A sample is processed by both axes with the last good rates (R90). -/
def processSample (s : State) : State :=
  let m := s.motion
  s.setMotion { m with
    x := sampleAxis (sampleEnv s (margins s).1) m.lastYaw m.x
    y := sampleAxis (sampleEnv s (margins s).2) m.lastPitch m.y }

/-! ### Gyro reads (R88, R89) -/

def releaseHold (a : Axis) : Axis :=
  if a.state = .hold then { a with state := .steady, panEnterCount := 0, panExitCount := 0 } else a

def enterHold (a : Axis) : Axis :=
  if a.state = .off then a else { a with state := .hold, panEnterCount := 0, panExitCount := 0 }

/-- The end of a good read (R89). -/
def goodRead (yaw pitch : Int) (s : State) : State :=
  let m := { s.motion with lastYaw := yaw, lastPitch := pitch, failures := 0, reading := false }
  if s.motion.failures = Config.gyroFailCap then
    processSample (endCause .gyroFault (s.setMotion { m with x := releaseHold m.x, y := releaseHold m.y }))
  else processSample (s.setMotion m)

/-- The end of a failed read (R89). -/
def failedRead (s : State) : State :=
  let n := min Config.gyroFailCap (s.motion.failures + 1)
  let m := { s.motion with failures := n, reading := false }
  if n = Config.gyroFailCap ∧ s.motion.failures < Config.gyroFailCap then
    processSample (startCause .gyroFault (s.setMotion { m with x := enterHold m.x, y := enterHold m.y }))
  else processSample (s.setMotion m)

/-- GYRO_SAMPLE_INSTANT (R88, R213): while sampling runs, a read starts: the select is asserted and the request byte sent. -/
def execGyroSampleInstant (s : State) : Outcome :=
  act (fun s1 => if s1.motion.sampling then
    s1.setMotion { s1.motion with reading := true, portOut := mostSignificantFirst gyroRequest } else s1) s

/-- The complete answer to a read (R88, R89): bit 0 of the status byte is DATA_OK. -/
def gyroAnswer (status yawLow yawHigh pitchLow pitchHigh : Byte) (s : State) : State :=
  if s.motion.reading then
    if status.getLsbD 0 then goodRead (gyroRate yawLow yawHigh) (gyroRate pitchLow pitchHigh) s else failedRead s
  else s

/-- GYRO_ANSWER (R88, R89, R213): the five bytes as their bits come in on the motion port. -/
def execGyroAnswer (status yawLow yawHigh pitchLow pitchHigh : PortBits) (s : State) : Outcome :=
  act (gyroAnswer (portByte status) (portByte yawLow) (portByte yawHigh) (portByte pitchLow) (portByte pitchHigh)) s

/-- GYRO_READ_TIMEOUT (R89). -/
def execGyroReadTimeout (s : State) : Outcome :=
  act (fun s1 => if s1.motion.reading then failedRead s1 else s1) s

/-! ### Commands (R99 to R102) -/

/-- A direction code: NORMAL 0, INVERTED 1 (R205). -/
def directionOf (b : Byte) : Option Bool :=
  match b.toNat with
  | 0 => some false
  | 1 => some true
  | _ => none

/-- A bias, where it is in range (R99). -/
def biasOf (w : Word16) : Option Int := if -4096 ≤ w.toInt ∧ w.toInt ≤ 4095 then some w.toInt else none

def zeroCounts (a : Axis) : Axis := { a with panEnterCount := 0, panExitCount := 0 }

/-- The unit's fields of STAB_CONFIG are in range (R99). -/
def stabFieldsGood (kSteady kPan : Byte) (panThreshold : Word16) (panEnter : Byte) (panExit : Word16) : Bool :=
  8 ≤ kSteady.toNat && kSteady.toNat ≤ 15 && 3 ≤ kPan.toNat && kPan.toNat ≤ 7
    && 2 ≤ panThreshold.toNat && panThreshold.toNat ≤ 32767 && 1 ≤ panEnter.toNat
    && 1 ≤ panExit.toNat && panExit.toNat ≤ 4095

/-- STAB_CONFIG (R99). -/
def stabConfigBody (biasX biasY : Word16) (dirX dirY kSteady kPan : Byte) (panThreshold : Word16) (panEnter : Byte)
    (panExit : Word16) (s : State) : State × Result :=
  match biasOf biasX, biasOf biasY, directionOf dirX, directionOf dirY with
  | some bx, some by', some ix, some iy =>
    if stabFieldsGood kSteady kPan panThreshold panEnter panExit then
      (s.setMotion { s.motion with
        x := { zeroCounts s.motion.x with bias := bx, inverted := ix }
        y := { zeroCounts s.motion.y with bias := by', inverted := iy }
        kSteady := kSteady.toNat, kPan := kPan.toNat, panThreshold := panThreshold.toNat
        panEnter := panEnter.toNat, panExit := panExit.toNat }, .ok)
    else (s, .badArg)
  | _, _, _, _ => (s, .badArg)

def execStabConfig (_h : EntryHead) (biasX biasY : Word16) (dirX dirY kSteady kPan : Byte) (panThreshold : Word16)
    (panEnter : Byte) (panExit : Word16) (s : State) : Outcome :=
  .next (runCommand s (stabConfigBody biasX biasY dirX dirY kSteady kPan panThreshold panEnter panExit))

/-- An axis recentred in a state: A, both pan counts and the latest shift are 0 (R100, R101). -/
def recentre (st : AxisState) (a : Axis) : Axis :=
  { a with state := st, angle := 0, shift := 0, panEnterCount := 0, panExitCount := 0 }

/-- STAB_ENABLE (R100). -/
def stabEnableBody (s : State) : State × Result :=
  let m := if s.motion.sampling then s.motion
    else { s.motion with sampling := true, failures := 0, lastYaw := 0, lastPitch := 0 }
  let st : AxisState := if m.failures = Config.gyroFailCap then .hold else .steady
  (s.setMotion { m with x := recentre st m.x, y := recentre st m.y }, .ok)

def execStabEnable (_h : EntryHead) (s : State) : Outcome := .next (runCommand s stabEnableBody)

/-- STAB_DISABLE (R101). -/
def stabDisableBody (s : State) : State × Result :=
  (endCause .gyroFault (s.setMotion { s.motion with
    x := recentre .off s.motion.x, y := recentre .off s.motion.y
    sampling := false, reading := false, failures := 0, lastYaw := 0, lastPitch := 0 }), .ok)

def execStabDisable (_h : EntryHead) (s : State) : Outcome := .next (runCommand s stabDisableBody)

/-- A table's address is a multiple of 128 and its 128 bytes lie below the memory size (R102, R125). -/
def tableAddressGood (s : State) (addr : Word32) : Bool := addr.toNat % 128 == 0 && addr.toNat + 128 ≤ s.path.memSize

/-- FOCAL_LOAD (R102): the address is checked and the 72-byte read presented. -/
def execFocalLoad (h : EntryHead) (addr : Word32) (s : State) : Outcome :=
  .next (runTableCommand s (tableAddressGood s addr) addr.toNat 72 (.focal ⟨0x23, h.tag, h.notify⟩))

/-- FOCAL_LOAD_READ_RETURN (R102): the gains replace the table together, unless one is 0. -/
def focalReturn (data : List Byte) (s : State) : State :=
  match nextCompletion s with
  | some (⟨_, .focalTable⟩, s1) =>
    if data.length = 72 then
      match focalTableOf data with
      | some t => finishCommand .ok (s1.setMotion { s1.motion with focal := t })
      | none => finishCommand .badArg s1
    else s
  | _ => s

def execFocalLoadReadReturn (data : List Byte) (s : State) : Outcome := act (focalReturn data) s

/-! ### Reset (R105) -/

/-- What a SOFT_RESET leaves of the Motion Unit is what a hard reset leaves (R104, R105). -/
def softResetMotion (s : State) : State := endCause .gyroFault (s.setMotion Motion.reset)

end Sys2Proof.Machine
end

