-- ==== Sys2Proof/Machine/Zoom.lean ====
section
/-! DEFINITION. The rows of the Zoom Drive (chapter 7): the ramp, the lens timer, the encoder, HOME and its commands. -/

namespace Sys2Proof.Machine

/-! ### Shared operations -/

/-- Zmax (R126). -/
def Zoom.zmax (z : Zoom) : Nat := 32 * z.seg

/-- What an event of the drive leaves, and what it reports. -/
abbrev ZoomResult := Zoom × List Report

/-- The drive's result in the state of the part. -/
def applyZoom (r : ZoomResult) (s : State) : State := reports r.2 (s.setZoom r.1)

/-- A stop request: taken at the next underflow of a running timer, moot for a stopped one (R123). -/
def requestStop (z : Zoom) : Zoom := { z with stopRequest := z.running, level := 0 }

/-- ENABLE goes inactive, once the timer has stopped (R123). -/
def enableOff (z : Zoom) : Zoom :=
  if z.running then { z with enableOffPending := true } else { z with enable := false, enableOffPending := false }

def ZoomOutcome.result : ZoomOutcome → Result
  | .reached => .ok | .homed => .ok | _ => .aborted

/-- A GOTO in progress ends with an outcome (R136). -/
def endMove (o : ZoomOutcome) (z : Zoom) : ZoomResult :=
  match z.move with
  | some m =>
    ({ z with move := none },
      commandEnds (some m.cmd) o.result ++ [.post (.zoomDone false o z.pos (some m.target) m.cmd.tag)])
  | none => (z, [])

/-- The homing in progress ends with an outcome (R136). -/
def endHoming (o : ZoomOutcome) (z : Zoom) : ZoomResult :=
  ({ z with homingCmd := none },
    commandEnds z.homingCmd o.result ++ [.post (.zoomDone true o z.pos none ((z.homingCmd.map Kept.tag).getD 0))])

/-- The setting of a level in the Speed Table. -/
def levelSetting (z : Zoom) (l : Nat) : TimerSetting := ((z.speeds[l]?).getD ⟨⟨128, 65535⟩, 0⟩).setting

/-- The actual level becomes `l`: 0 asks the timer to stop, another level is written into the stored values (R123, R127). -/
def setLevel (l : Nat) (z : Zoom) : Zoom :=
  if l = 0 then requestStop z else { z with level := l, stored := levelSetting z l }

/-- The timer is started at level 1 toward `d` (R122, R127). -/
def startTimer (d : ZoomDir) (z : Zoom) : Zoom :=
  let t := levelSetting z 1
  { z with dir := d, level := 1, stored := t, active := t, counter := t.reload, step := false, running := true,
           stopRequest := false }

/-! ### The lens timer (R122, R123, R124) -/

/-- The encoder count and the steps disagree by more than the tolerance (R139). -/
def slipped (z : Zoom) : Bool := (z.tolerance : Int) < |z.encoder.toInt * z.e - z.pos|

/-- A slip (R139). -/
def slip (z : Zoom) : ZoomResult :=
  let r := endMove .fault { requestStop z with homed := false, hostDemand := 0, override := false, servo := .fault }
  (enableOff r.1, r.2 ++ [.start .zoomFault])

/-- The move has arrived (R135). -/
def arrive (z : Zoom) : ZoomResult := endMove .reached { requestStop z with servo := .idle }

/-- The test of R135 after a step in GOTO. -/
def arrivalTest (z : Zoom) : ZoomResult :=
  match z.servo, z.move with
  | .goto, some m => if z.pos = m.target then arrive z else (z, [])
  | _, _ => (z, [])

/-- pos after a step outside HOMING; the step that reaches the end of the range is the last of its run (R124). -/
def stepPos (z : Zoom) : Zoom :=
  match z.dir with
  | .tele =>
    let z1 := { z with pos := z.pos + 1 }
    if z1.pos = z1.zmax then requestStop z1 else z1
  | .wide =>
    let z1 := { z with pos := z.pos - 1 }
    if z1.pos = 0 then requestStop z1 else z1

/-- The step limit of a homing (R132). -/
def homingLimit (z : Zoom) : Nat := z.zmax + z.zmax / 8

/-- A homing reaches its step limit with HOME inactive (R132). -/
def homingFails (z : Zoom) : ZoomResult :=
  let r := endHoming .fault { requestStop z with servo := .fault }
  (enableOff r.1, [.start .zoomFault] ++ r.2)

/-- A rising edge of STEP (R124, R131). -/
def stepEvent (z : Zoom) : ZoomResult :=
  match z.servo with
  | .homing =>
    let z1 := { z with homingSteps := z.homingSteps + 1 }
    if homingLimit z1 ≤ z1.homingSteps ∧ z1.homeFilter.level = false then homingFails z1 else (z1, [])
  | _ =>
    let z1 := stepPos z
    if z1.homed ∧ slipped z1 then slip z1 else arrivalTest z1

/-- The underflow that takes a stop request: STEP is low, the timer stops, and a waiting ENABLE goes inactive (R123). -/
def stopUnderflow (z : Zoom) : Zoom :=
  { z with active := z.stored, step := false, running := false, stopRequest := false
           enable := z.enable && !z.enableOffPending, enableOffPending := false }

/-- An underflow of the lens timer (R122, R123). -/
def underflow (z : Zoom) : ZoomResult :=
  if !z.running then (z, [])
  else if z.stopRequest then (stopUnderflow z, [])
  else
    let z1 := { z with active := z.stored, counter := z.stored.reload, step := !z.step }
    if z1.step then stepEvent z1 else (z1, [])

/-- LENS_TIMER_UNDERFLOW (R123). -/
def execLensTimerUnderflow (s : State) : Outcome := act (fun s1 => applyZoom (underflow s1.zoom) s1) s

/-! ### The ramp (R127, R128, R130, R134) -/

/-- The content of a fresh GRIP_IN buffer of a RUNNING link (R128, R178). -/
def gripContent (a : Acc) : Option LinkContent :=
  if a.link = .running then
    a.buffers.toList.findSome? fun b => match b with
      | .receive r => if r.owner = .gripIn ∧ r.freshness ≤ r.staleCycles then r.content else none
      | _ => none
  else none

/-- The rocker (R128): −128 is taken as −127, and a missing byte as 0 (R178). -/
def rocker (a : Acc) : Int :=
  match gripContent a with
  | some c => max (-127) ((c.data.head?.map BitVec.toInt).getD 0)
  | none => 0

/-- The rocker demand (R128). -/
def rockerDemand (r : Int) : Int := if r.natAbs ≤ 7 then 0 else r.sign * (min 15 (r.natAbs / 8) : Nat)

/-- The grip override is settled (R130). -/
def settleOverride (rd : Int) (z : Zoom) : ZoomResult :=
  match z.servo with
  | .idle | .speed | .goto =>
    if rd ≠ 0 then
      if z.override then (z, [])
      else endMove .aborted { z with override := true, hostDemand := 0, servo := .speed }
    else ({ z with override := false }, [])
  | _ => ({ z with override := false }, [])

/-- SPEED ends in IDLE at a tick that finds level 0, the timer stopped and no demand (R133). -/
def settleIdle (z : Zoom) : Zoom :=
  if z.servo = .speed ∧ z.override = false ∧ z.level = 0 ∧ z.running = false ∧ z.hostDemand = 0 then { z with servo := .idle }
  else z

def dirSign : ZoomDir → Int
  | .tele => 1 | .wide => -1

/-- Braking steps of the actual level; 0 at level 0 (R134). -/
def brakingSteps (z : Zoom) : Nat := if z.level = 0 then 0 else ((z.speeds[z.level]?).map SpeedEntry.braking).getD 0

/-- The demand of a GOTO, with the braking mark it leaves (R134). -/
def gotoDemand (m : GotoRecord) (z : Zoom) : Int × Bool :=
  let way : Int := if z.pos < m.target then 1 else -1
  let distance := ((m.target : Int) - z.pos).natAbs
  if 0 < z.level ∧ dirSign z.dir ≠ way then (0, m.braking)
  else if m.braking = false ∧ brakingSteps z < distance then (way * m.maxLevel, false)
  else (way * (max 1 (z.level - 1) : Nat), true)

/-- A demand toward the end at which pos stands counts as 0 (R127). -/
def endDemand (z : Zoom) (d : Int) : Int :=
  if (0 < d ∧ z.pos = z.zmax) ∨ (d < 0 ∧ z.pos = 0) then 0 else d

/-- The demand of a tick, and the drive with the braking mark set where braking begins (R127). -/
def tickDemand (rd : Int) (z : Zoom) : Int × Zoom :=
  match z.servo with
  | .speed => (endDemand z (if z.override then rd else z.hostDemand), z)
  | .goto =>
    match z.move with
    | some m =>
      let g := gotoDemand m z
      (endDemand z g.1, { z with move := some { m with braking := g.2 } })
    | none => (0, z)
  | .homing => (-4, z)
  | _ => (0, z)

/-- The actual level moves by at most one (R127). -/
def moveLevel (d : Int) (z : Zoom) : Zoom :=
  if 0 < z.level then
    if d = 0 ∨ d.sign ≠ dirSign z.dir ∨ d.natAbs < z.level then setLevel (z.level - 1) z
    else if z.level < d.natAbs then setLevel (z.level + 1) z
    else z
  else if d ≠ 0 ∧ z.running = false then startTimer (if 0 < d then .tele else .wide) z
  else z

/-- A ramp tick with its rocker demand (R127). -/
def rampTick (rd : Int) (z : Zoom) : ZoomResult :=
  let r := settleOverride rd z
  let t := tickDemand rd (settleIdle r.1)
  (moveLevel t.1 t.2, r.2)

/-- RAMP_TICK (R127). -/
def execRampTick (s : State) : Outcome :=
  act (fun s1 => applyZoom (rampTick (rockerDemand (rocker s1.acc)) s1.zoom) s1) s

/-! ### Encoder and HOME (R132, R137, R138) -/

/-- One sample of an input filter, and whether its filtered level rises (R137). -/
def filterSample (f : InputFilter) (v : Bool) : InputFilter × Bool :=
  if v = f.level then (⟨f.level, 0, v⟩, false)
  else
    let run := if f.last = v then f.run + 1 else 1
    if run = 3 then (⟨v, 0, v⟩, v) else (⟨f.level, run, v⟩, false)

/-- An accepted encoder edge (R138). The count at the ends of its signed 32 bits is open (log 9). -/
def encoderEdge (z : Zoom) : Zoom :=
  if z.homed then
    let past := (z.dir = .tele ∧ z.encoder = 0x7FFFFFFF) ∨ (z.dir = .wide ∧ z.encoder = 0x80000000)
    { z with encoder := if past then Config.encoderPastRange z.encoder (z.dir == .tele)
        else match z.dir with | .tele => z.encoder + 1 | .wide => z.encoder - 1 }
  else z

/-- A sample of ENC every 4 µs (R137). -/
def encSample (z : Zoom) (v : Bool) : Zoom :=
  let f := filterSample z.encFilter v
  let z1 := { z with encFilter := f.1 }
  if f.2 then encoderEdge z1 else z1

/-- ENCODER_EDGE (R138): the samples of ENC since the row before, each through the filter. -/
def execEncoderEdge (samples : List Bool) (s : State) : Outcome :=
  act (fun s1 => s1.setZoom (samples.foldl encSample s1.zoom)) s

/-- HOME ends a homing (R132). -/
def homingSucceeds (z : Zoom) : ZoomResult :=
  let r := endHoming .homed { requestStop z with pos := 0, encoder := 0, homed := true, servo := .idle }
  (r.1, [.stop .zoomFault] ++ r.2)

/-- A sample of HOME every 4 µs; its rise ends a homing, and has no effect in any other state (R132, R137). -/
def homeSample (r : ZoomResult) (v : Bool) : ZoomResult :=
  let f := filterSample r.1.homeFilter v
  let z1 := { r.1 with homeFilter := f.1 }
  if f.2 ∧ z1.servo = .homing then
    let h := homingSucceeds z1
    (h.1, r.2 ++ h.2)
  else (z1, r.2)

/-- HOME_RISE (R132): the samples of HOME since the row before, each through the filter. -/
def execHomeRise (samples : List Bool) (s : State) : Outcome :=
  act (fun s1 => applyZoom (samples.foldl homeSample (s1.zoom, [])) s1) s

/-! ### Commands -/

/-- A command body of the drive: its result and what it reports. -/
def zoomBody (f : Zoom → ZoomResult × Result) (s : State) : State × Result :=
  let r := f s.zoom
  (applyZoom r.1 s, r.2)

/-- A command of the drive that may begin a move which ends at once: the result is written, and the reports of that end follow it
(R191, R192; log 11). `f` gives the drive with what it reports before the result, the result, and what it reports after it. -/
def runMove (f : Zoom → (ZoomResult × Result) × List Report) (s : State) : State :=
  match takeEntry s with
  | none => s
  | some s1 =>
    let r := f s1.zoom
    reports r.2 (finishCommand r.1.2 (applyZoom r.1.1 s1))

/-- ZOOM_HOME (R131, R132); with HOME active the homing ends right after its ACCEPTED result. -/
def zoomHome (k : Kept) (z : Zoom) : (ZoomResult × Result) × List Report :=
  match z.servo with
  | .speed | .goto | .homing => (((z, []), .busy), [])
  | _ =>
    if z.configured then
      let z1 := { z with homed := false, hostDemand := 0, homingSteps := 0, enable := true, enableOffPending := false
                         servo := .homing, homingCmd := some k }
      if z1.homeFilter.level then
        let r := homingSucceeds z1
        (((r.1, []), .accepted), r.2)
      else (((z1, []), .accepted), [])
    else (((z, []), .badState), [])

def execZoomHome (h : EntryHead) (s : State) : Outcome := .next (runMove (zoomHome ⟨0x29, h.tag, h.notify⟩) s)

/-- A move is begun, or ends at once (R134): under the grip override right after its ACCEPTED result (R130). -/
def beginGoto (k : Kept) (target maxLevel : Nat) (z : Zoom) : (ZoomResult × Result) × List Report :=
  if z.override then
    (((z, []), .accepted),
      commandEnds (some k) .aborted ++ [.post (.zoomDone false .aborted z.pos (some target) k.tag)])
  else
    let r := endMove .aborted z
    if z.pos = target then
      ((({ requestStop r.1 with servo := .idle }, r.2 ++ [.post (.zoomDone false .reached z.pos (some target) k.tag)]), .ok), [])
    else ((({ r.1 with hostDemand := 0, move := some ⟨target, maxLevel, false, k⟩, servo := .goto }, r.2), .accepted), [])

/-- ZOOM_GOTO (R134). -/
def zoomGoto (k : Kept) (target : Word16) (maxLevel : Byte) (z : Zoom) : (ZoomResult × Result) × List Report :=
  if z.zmax < target.toNat ∨ maxLevel.toNat = 0 ∨ 15 < maxLevel.toNat then (((z, []), .badArg), [])
  else
    match z.servo with
    | .unhomed | .fault => (((z, []), .notHomed), [])
    | .homing => (((z, []), .busy), [])
    | _ => beginGoto k target.toNat maxLevel.toNat z

def execZoomGoto (h : EntryHead) (target : Word16) (maxLevel : Byte) (s : State) : Outcome :=
  .next (runMove (zoomGoto ⟨0x2A, h.tag, h.notify⟩ target maxLevel) s)

/-- ZOOM_SPEED (R133). DEDUCED (log 39): a demand taken while the override is set is recorded and governs at its release, also where the
tick that set the override came with the command. -/
def zoomSpeed (level : Byte) (z : Zoom) : ZoomResult × Result :=
  if 15 < level.toInt.natAbs then ((z, []), .badArg)
  else
    match z.servo with
    | .unhomed | .fault => ((z, []), .notHomed)
    | .homing => ((z, []), .busy)
    | _ =>
      let z1 := { z with hostDemand := level.toInt }
      if z.override then ((z1, []), .ok)
      else (endMove .aborted { z1 with servo := .speed }, .ok)

def execZoomSpeed (_h : EntryHead) (level : Byte) (s : State) : Outcome := .next (runCommand s (zoomBody (zoomSpeed level)))

/-- ZOOM_STOP (R136). -/
def zoomStop (z : Zoom) : ZoomResult × Result :=
  match z.servo with
  | .unhomed | .fault => ((z, []), .notHomed)
  | .homing =>
    let r := endHoming .aborted { requestStop z with servo := .unhomed }
    ((enableOff r.1, r.2), .ok)
  | _ =>
    if z.override then (({ z with hostDemand := 0 }, []), .ok)
    else (endMove .aborted { requestStop z with hostDemand := 0, servo := .idle }, .ok)

def execZoomStop (_h : EntryHead) (s : State) : Outcome := .next (runCommand s (zoomBody zoomStop))

/-- The arguments of ZOOM_CONFIG are in range (R125). -/
def zoomArgsGood (s : State) (addr : Word32) (seg : Word16) (e tolerance : Byte) : Bool :=
  tableAddressGood s addr && 16 ≤ seg.toNat && seg.toNat ≤ 1024 && 1 ≤ e.toNat && e.toNat ≤ 16 && 4 ≤ tolerance.toNat

/-- ZOOM_CONFIG (R125): the arguments are checked and the 128-byte read presented. -/
def execZoomConfig (h : EntryHead) (addr : Word32) (seg : Word16) (e tolerance : Byte) (s : State) : Outcome :=
  .next (runTableCommand s (zoomArgsGood s addr seg e tolerance) addr.toNat 128
    (.zoom ⟨0x28, h.tag, h.notify⟩ seg.toNat e.toNat tolerance.toNat))

/-- An accepted ZOOM_CONFIG (R126). -/
def configureZoom (t : Vector SpeedEntry 16) (seg e tolerance : Nat) (z : Zoom) : Zoom :=
  { z with
    speeds := t, seg := seg, e := e, tolerance := tolerance, configured := true, homed := false, pos := 0, encoder := 0
    hostDemand := 0, level := 0, enable := false, enableOffPending := false
    servo := if z.servo = .fault then .fault else .unhomed }

/-- The drive moves or may move: ZOOM_CONFIG is BUSY (R125). -/
def zoomBusy (z : Zoom) : Bool := z.servo == .speed || z.servo == .goto || z.servo == .homing || z.running

/-- ZOOM_CONFIG_READ_RETURN (R125, R126). -/
def zoomConfigReturn (data : List Byte) (s : State) : State :=
  match nextCompletion s, s.control.phase with
  | some (⟨_, .speedTable⟩, s1), .zoom _ seg e tolerance =>
    if data.length = 128 then
      if zoomBusy s.zoom then finishCommand .busy s1
      else
        match speedTableOf data with
        | some t => finishCommand .ok (s1.setZoom (configureZoom t seg e tolerance s1.zoom))
        | none => finishCommand .badArg s1
    else s
  | _, _ => s

def execZoomConfigReadReturn (data : List Byte) (s : State) : Outcome := act (zoomConfigReturn data) s

/-! ### Reset (R143) -/

/-- What a SOFT_RESET does to the drive (R143). -/
def softResetZoomDrive (z : Zoom) : Zoom :=
  enableOff { requestStop z with
    servo := .unhomed, homed := false, pos := 0, hostDemand := 0, homingSteps := 0, encoder := 0, override := false
    move := none, homingCmd := none }

def softResetZoom (s : State) : State := endCause .zoomFault (s.setZoom (softResetZoomDrive s.zoom))

end Sys2Proof.Machine
end

