-- ==== Sys2Proof/Machine/Accessory.lean ====
section
/-! DEFINITION. The rows of the Accessory Link Controller (chapter 9): cycles, messages, buffers and its commands. -/

namespace Sys2Proof.Machine

/-! ### Buffers (9.3) -/

/-- The indices of the message buffers. -/
def bufferIndices : List (Fin 16) := List.finRange 16

def Acc.buffer (a : Acc) (i : Fin 16) : LinkBuffer := a.buffers[i]

def Acc.setBuffer (a : Acc) (i : Fin 16) (b : LinkBuffer) : Acc := { a with buffers := a.buffers.set i b }

/-- The identifier of a dedicated buffer. -/
def LinkBuffer.identifier : LinkBuffer → Option (BitVec 4)
  | .unconfigured => none
  | .receive r => some r.identifier
  | .transmit t => some t.identifier

def LinkBuffer.owner : LinkBuffer → Option BufferOwner
  | .unconfigured => none
  | .receive r => some r.owner
  | .transmit t => some t.owner

/-- The dedicated buffer of an identifier; there is at most one (R173). -/
def Acc.bufferFor (a : Acc) (n : BitVec 4) : Option (Fin 16) :=
  bufferIndices.find? fun i => (a.buffer i).identifier == some n

/-- The slot belongs to a dedicated TRANSMIT buffer, and is never listened in (R166, R167). -/
def ownsSlot (a : Acc) (n : BitVec 4) : Bool :=
  match (a.bufferFor n).map a.buffer with
  | some (.transmit _) => true
  | _ => false

/-- Entry i of the buffers is changed and the rest of the part left alone. -/
def setLinkBuffer (i : Fin 16) (b : LinkBuffer) (s : State) : State := s.setAcc (s.acc.setBuffer i b)

/-- A RECEIVE buffer is stale (R177). -/
def ReceiveBuffer.stale (r : ReceiveBuffer) : Bool := r.staleCycles < r.freshness

/-! ### Errors (R168) -/

/-- An error in a slot: the flag of the present cycle is set, and a clear window starts ACC_LINK_ERROR's cause (R168). -/
def linkError (s : State) : State :=
  let s1 := if s.acc.errors = 0 then startCause .accLinkError s else s
  s1.setAcc { s1.acc with errors := s1.acc.errors ||| 1 }

/-- The window moves on by one cycle (R168). -/
def moveWindow (s : State) : State :=
  let e := s.acc.errors <<< 1
  let s1 := s.setAcc { s.acc with errors := e }
  if e = 0 then endCause .accLinkError s1 else s1

/-! ### Entry to CONFIG (R170) -/

/-- A buffer at entry to CONFIG (R170). -/
def configBuffer : LinkBuffer → LinkBuffer
  | .receive r => .receive { r with freshness := Config.staleCount, notified := if r.owner = .host then none else r.notified }
  | .transmit t => .transmit (if t.owner = .host then { t with content := none, waitingSend := none } else t)
  | .unconfigured => .unconfigured

/-- The waiting send that an emptied ONESHOT buffer aborts (R170). -/
def abortedSend : LinkBuffer → List Report
  | .transmit t => if t.owner = .host ∧ t.oneshot ∧ t.content.isSome then commandEnds t.waitingSend .aborted else []
  | _ => []

/-- The link enters CONFIG (R170). DESIGN CHOICE (log 35): the CMD_DONE notices of several emptied sends come in rising buffer index. -/
def enterConfig (s : State) : State :=
  let sends := s.acc.buffers.toList.flatMap abortedSend
  let s1 := s.setAcc { s.acc with
    link := .config, startWait := none, stopWait := none, queue := [], errors := 0, heard := 0, line := .released
    buffers := s.acc.buffers.map configBuffer }
  reports ([.stop .accQueueOverrun, .stop .gripStale] ++ sends ++ [.stop .accLinkError]) s1

/-! ### Freshness (R177, R179, R180) -/

/-- What a buffer that becomes stale does: GRIP_IN starts GRIP_STALE's cause, and a HOST buffer hands on a stale ACC_MSG (R179,
R180). -/
def becomesStale (i : Fin 16) (r : ReceiveBuffer) (s : State) : State :=
  match r.owner with
  | .gripIn => startCause .gripStale s
  | .host =>
    postNotice (.accMsg i.val r.identifier true []) (setLinkBuffer i (.receive { r with notified := none }) s)
  | _ => s

/-- A buffer's freshness count advances at a cycle start (R177). -/
def ageBuffer (s : State) (i : Fin 16) : State :=
  match s.acc.buffer i with
  | .receive r =>
    let r1 := { r with freshness := min Config.staleCount (r.freshness + 1) }
    let s1 := setLinkBuffer i (.receive r1) s
    if !r.stale && r1.stale then becomesStale i r1 s1 else s1
  | _ => s

/-! ### Bound buffers (R184, R211) -/

/-- One flag per condition, set while it is not CLEAR (R184). -/
def conditionSet (s : State) : Nat :=
  (allConditions.map fun c => if condState s c = .clear then 0 else 2 ^ c.number.val).sum

def tallyBytes (s : State) : List Byte :=
  [s.clip.state.code, s.cardA.state.code, s.cardB.state.code] ++ littleEndian 2 s.clip.clipNumber.toNat
    ++ [s.audio.state.code] ++ littleEndian 2 (conditionSet s)

def meterBytes (s : State) : List Byte :=
  s.audio.meters.toList.map (fun m => BitVec.ofNat 8 m.segment) ++ s.audio.meters.toList.map (fun m => BitVec.ofNat 8 m.held)

/-- pos in per-mille of Zmax (R184). -/
def perMille (z : Zoom) : Nat := z.pos * 1000 / z.zmax

def lensBytes (s : State) : List Byte :=
  littleEndian 2 (perMille s.zoom)
    ++ [s.zoom.servo.code, s.motion.x.state.code ||| (s.motion.y.state.code <<< 4)]

/-- The content that a bound owner gives (R184). -/
def boundContent (s : State) : BufferOwner → Option (List Byte)
  | .tallyOut => some (tallyBytes s)
  | .meterOut => some (meterBytes s)
  | .lensOut => some (lensBytes s)
  | _ => none

/-- A bound TRANSMIT buffer is filled afresh (R183, R184). -/
def fillBound (s : State) (i : Fin 16) : State :=
  match s.acc.buffer i with
  | .transmit t =>
    match boundContent s t.owner with
    | some d => setLinkBuffer i (.transmit { t with content := some ⟨d⟩ }) s
    | none => s
  | _ => s

/-! ### The cycle instant (R164, R169, R171, R183) -/

/-- A cycle starts: the window moves, freshness advances, the bound buffers are filled, and the mark is driven (R183). DESIGN CHOICE
(log 35): of several buffers that become stale at it, each acts in rising buffer index. -/
def startCycle (s : State) : State :=
  let s1 := bufferIndices.foldl ageBuffer (moveWindow (s.setAcc { s.acc with link := .running, startWait := none, heard := 0 }))
  let s2 := bufferIndices.foldl fillBound s1
  s2.setAcc { s2.acc with line := .mark }

/-- What a cycle instant does in each link state. -/
def cycleInstant (s : State) : State :=
  match s.acc.link with
  | .off => s
  | .config =>
    if s.acc.startWait.isSome then reports (commandEnds s.acc.startWait .ok) (startCycle s) else s
  | .running =>
    if s.acc.stopWait.isSome then reports (commandEnds s.acc.stopWait .ok) (enterConfig s) else startCycle s

/-- CYCLE_INSTANT (R183). -/
def execCycleInstant (s : State) : Outcome := act cycleInstant s

/-! ### Reception (R166, R167, R175, R178, R180) -/

/-- The REC bit of a GRIP_IN content; a missing byte is 0 (R178). -/
def recBit (c : Option LinkContent) : Bool :=
  match c with
  | some ⟨_ :: b :: _⟩ => b.getLsbD 0
  | _ => false

/-- A reception into GRIP_IN (R178, R179): a press edge needs a buffer that was fresh. -/
def gripReceived (old : ReceiveBuffer) (data : List Byte) (s : State) : State :=
  if old.stale then endCause .gripStale s
  else if !recBit old.content && recBit (some ⟨data⟩) then gripPress s
  else s

/-- A reception into a HOST RECEIVE buffer (R180). -/
def hostReceived (i : Fin 16) (r : ReceiveBuffer) (data : List Byte) (s : State) : State :=
  if r.notified = some ⟨data⟩ then s
  else postNotice (.accMsg i.val r.identifier false data) (setLinkBuffer i (.receive { r with notified := some ⟨data⟩ }) s)

/-- A good message goes to its RECEIVE buffer, whose owner acts (R167). -/
def bufferReceives (i : Fin 16) (old : ReceiveBuffer) (data : List Byte) (s : State) : State :=
  let r := { old with content := some ⟨data⟩, freshness := 0 }
  let s1 := setLinkBuffer i (.receive r) s
  match old.owner with
  | .gripIn => gripReceived old data s1
  | .host => hostReceived i r data s1
  | _ => s1

/-- An identifier passes the filter (R174). -/
def passesFilter (f : LinkFilter) (n : BitVec 4) : Bool :=
  f.acceptEnable && (n &&& f.acceptMask) == (f.acceptCode &&& f.acceptMask)
    && !(f.rejectEnable && (n &&& f.rejectMask) == (f.rejectCode &&& f.rejectMask))

/-- A message joins the receive queue, or is dropped where Q are present (R175). With a free place in the report ring it is
written at once (R193, R196). -/
def queueReceives (m : QueueMessage) (s : State) : State :=
  if s.acc.queue.length < s.acc.q then fillRing Config.reportRingCap (s.setAcc { s.acc with queue := s.acc.queue ++ [m] })
  else startCause .accQueueOverrun s

/-- A good message is routed (R167). -/
def routeMessage (n : BitVec 4) (data : List Byte) (s : State) : State :=
  match s.acc.bufferFor n with
  | some i =>
    match s.acc.buffer i with
    | .receive r => bufferReceives i r data s
    | _ => s
  | none => if 1 ≤ s.acc.q ∧ passesFilter s.acc.filter n then queueReceives ⟨n, data⟩ s else s

/-- The slot is listened in, and no message of it has been judged yet (R166). -/
def slotOpen (a : Acc) (n : BitVec 4) : Bool := a.link == .running && !ownsSlot a n && !a.heard.getLsbD n.toNat

/-- The one message of the slot has been judged. -/
def markHeard (n : BitVec 4) (s : State) : State := s.setAcc { s.acc with heard := s.acc.heard ||| (1 <<< n.toNat) }

/-- A message shows none of the faults of R166 that its bytes decide. -/
def messageGood (n : BitVec 4) (m : LinkMessage) : Bool :=
  m.length.toNat ≤ 12 && crc8 (m.identifier :: m.length :: m.data) == m.crc && m.identifier.toNat == n.toNat

/-- A message in slot `n` is judged (R166). -/
def messageReceive (n : BitVec 4) (m : LinkMessage) (s : State) : State :=
  if slotOpen s.acc n then
    let s1 := markHeard n s
    if messageGood n m then routeMessage n m.data s1 else linkError s1
  else s

/-- ACC_MESSAGE_RECEIVE (R166). -/
def execAccMessageReceive (slot : BitVec 4) (m : LinkMessage) (s : State) : Outcome :=
  if !m.wellFormed then .fault .malformedOperand else act (messageReceive slot m) s

/-- ACC_SLOT_END (R166): a message that has begun is truncated. -/
def execAccSlotEnd (slot : BitVec 4) (s : State) : Outcome :=
  act (fun s1 => if slotOpen s1.acc slot then linkError (markHeard slot s1) else s1) s

/-! ### Transmission (R182, R183) -/

/-- A slot starts: the FULL buffer that owns it gives its content to the transmitter, and a ONESHOT buffer becomes EMPTY (R182). -/
def slotStart (n : BitVec 4) (s : State) : State :=
  if s.acc.link = .running then
    let idle := s.setAcc { s.acc with line := .released }
    match s.acc.bufferFor n with
    | some i =>
      match s.acc.buffer i with
      | .transmit t =>
        match t.content with
        | some c =>
          let sent := setLinkBuffer i
            (.transmit (if t.oneshot then { t with content := none, waitingSend := none } else t)) s
          sent.setAcc { sent.acc with line := .message n (messageBytes n c.data) (if t.oneshot then t.waitingSend else none) }
        | none => idle
      | _ => idle
    | none => idle
  else s

/-- ACC_SLOT_START (R182). -/
def execAccSlotStart (slot : BitVec 4) (s : State) : Outcome := act (slotStart slot) s

/-- The CRC byte has been sent: the line is released, and a ONESHOT send gets its CMD_DONE (R165, R182). -/
def transmitDone (s : State) : State :=
  match s.acc.line with
  | .message _ _ send => reports (commandEnds send .ok) (s.setAcc { s.acc with line := .released })
  | _ => s

/-- ACC_TRANSMIT_DONE (R182). -/
def execAccTransmitDone (s : State) : Outcome := act transmitDone s

/-! ### Commands -/

/-- ACC_CONFIG_BEGIN (R169). -/
def configBeginBody (k : Kept) (s : State) : State × Result :=
  match s.acc.link with
  | .off => (enterConfig s, .ok)
  | .config =>
    (reports (commandEnds s.acc.startWait .aborted) (s.setAcc { s.acc with startWait := none }), .ok)
  | .running =>
    if s.acc.stopWait.isSome then (s, .busy) else (s.setAcc { s.acc with stopWait := some k }, .accepted)

def execAccConfigBegin (h : EntryHead) (s : State) : Outcome :=
  .next (runCommand s (configBeginBody ⟨0x38, h.tag, h.notify⟩))

/-- ACC_CONFIG_END (R171). -/
def configEndBody (k : Kept) (s : State) : State × Result :=
  if s.acc.link = .config then
    if s.acc.startWait.isSome then (s, .busy) else (s.setAcc { s.acc with startWait := some k }, .accepted)
  else (s, .badState)

def execAccConfigEnd (h : EntryHead) (s : State) : Outcome :=
  .next (runCommand s (configEndBody ⟨0x3C, h.tag, h.notify⟩))

/-- A configuration command is taken: CONFIG with no start waiting (9.2). -/
def configurable (a : Acc) : Bool := a.link == .config && a.startWait.isNone

/-- Q as its field gives it (R172). -/
def queueLengthOf (q : Byte) : Nat := orDefault q 0

/-- A buffer below Q is dedicated (R172). -/
def dedicatedBelow (a : Acc) (q : Nat) : Bool := bufferIndices.any fun i => i.val < q && a.buffer i != .unconfigured

/-- ACC_LINK_SET (R172). -/
def linkSetBody (period q : Byte) (s : State) : State × Result :=
  if configurable s.acc then
    match periodOf period with
    | some p =>
      if 8 < queueLengthOf q ∨ dedicatedBelow s.acc (queueLengthOf q) then (s, .badArg)
      else (s.setAcc { s.acc with periodMs := p, q := queueLengthOf q }, .ok)
    | none => (s, .badArg)
  else (s, .badState)

def execAccLinkSet (_h : EntryHead) (period q : Byte) (s : State) : Outcome := .next (runCommand s (linkSetBody period q))

/-- Four bits, where a byte is at most 15 (R174). -/
def nibbleOf (b : Byte) : Option (BitVec 4) := if b.toNat ≤ 15 then some (BitVec.ofNat 4 b.toNat) else none

/-- ACC_FILTER_SET (R174). -/
def filterSetBody (acceptEnable acceptCode acceptMask rejectEnable rejectCode rejectMask : Byte) (s : State) : State × Result :=
  if configurable s.acc then
    match nibbleOf acceptCode, nibbleOf acceptMask, nibbleOf rejectCode, nibbleOf rejectMask with
    | some ac, some am, some rc, some rm =>
      (s.setAcc { s.acc with filter := ⟨flagSet acceptEnable, ac, am, flagSet rejectEnable, rc, rm⟩ }, .ok)
    | _, _, _, _ => (s, .badArg)
  else (s, .badState)

def execAccFilterSet (_h : EntryHead) (acceptEnable acceptCode acceptMask rejectEnable rejectCode rejectMask : Byte) (s : State) :
    Outcome :=
  .next (runCommand s (filterSetBody acceptEnable acceptCode acceptMask rejectEnable rejectCode rejectMask))

/-- stale_cycles as its field gives it: 1 to 254, or the default 25 (R173). -/
def staleCyclesOf (b : Byte) : Option Nat := if b = 0xFF then some 25 else if b = 0 then none else some b.toNat

/-- The owner goes with the direction RECEIVE, or with TRANSMIT (R173). -/
def receiveOwner : BufferOwner → Bool
  | .host => true | .gripIn => true | _ => false

def transmitOwner : BufferOwner → Bool
  | .gripIn => false | _ => true

/-- The mode of a TRANSMIT buffer: ONESHOT or not; a bound one is CYCLIC (R173). -/
def oneshotOf (owner : BufferOwner) (mode : Byte) : Option Bool :=
  match owner with
  | .host => match mode.toNat with
    | 0 => some false
    | 1 => some true
    | _ => none
  | _ => some false

/-- The buffer that the fields of ACC_BUFFER_SET describe, where they are in range (R173). DEDUCED (log 28): a direction code that is
none of the three gives none, and so BAD_ARG; with direction NONE the identifier, the owner and the mode are not looked at. -/
def bufferOf (direction identifier owner mode staleCycles : Byte) : Option LinkBuffer :=
  match direction.toNat, staleCyclesOf staleCycles with
  | 0, some _ => some .unconfigured
  | 1, some n =>
    match nibbleOf identifier, ownerOf owner with
    | some i, some o => if receiveOwner o then some (.receive ⟨i, o, n, none, Config.staleCount, none⟩) else none
    | _, _ => none
  | 2, some _ =>
    match nibbleOf identifier, ownerOf owner with
    | some i, some o =>
      if transmitOwner o then (oneshotOf o mode).map fun one => .transmit ⟨i, o, one, none, none⟩ else none
    | _, _ => none
  | _, _ => none

/-- Another buffer holds the identifier, or the bound owner (R173). -/
def bufferConflict (a : Acc) (i : Fin 16) (b : LinkBuffer) : Bool :=
  bufferIndices.any fun j => j != i && (a.buffer j != .unconfigured)
    && ((a.buffer j).identifier == b.identifier || (b.owner != some .host && (a.buffer j).owner == b.owner))

/-- The buffer is GRIP_IN. -/
def isGripIn (b : LinkBuffer) : Bool := b.owner == some .gripIn

/-- ACC_BUFFER_SET (R173); GRIP_STALE's cause ends when the grip's buffer is set anew (R179). -/
def bufferSetBody (index direction identifier owner mode staleCycles : Byte) (s : State) : State × Result :=
  if configurable s.acc then
    if h : index.toNat < 16 then
      let i : Fin 16 := ⟨index.toNat, h⟩
      match bufferOf direction identifier owner mode staleCycles with
      | some b =>
        if s.acc.q ≤ index.toNat ∧ bufferConflict s.acc i b = false then
          let s1 := if isGripIn (s.acc.buffer i) then endCause .gripStale s else s
          (setLinkBuffer i b s1, .ok)
        else (s, .badArg)
      | none => (s, .badArg)
    else (s, .badArg)
  else (s, .badState)

def execAccBufferSet (_h : EntryHead) (index direction identifier owner mode staleCycles : Byte) (s : State) : Outcome :=
  .next (runCommand s (bufferSetBody index direction identifier owner mode staleCycles))

/-- A HOST TRANSMIT buffer takes a content (R181, R182). -/
def sendContent (k : Kept) (i : Fin 16) (t : TransmitBuffer) (data : List Byte) (s : State) : State × Result :=
  if t.oneshot then
    let earlier := if t.content.isSome then commandEnds t.waitingSend .aborted else []
    (reports earlier (setLinkBuffer i (.transmit { t with content := some ⟨data⟩, waitingSend := some k }) s), .accepted)
  else (setLinkBuffer i (.transmit { t with content := some ⟨data⟩ }) s, .ok)

/-- ACC_SEND (R181). -/
def accSendBody (k : Kept) (index length : Byte) (data : List Byte) (s : State) : State × Result :=
  if h : index.toNat < 16 ∧ length.toNat ≤ 12 then
    let i : Fin 16 := ⟨index.toNat, h.1⟩
    match s.acc.buffer i with
    | .transmit t => if t.owner = .host then sendContent k i t (data.take length.toNat) s else (s, .badArg)
    | _ => (s, .badArg)
  else (s, .badArg)

def execAccSend (h : EntryHead) (index length : Byte) (data : List Byte) (s : State) : Outcome :=
  if data.length ≠ 12 then .fault .malformedOperand
  else .next (runCommand s (accSendBody ⟨0x3D, h.tag, h.notify⟩ index length data))

/-! ### Reset (R187) -/

/-- A SOFT_RESET leaves the controller as a hard reset does (R186, R187). -/
def softResetAcc (s : State) : State :=
  reports [.stop .accLinkError, .stop .accQueueOverrun, .stop .gripStale] (s.setAcc Acc.reset)

end Sys2Proof.Machine
end

