-- ==== Sys2Proof/Machine/Clip.lean ====
section
/-! DEFINITION. The rows of the Clip Assembler (chapter 2). -/

namespace Sys2Proof.Machine

/-! ### Commands -/

/-- The chunk limits of REC_CONFIG, where they are in range (R22). -/
def chunkLimits (maxField minField : Word32) : Option (Nat × Nat) :=
  let mx := orDefault maxField 262144
  let mn := orDefault minField 65536
  if 65536 ≤ mx ∧ mx ≤ 1048576 ∧ mx % 4096 = 0 ∧ 16384 ≤ mn ∧ mn ≤ mx then some (mx, mn) else none

/-- REC_CONFIG (R22). GRIP_REC 0 and the default 0xFF are disabled (R206). -/
def recConfigBody (mode gripRec : Byte) (chunkMax chunkMin : Word32) (s : State) : State × Result :=
  if s.clip.state ≠ .idle then (s, .badState)
  else
    match modeOf mode, chunkLimits chunkMax chunkMin with
    | some m, some (mx, mn) =>
      (s.setClip { s.clip with mode := m, chunkMax := mx, chunkMin := mn, gripRec := flagSet gripRec && gripRec != 0xFF }, .ok)
    | _, _ => (s, .badArg)

def execRecConfig (_h : EntryHead) (mode gripRec : Byte) (chunkMax chunkMin : Word32) (s : State) : Outcome :=
  .next (runCommand s (recConfigBody mode gripRec chunkMax chunkMin))

/-- REC_START (R23). -/
def execRecStart (_h : EntryHead) (clip : Word16) (s : State) : Outcome := .next (runCommand s (recStart clip))

/-- REC_STOP (R26, R27). -/
def execRecStop (h : EntryHead) (s : State) : Outcome := .next (runCommand s (recStop (some ⟨0x12, h.tag, h.notify⟩)))

/-! ### Chunk choice (R32, R33, R34, R38) -/

/-- Every payload read has returned and been laid, and the clip still has chunks (R32). -/
def atBoundary (c : Clip) : Bool :=
  (c.state == .recording || c.state == .stopping) && !c.closed && c.run == .none && c.lay.isEmpty && !c.relayHead
    && !assemblerStalled c

/-- The backlog (R32). -/
def backlog (s : State) : Nat :=
  match s.clip.state with
  | .stopping => s.clip.stopPos - s.tap.ship
  | _ => s.tap.cursor - s.tap.ship

/-- The block lies within the limit of the audio stop block (R32). -/
def withinAudioStop (s : State) (n : Word32) : Bool :=
  match s.clip.state, s.clip.audioStop with
  | .stopping, .upTo b => blockOrder s.audio n ≤ blockOrder s.audio b
  | .stopping, .nothing => false
  | _, _ => true

/-- The block that an AUDIO chunk would take (R32). -/
def audioDue (s : State) : Option BlockInfo :=
  match s.clip.audioPart, s.clip.shipPtr with
  | true, some p => if withinAudioStop s p then doneBlock s.audio p else none
  | _, _ => none

/-- Distance from ship to the (k + 1)-th entry at or above ship, k the free places of the Clip Index (R33). -/
def entryLimit (s : State) : Option Nat :=
  ((s.tap.entries.filter fun e => s.tap.ship ≤ e.pos)[Config.clipIndexCap - s.clip.index.length]?).map fun e => e.pos - s.tap.ship

/-- The length of a VIDEO chunk before the fit check (R33). -/
def videoLength (s : State) : Nat :=
  let l := min (backlog s) s.clip.chunkMax
  match entryLimit s with
  | some d => min l d
  | none => l

/-- A VIDEO chunk is due (R32). -/
def videoDue (s : State) : Bool :=
  s.clip.chunkMin ≤ backlog s && 0 < backlog s || (s.clip.state == .stopping && 0 < backlog s)

/-- The chunk that a boundary chooses (R32). -/
def chooseChunk (s : State) : Option ChunkPick :=
  if Config.clipIndexCap ≤ s.clip.index.length then some .index
  else
    match audioDue s with
    | some i => some (.audio i)
    | none => if videoDue s then some (.video (videoLength s)) else none

/-- Header and payload of a chunk together (R38). -/
def chunkSize (s : State) : ChunkPick → Nat
  | .index => 32 + 16 * s.clip.index.length
  | .audio _ => 32 + Config.blockBytes
  | .video l => 32 + l

/-- A VIDEO chunk of `l` bytes is begun at ship (R33). -/
def beginVideo (l : Nat) (s : State) : State :=
  let c := addChunk kindVideo (chunkFlags s.tap.discontinuity false false false) l s.tap.ship s.clip.videoStamp [] s.clip
  (s.setTap { s.tap with discontinuity := false }).setClip { c with run := .video s.tap.ship s.tap.ship (s.tap.ship + l) }

/-- The slot of a block: its number modulo the slots of the region (R153, R154). -/
def blockSlot (a : Audio) (n : Word32) : Nat := n.toNat % a.blocks.length

/-- AUDIO_OVERRUN's cause ends once twice the distance from the pointer to the current block is below the slots (R156). -/
def audioOverrunEndTest (s : State) : State :=
  match s.clip.shipPtr, s.audio.current with
  | some p, some c => if 2 * (c.number - p).toInt < s.audio.blocks.length then endCause .audioOverrun s else s
  | _, _ => s

/-- An AUDIO chunk takes its block; the pointer advances (R34). -/
def beginAudio (i : BlockInfo) (s : State) : State :=
  let flags := chunkFlags s.clip.audioDiscontinuity i.flags.degradesChunk false false
  let c := addChunk kindAudio flags Config.blockBytes i.number.toNat i.stamp [] s.clip
  let slot := blockSlot s.audio i.number
  let base := ((audioRegion s).map Prod.fst).getD 0 + Config.blockBytes * slot
  audioOverrunEndTest
    (s.setClip { c with run := .audio slot base 0 0, shipPtr := some (i.number + 1), audioDiscontinuity := false })

/-- The header of the chosen chunk is built and what can be laid is laid; the first payload read is presented (R30, R32). -/
def layChunk (p : ChunkPick) (s : State) : State :=
  let s1 := match p with
    | .index => s.setClip (layIndex s.clip)
    | .audio i => beginAudio i s
    | .video l => beginVideo l s
  presentClipRead (s1.setClip (lay s1.clip))

/-- The fit check (R38): the chunk is laid, cut, or gives way to a fill of the room; against an UNRESOLVED lookahead it waits. -/
def fitChunk (p : ChunkPick) (s : State) : State :=
  let room := clipRoom s
  if fits room (chunkSize s p) then layChunk p s
  else if room.unresolved then s
  else
    match p, room.bytes with
    | .video _, some m => if 32 < m then layChunk (.video (m - 32)) s else fillRoom m s
    | _, some m => fillRoom m s
    | _, none => s

/-- CHUNK_CHOICE (R32). -/
def chunkChoice (s : State) : State :=
  if !atBoundary s.clip then s
  else if atEnd (clipRoom s) then clipCardEnd s
  else
    match chooseChunk s with
    | some p => fitChunk p s
    | none => s

def execChunkChoice (s : State) : Outcome := act chunkChoice s

/-! ### Payload reads (R5, R33, R34) -/

/-- Payload bytes are laid. -/
def layPayload (bytes : List Byte) (c : Clip) : Clip := lay { c with lay := c.lay ++ [⟨false, bytes⟩] }

/-- A VIDEO payload read returns: its bytes are laid and its range is reported to the Stream Tap (R5, R33). -/
def videoReturn (data : List Byte) (start stop skip : Nat) (s : State) : State :=
  let run := match s.clip.run with
    | .video next _ last => if stop < last then .video next stop last else .none
    | r => r
  let c := layPayload ((data.drop skip).take (stop - start)) { s.clip with run := run }
  reportShipped stop (s.setClip c)

/-- VIDEO_PAYLOAD_READ_RETURN (R5). The row takes place when a VIDEO payload read is the next completion of the port and the data
are as long as it asked. -/
def videoPayloadReadReturn (data : List Byte) (s : State) : State :=
  match nextCompletion s with
  | some (⟨t, .video start stop skip⟩, s1) => if data.length = t.len then videoReturn data start stop skip s1 else s
  | _ => s

def execVideoPayloadReadReturn (data : List Byte) (s : State) : Outcome := act (videoPayloadReadReturn data) s

/-- AUDIO_PAYLOAD_READ_RETURN (R34). -/
def audioPayloadReadReturn (data : List Byte) (s : State) : State :=
  match nextCompletion s with
  | some (⟨t, .audioPayload⟩, s1) =>
    if data.length = t.len then
      let run := match s1.clip.run with
        | .audio slot base next returned =>
          if returned + 1 < Config.blockLines then .audio slot base next (returned + 1) else .none
        | r => r
      s1.setClip (layPayload data { s1.clip with run := run })
    else s
  | _ => s

def execAudioPayloadReadReturn (data : List Byte) (s : State) : Outcome := act (audioPayloadReadReturn data) s

/-! ### Pages (R36, R37, R39) -/

/-- The clip has bytes for a new page, or room for a chunk on the card it is on. -/
def pageWanted (s : State) : Bool :=
  !s.clip.lay.isEmpty || s.clip.relayHead || s.clip.run != .none || (!s.clip.closed && (clipRoom s).bytes != some 0)

/-- PAGE_OPEN (R36, R37): a new record takes what waits to be laid; after a relay it begins with a CLIP_HEAD (R39). -/
def pageOpen (s : State) : State :=
  if (s.clip.state = .recording ∨ s.clip.state = .stopping) ∧ openPage s.clip = none
      ∧ s.clip.pages.length < Config.pageQueueCap ∧ pageWanted s then
    let c := { s.clip with pages := s.clip.pages ++ [newPage s.clip], relayHead := false }
    presentClipRead (s.setClip (lay (if s.clip.relayHead then addClipHead true c else c)))
  else s

def execPageOpen (s : State) : Outcome := act pageOpen s

/-! ### The end of a clip (R28) -/

/-- No audio block up to the stop block remains to be shipped (R28): the block that the pointer names lies beyond the stop block, or the
table no longer holds it (DEDUCED, log 12). -/
def audioShipped (s : State) : Bool :=
  match s.clip.audioPart, s.clip.audioStop, s.clip.shipPtr with
  | true, .upTo b, some p =>
    blockOrder s.audio b < blockOrder s.audio p || (s.audio.blocks.filterMap fun r => (doneOf r).or (fillingOf r)).all fun i => i.number != p
  | _, _, _ => true

/-- The closing condition (R28). DEDUCED (log 32): it asks nothing of the Clip Index, so that CLIP_CLOSE lays 255 entries too as the
closing INDEX chunk; a CHUNK_CHOICE given at such a boundary lays them as the INDEX chunk of R32. -/
def closingDue (s : State) : Bool :=
  s.clip.state == .stopping && atBoundary s.clip && s.clip.stopPos ≤ s.tap.ship && audioShipped s

/-- The closing INDEX chunk and the fill to the end of its page (R28, R36). -/
def layClosing (s : State) : State :=
  let c := layIndex s.clip
  let used := (openUsed c + layBytes c.lay) % Config.pageBytes
  s.setClip { lay (fill ((Config.pageBytes - used) % Config.pageBytes) c) with closed := true }

/-- CLIP_CLOSE (R28), with the fit check of the closing INDEX chunk (R38). -/
def clipClose (s : State) : State :=
  if !closingDue s then s
  else
    let room := clipRoom s
    if atEnd room then clipCardEnd s
    else if fits room (chunkSize s .index) then layClosing s
    else if room.unresolved then s
    else fillRoom (room.bytes.getD 0) s

def execClipClose (s : State) : Outcome := act clipClose s

/-- RECORDING_STOPPED (R28): the state becomes IDLE, the ACTIVE cards return to READY, and STOPPED and CMD_DONE follow. DESIGN CHOICE
(log 32): the audio ship pointer then names no block and the audio discontinuity mark is clear, of which R28 says nothing. -/
def recordingStopped (s : State) : State :=
  if s.clip.state = .stopping ∧ s.clip.closed ∧ s.clip.lay.isEmpty ∧ s.clip.pages.isEmpty then
    let cmd := s.clip.stopCmd
    let s1 := s.setClip { s.clip with state := .idle, stopCmd := none, closed := false, shipPtr := none, audioDiscontinuity := false }
    let s2 := releaseCard .b (releaseCard .a s1)
    reports
      ([.stop .audioOverrun, .post (.recState .stopped .idle none s2.clip.mode s2.clip.clipNumber s2.clip.chunkSeq)]
        ++ commandEnds cmd .ok) s2
  else s

def execRecordingStopped (s : State) : Outcome := act recordingStopped s

end Sys2Proof.Machine
end

