-- ==== Sys2Proof/Machine/AudioUnit.lean ====
section
/-! DEFINITION. The rows of the Audio Unit (chapter 8): sample periods, the follower's lock, the elastic store, blocks, meters and
its commands. -/

namespace Sys2Proof.Machine

/-! ### Blocks (R152, R154, R155, R156) -/

/-- The block is to be shipped: a clip is assembled with audio taking part, and the block lies from the audio ship pointer up to, in
STOPPING, the audio stop block (R156; log 12). -/
def toBeShipped (s : State) (n : Word32) : Bool :=
  s.clip.audioPart && assembled s
    && (match s.clip.shipPtr with | some p => blockOrder s.audio p ≤ blockOrder s.audio n | none => false) && withinAudioStop s n

/-- A chunk still reads the slot in which a block starts: the next AUDIO chunk carries DISCONTINUITY (R34). -/
def markSlotStart (slot : Nat) (s : State) : State :=
  match s.clip.run with
  | .audio k _ _ _ => if k = slot then s.setClip { s.clip with audioDiscontinuity := true } else s
  | _ => s

/-- A DONE block still to be shipped has been overwritten by block `b` (R156). -/
def audioOverrun (b : Word32) (s : State) : State :=
  let pointer := ((oldestBlock s.audio (doneBlocks s.audio)).map BlockInfo.number).getD b
  startCause .audioOverrun (s.setClip { s.clip with shipPtr := some pointer, audioDiscontinuity := true })

/-- The record that a block start replaced decides the further effect (R155). -/
def overwriteEffect (b : Word32) (old : BlockRecord) (s : State) : State :=
  match old with
  | .done i => if toBeShipped s i.number then audioOverrun b s else s
  | _ => s

/-- A block starts (R155). -/
def startBlock (s : State) : State :=
  let a := s.audio
  let b := a.nextBlock
  let slot := blockSlot a b
  let old := (a.blocks[slot]?).getD .free
  let s1 := s.setAudio { a with
    nextBlock := b + 1
    current := some ⟨b, s.view.frameCount, 0, []⟩
    blocks := a.blocks.set slot (.filling ⟨b, s.view.frameCount, BlockFlags.clear⟩) }
  audioOverrunEndTest (overwriteEffect b old (markSlotStart slot s1))

/-- The sample period finds no current block, or comes after its last index (R155). -/
def blockDue (a : Audio) : Bool :=
  !a.blocks.isEmpty && (match a.current with | some c => Config.blockPeriods ≤ c.index | none => true)

/-- The flags of the block taking samples are changed (R152). -/
def flagBlock (n : Word32) (f : BlockFlags → BlockFlags) : BlockRecord → BlockRecord
  | .filling i => if i.number = n then .filling { i with flags := f i.flags } else .filling i
  | r => r

def flagCurrent (f : BlockFlags → BlockFlags) (a : Audio) : Audio :=
  match a.current with
  | some c => { a with blocks := a.blocks.map (flagBlock c.number f) }
  | none => a

def degrade (b : BlockFlags) : BlockFlags := { b with degraded := true }

/-- A period frame is laid into the current block; a line that it completes waits for its grant (R152, R154). -/
def takeFrame (base : Nat) (frame : AudioFrame) (a : Audio) : Audio :=
  match a.current with
  | none => a
  | some c =>
    let bytes := c.partialLine ++ frameBytes frame
    let line := (12 * (c.index + 1)) / Config.lineBytes - 1
    let addr := base + Config.blockBytes * blockSlot a c.number + Config.lineBytes * line
    if bytes.length < Config.lineBytes then
      { a with current := some { c with index := c.index + 1, partialLine := bytes } }
    else
      { a with
        current := some { c with index := c.index + 1, partialLine := bytes.drop Config.lineBytes }
        lines := a.lines ++ [⟨c.number, line, addr, bytes.take Config.lineBytes⟩] }

/-! ### The elastic store (R150, R151) -/

/-- A slip: the current block gains DEGRADED, AUDIO_SLIP's cause starts and its timer starts afresh (R151). -/
def audioSlip (s : State) : State :=
  startCause .audioSlip (s.setAudio { flagCurrent degrade s.audio with slipTimer := true })

/-- Priming ends when the store first holds 4 frames; AUDIO_UNLOCKED's cause ends with it (R149, R150). -/
def primingTest (s : State) : State :=
  if s.audio.priming ∧ Config.primingLevel ≤ s.audio.store.length then
    endCause .audioUnlocked (s.setAudio { s.audio with priming := false })
  else s

/-- A frame arrives in the elastic store (R150); with 8 frames present the head is dropped, which is a slip (R151). -/
def arrival (frame : AudioFrame) (repeated : Bool) (s : State) : State :=
  let joined (store : List StoredFrame) (t : State) : State :=
    t.setAudio { t.audio with store := store ++ [⟨frame, repeated⟩], lastArrived := frame }
  primingTest
    (if s.audio.store.length < Config.elasticCap then joined s.audio.store s
    else joined (s.audio.store.drop 1) (audioSlip s))

/-! ### Sample periods (R145, R150, R152) -/

/-- A period frame with its marks (R145). -/
structure PeriodFrame where
  frame : AudioFrame
  repeated : Bool
  zeros : Bool
  deriving DecidableEq, Repr

/-- The period frame of a draining store: its head, or on an underflow the last drained frame again (R150, R151). -/
def drain (s : State) : PeriodFrame × State :=
  match s.audio.store with
  | f :: rest => (⟨f.frame, f.repeated, false⟩, s.setAudio { s.audio with store := rest, lastDrained := f.frame })
  | [] => (⟨s.audio.lastDrained, true, false⟩, audioSlip s)

/-- The period frame of a sample period, by state and role (R145); `received` holds the SDIN bits that a MASTER received (R144). -/
def periodFrame (received : BitVec 128) (s : State) : PeriodFrame × State :=
  match s.audio.role, s.audio.state with
  | .master, .locked => (⟨frameOf received, false, false⟩, s)
  | .follower, .locked => if s.audio.priming then (⟨silentFrame, false, true⟩, s) else drain s
  | .follower, .holdover => if s.audio.priming then (⟨silentFrame, false, true⟩, s) else drain s
  | _, _ => (⟨silentFrame, false, true⟩, s)

/-- Flags that a period frame sets: MUTED of the enabled channels for ZERO, DEGRADED for REPEAT (R152). -/
def frameFlags (enables : BitVec 4) (p : PeriodFrame) (b : BlockFlags) : BlockFlags :=
  ⟨if p.zeros then b.muted ||| enables else b.muted, b.degraded || p.repeated⟩

/-- |x|, with −8,388,608 taken as 8,388,607 (R157). -/
def magnitude (x : Sample) : Nat := min 8388607 x.toInt.natAbs

/-- Each channel's peak takes the frame's sample (R157). -/
def meterFrame (f : AudioFrame) (meters : Vector Meter 4) : Vector Meter 4 :=
  Vector.ofFn fun i : Fin 4 => let m := meters[i]; { m with peak := max m.peak (magnitude (sampleOf f i)) }

/-- The segment of a peak: thresholds not greater than it (R157). -/
def segmentOf (peak : Nat) : Nat := (Config.meterThresholds.filter (· ≤ peak)).length

/-- A channel's meter at a window end (R157, R158). -/
def meterEnd (m : Meter) : Meter :=
  let seg := segmentOf m.peak
  if m.held ≤ seg then ⟨0, seg, seg, 0⟩
  else if m.holdCount < Config.meterHold then ⟨0, seg, m.held, m.holdCount + 1⟩
  else if m.held - 1 ≤ seg then ⟨0, seg, seg, 0⟩
  else ⟨0, seg, m.held - 1, m.holdCount⟩

/-- A window ends (R157). -/
def windowEnd (a : Audio) : Audio := { a with meters := a.meters.map meterEnd, windowCount := 0 }

/-- The window has its 960 sample periods. -/
def windowFull (a : Audio) : Bool := Config.meterWindow ≤ a.windowCount

/-- A period frame goes to block assembly and to the meters (R145); from this period on a MASTER drives the link (R144, R159). -/
def usePeriodFrame (base : Nat) (p : PeriodFrame) (a : Audio) : Audio :=
  let frame := enabledFrame a.enables p.frame
  let a1 := takeFrame base frame (flagCurrent (frameFlags a.enables p) a)
  { a1 with meters := meterFrame frame a1.meters, windowCount := a1.windowCount + 1, driving := a1.role == .master }

/-- A sample period while the audio state is not OFF (R145). A full window that has not ended yet ends first. -/
def samplePeriod (received : BitVec 128) (s : State) : State :=
  if s.audio.state = .off then s
  else
    let s1 := if windowFull s.audio then s.setAudio (windowEnd s.audio) else s
    let s2 := if blockDue s1.audio then startBlock s1 else s1
    let r := periodFrame received s2
    r.2.setAudio (usePeriodFrame (((audioRegion s2).map Prod.fst).getD 0) r.1 r.2.audio)

/-- SAMPLE_PERIOD (R145): `received` holds the 128 bits received on SDIN during the previous sample period, the first received as its
most significant bit; they are used in MASTER (R144). -/
def execSamplePeriod (received : BitVec 128) (s : State) : Outcome := act (samplePeriod received) s

/-- What the part drives on the audio link in a sample period, as the pair of BCLK and FS: both lines from the clock in MASTER once a
sample period has come, neither in FOLLOWER and OFF; SDIN is an input at all times (R144, R159, R160). -/
def audioLinkDriven (s : State) : Bool × Bool := (s.audio.driving, s.audio.driving)

/-- METER_WINDOW_END (R157, R158). -/
def execMeterWindowEnd (s : State) : Outcome :=
  act (fun s1 => if s1.audio.state ≠ .off ∧ windowFull s1.audio then s1.setAudio (windowEnd s1.audio) else s1) s

/-! ### The follower's lock (R146, R147, R148, R149) -/

/-- Entry to SEEK with a sync run; the loss of a lock starts AUDIO_UNLOCKED's cause (R146, R149). The bit count and the miss count are the
caller's. -/
def enterSeek (run : Nat) (s : State) : State :=
  let a := s.audio
  let s1 := s.setAudio { a with
    state := .seek, syncRun := run, seekFresh := true, store := [], lastArrived := silentFrame, lastDrained := silentFrame
    priming := false }
  if a.everLocked ∧ (a.state = .locked ∨ a.state = .holdover) then startCause .audioUnlocked s1 else s1

/-- A frame sync event in SEEK (R146): the first one after the entry to SEEK sets the run to 1, whatever run the entry left. -/
def seekSync (bits : Nat) (s : State) : State :=
  let run := if bits = Config.frameBits ∧ s.audio.seekFresh = false then s.audio.syncRun + 1 else 1
  if run = Config.lockRun then
    s.setAudio { s.audio with state := .locked, syncRun := run, bitCount := 0, store := [], priming := true, missCount := 0,
                              everLocked := true }
  else s.setAudio { s.audio with syncRun := run, seekFresh := false, bitCount := 0 }

/-- A frame sync event in LOCKED or HOLDOVER (R147, R148); the bit count restarts at the event. DEDUCED (log 37): one that enters SEEK leaves
the miss count as it stands, since R147 and R148 name no change of it there. -/
def lockedSync (bits : Nat) (sdin : BitVec 128) (s : State) : State :=
  if bits = Config.frameBits then
    arrival (frameOf sdin) false (s.setAudio { s.audio with state := .locked, missCount := 0, bitCount := 0 })
  else enterSeek 1 (s.setAudio { s.audio with bitCount := 0 })

/-- FRAME_SYNC: `edges` are the BCLK rising edges since the bit count was last set, and `sdin` the 128 bits before the event. -/
def frameSync (edges : Nat) (sdin : BitVec 128) (s : State) : State :=
  match s.audio.role, s.audio.state with
  | .follower, .seek => seekSync (s.audio.bitCount + edges) s
  | .follower, .locked => lockedSync (s.audio.bitCount + edges) sdin s
  | .follower, .holdover => lockedSync (s.audio.bitCount + edges) sdin s
  | _, _ => s

def execFrameSync (edges : Nat) (sdin : BitVec 128) (s : State) : Outcome := act (frameSync edges sdin) s

/-- MISSING_FRAME (R147, R148): the miss count adds 1, the bit count goes on from 2, and the last arrived frame enters again; at the third
miss no frame enters and the lock drops. -/
def missingFrame (s : State) : State :=
  let a := s.audio
  match a.role, a.state with
  | .follower, .locked =>
    arrival a.lastArrived true (s.setAudio { a with state := .holdover, missCount := 1, bitCount := Config.countAfterMiss })
  | .follower, .holdover =>
    let s1 := s.setAudio { a with missCount := a.missCount + 1, bitCount := Config.countAfterMiss }
    if a.missCount + 1 = Config.missCap then enterSeek 0 s1 else arrival a.lastArrived true s1
  | _, _ => s

def execMissingFrame (s : State) : Outcome := act missingFrame s

/-- AUDIO_SLIP_TIMER_EXPIRY (R151). -/
def execAudioSlipTimerExpiry (s : State) : Outcome :=
  act (fun s1 => if s1.audio.slipTimer then endCause .audioSlip (s1.setAudio { s1.audio with slipTimer := false }) else s1) s

/-! ### Commands (R159, R160) -/

/-- A role code: FOLLOWER 0, MASTER 1 (R205). -/
def roleOf (b : Byte) : Option AudioRole :=
  match b.toNat with
  | 0 => some .follower
  | 1 => some .master
  | _ => none

/-- A clip keeps AUDIO_CONFIG from being taken (R159). -/
def clipHoldsAudio (s : State) : Bool := s.clip.audioPart && (assembled s || s.clip.state == .armed)

/-- The unit after AUDIO_CONFIG (R159); the miss count and the bit count, and with MASTER the sync run, which it
does not name, stay as they are (DEDUCED, log 37). A MASTER drives BCLK and FS from the next sample period, and one that drove them goes on. -/
def configureAudio (role : AudioRole) (enables : BitVec 4) (a : Audio) : Audio :=
  { a with
    role := role, enables := enables, store := [], lastArrived := silentFrame, lastDrained := silentFrame
    everLocked := false, priming := false, slipTimer := false, seekFresh := role == .follower
    syncRun := match role with | .master => a.syncRun | .follower => 0
    state := match role with | .master => .locked | .follower => .seek
    driving := a.driving && role == .master
    meters := if a.state = .off then Vector.replicate 4 ⟨0, 0, 0, 0⟩ else a.meters
    windowCount := if a.state = .off then 0 else a.windowCount }

/-- AUDIO_CONFIG (R159). DEDUCED (log 14): a role code that is neither comes before the clip that would refuse it. -/
def audioConfigBody (role enables : Byte) (s : State) : State × Result :=
  match roleOf role with
  | none => (s, .badArg)
  | some r =>
    if clipHoldsAudio s then (s, .badState)
    else
      (reports [.stop .audioUnlocked, .stop .audioSlip] (s.setAudio (configureAudio r (enables.extractLsb' 0 4) s.audio)), .ok)

def execAudioConfig (_h : EntryHead) (role enables : Byte) (s : State) : Outcome :=
  .next (runCommand s (audioConfigBody role enables))

/-- The record of an abandoned block: FILLING becomes FREE, and DONE stays DONE (R160). DEDUCED (log 34): so does the record of the
current block where the grant of its 96th line has made it DONE before the next sample period, so that the block stays readable. -/
def freeFilling : BlockRecord → BlockRecord
  | .filling _ => .free
  | r => r

/-- A record that is FILLING with the block. -/
def fillsBlock (n : Word32) : BlockRecord → Bool
  | .filling i => i.number == n
  | _ => false

/-- The block is one that AUDIO_OFF abandons: the current one, or one that waits for its last grant (R160). -/
def abandoned (a : Audio) (n : Word32) : Bool := (a.current.map CurrentBlock.number) == some n || a.blocks.any (fillsBlock n)

/-- The current block, and one that waits for its last grant, are abandoned (R160): their records become FREE and their lines are
withdrawn. The lines of a block whose record the next block has replaced stay, and are written in order (R155). -/
def abandonBlocks (a : Audio) : Audio :=
  { a with blocks := a.blocks.map freeFilling, current := none, lines := a.lines.filter fun l => !abandoned a l.number }

/-- A meter at AUDIO_OFF (R160). -/
def meterOff (m : Meter) : Meter := { m with segment := 0, held := 0, holdCount := 0 }

/-- AUDIO_OFF (R160). -/
def audioOffBody (s : State) : State × Result :=
  if s.audio.state = .off then (s, .ok)
  else
    let a := abandonBlocks s.audio
    let s1 := s.setAudio { a with state := .off, store := [], slipTimer := false, driving := false, meters := a.meters.map meterOff }
    let s2 := if s1.clip.state = .idle then s1 else s1.setClip { s1.clip with audioPart := false }
    (reports [.stop .audioUnlocked, .stop .audioSlip, .stop .audioOverrun] s2, .ok)

def execAudioOff (_h : EntryHead) (s : State) : Outcome := .next (runCommand s audioOffBody)

/-! ### Reset (R163) -/

/-- A SOFT_RESET: the state after a hard reset, but for the region's table, whose records are FREE, the role and the enables
(R163). DEDUCED (log 34): every line that waits is withdrawn, since none waits after a hard reset. -/
def softResetAudio (s : State) : State :=
  reports [.stop .audioUnlocked, .stop .audioSlip, .stop .audioOverrun]
    (s.setAudio { Audio.reset with
      role := s.audio.role, enables := s.audio.enables, blocks := s.audio.blocks.map fun _ => .free })

end Sys2Proof.Machine
end

