-- ==== Sys2Proof/Machine/CardControl.lean ====
section
/-! DEFINITION. What the rows of the Card Controllers share: issuing operations, failure, the chain walk, rollover, the end of an
erase, sleep and the drain after a SOFT_RESET (R45 to R69). -/

namespace Sys2Proof.Machine

/-! ### Issuing operations (R45, R212) -/

/-- Operations are put on the link of a slot; the last of them is STATUS exactly when a STATUS response is awaited. -/
def issue (ops : List CardOp) (c : Card) : Card := { c with issuedOps := ops, statusOut := ops.getLast? == some .status }

/-- The first IDENT of a probe (R46, R47). -/
def startIdent (c : Card) : Card := { issue [.ident] c with phase := .ident }

/-- The slot's PROTECT input as the row reads it. -/
def withProtect (slot : CardSlot) (v : Bool) (s : State) : State := updateCard slot (fun c => { c with protectInput := v }) s

/-- A descriptor fetch of the slot, presented or in flight, is abandoned (R49, R50, R52). -/
def dropFetch (slot : CardSlot) (s : State) : State :=
  updateCard slot (fun c => { c with fetchReq := none, walk := .none }) (abandonReads s (· == .card slot))

/-- The chain is dropped: its erase, if one is outstanding, stays on the card (R50, R57, R67). The AU register and the lookahead keep
their values (DESIGN CHOICE, log 33). -/
def dropChain (slot : CardSlot) (s : State) : State :=
  let s1 := dropFetch slot s
  let c := s1.card slot
  reports (commandEnds c.chainCmd .aborted)
    (s1.setCard slot (orphanErase { c with chain := .none, chainCmd := none, rolloverWait := false }))

/-! ### Failure (R50, R63) -/

/-- The card becomes FAILED (R50): the outstanding operation is abandoned, the chain dropped, an ACTIVE card's failure reported,
the FAULT cause started, the change reported; an erase outstanding on the card goes on (R57). DESIGN CHOICE (log 33): a card that is
FAILED already, whose erase of an earlier chain times out while a new CARD_CHAIN is LOADING, loses the new chain as well, CARD_CHAIN
ending with ABORTED, and no STATE notice is posted. -/
def failCard (slot : CardSlot) (s : State) : State :=
  let old := s.card slot
  let s1 := dropChain slot
    (s.setCard slot { old with state := .failed, phase := .idle, statusOut := false, settling := false })
  let s2 := if old.state = .active then cardLost slot s1 else s1
  let s3 := startCause (slotFault slot) s2
  let s4 := if old.state = .failed then s3
    else postNotice (.cardState slot .failed old.state old.au old.pageIndex
      (if old.state = .probing then some (old.auCount, old.serial) else none)) s3
  continueErase slot s4

/-- The STATUS after UNLOCK does not show UNLOCKED: the card becomes PROTECTED or FAILED (R63). -/
def unlockRefused (slot : CardSlot) (s : State) : State :=
  let c := s.card slot
  if c.protectInput then
    let s1 := setCardState slot .writeProtected (s.setCard slot { c with phase := .idle })
    continueErase slot (if c.state = .active then cardLost slot s1 else s1)
  else failCard slot s

/-! ### The chain walk (R52, R53, R54, R55) -/

/-- A group of four descriptors is asked for, as one 32-byte read (R53). -/
def fetchGroup (slot : CardSlot) (addr : Nat) (s : State) : State :=
  updateCard slot (fun c => { c with
    fetchReq := some (presentRead s addr 32), groupAddr := addr, nextGroup := addr + 32, group := [], groupIndex := 0 }) s

/-- The erase state that a descriptor's ERASED flag gives (R52, R210). -/
def eraseOfFlags (flags : Byte) : EraseState := if flags.getLsbD 0 then .erased else .needed

/-- The chain is empty: the CMD_DONE carries BAD_ARG (R52). DESIGN CHOICE (log 33): the lookahead is END from then. -/
def chainEmpty (slot : CardSlot) (s : State) : State :=
  let c := s.card slot
  let s1 := s.setCard slot { c with chain := .none, chainCmd := none, walk := .none, lookahead := .theEnd }
  let s2 := if c.state = .ready then setCardState slot .full s1 else s1
  reports (commandEnds c.chainCmd .badArg) s2

/-- The state of a card whose new chain is resolved (R52). -/
def chainedState (c : Card) : CardState :=
  match c.state with
  | .full => .ready
  | .failed => .ready
  | .writeProtected => if c.protectInput || c.cardProtect then .writeProtected else .ready
  | st => st

/-- The lookahead is resolved; a chain that was LOADING is SET (R52, R55). DESIGN CHOICE (log 33): a CARD_SLEEP taken while the chain is
LOADING does not stop the load; its fetch returns to the ASLEEP card, which stays ASLEEP with the chain SET and wakes to the state it
had. The lookahead of a chain that is SET is resolved on an ASLEEP card as well. -/
def lookaheadResolved (slot : CardSlot) (l : Lookahead) (s : State) : State :=
  let c := s.card slot
  let s1 := s.setCard slot { c with lookahead := l, walk := .none }
  if c.chain = .loading then
    let s2 := s1.setCard slot { s1.card slot with chain := .set, chainCmd := none }
    setCardState slot (chainedState c) (reports (commandEnds c.chainCmd .ok) s2)
  else s1

/-- What the walk finds at its place: an AU, the end, a further group to fetch, or a bad descriptor (R53, R54). -/
def walkFinds (c : Card) (d : Descriptor) : Option (Word16 × EraseState) × Option Nat × Bool :=
  match d.kind.toNat with
  | 1 => if d.value.toNat < c.auCount.toNat then (some (BitVec.ofNat 16 d.value.toNat, eraseOfFlags d.flags), none, false)
      else (none, none, true)
  | 2 => if c.linkRun + 1 = Config.linkRunCap then (none, none, true) else (none, some (d.value.toNat / 32 * 32), false)
  | 3 => (none, none, false)
  | _ => (none, none, true)

/-- The result END for the goal of the walk. -/
def walkEnds (slot : CardSlot) (s : State) : State :=
  if (s.card slot).walk = .first then chainEmpty slot s else lookaheadResolved slot .theEnd s

/-- The chain ends at a bad descriptor with a CHAIN_BAD notice (R54). -/
def chainBad (slot : CardSlot) (d : Descriptor) (s : State) : State :=
  let c := s.card slot
  let s1 := s.setCard slot { c with badEnd := true, linkRun := if d.kind = 2 then Config.linkRunCap else c.linkRun }
  walkEnds slot (postNotice (.chainBad slot (c.groupAddr + 8 * c.groupIndex)) s1)

/-- The walk goes on from its place until a group must be fetched or its goals are met. `fuel` 2 is enough: one step resolves the
first AU of a chain and the next its lookahead (R52, R53). -/
def walk (slot : CardSlot) : Nat → State → State
  | 0, s => s
  | fuel + 1, s =>
    let c := s.card slot
    if c.walk = .none then s
    else if c.badEnd then walkEnds slot s
    else
      match c.group[c.groupIndex]? with
      | none => fetchGroup slot c.nextGroup s
      | some d =>
        match walkFinds c d with
        | (some (n, e), _, _) =>
          let c1 := { c with groupIndex := c.groupIndex + 1, linkRun := 0 }
          if c.walk = .first then
            walk slot fuel (s.setCard slot { c1 with
              au := some n, pageIndex := 0, eraseState := e, walk := .lookahead, lookahead := .unresolved })
          else lookaheadResolved slot (.au n e) (s.setCard slot c1)
        | (none, some addr, _) => fetchGroup slot addr (s.setCard slot { c with linkRun := c.linkRun + 1 })
        | (none, none, true) => chainBad slot d s
        | (none, none, false) => walkEnds slot s

/-- A new lookahead is resolved (R55). -/
def resolveLookahead (slot : CardSlot) (s : State) : State :=
  walk slot 2 (updateCard slot (fun c => { c with lookahead := .unresolved, walk := .lookahead }) s)

/-! ### Rollover (R56, R59) -/

/-- The current AU is used up: the lookahead follows it, a held erase of that AU is continued, or the card is FULL, or the rollover
waits (R56, R61). The held erase may be one that an earlier chain left on the card (R57). DESIGN CHOICE (log 33): a FULL card's AU
register keeps the number of the last AU. DEDUCED (log 11): an ACTIVE card reports FULL to the Clip Assembler, and what that brings is
posted, before its CARD_STATE notice, as R56 names them. -/
def rollover (slot : CardSlot) (s : State) : State :=
  let c := s.card slot
  match c.lookahead with
  | .au n e =>
    let erase := c.erase.map fun r => if r.role = .lookahead then { r with role := .current } else r
    let s1 := s.setCard slot { c with au := some n, pageIndex := 0, eraseState := e, erase := erase, rolloverWait := false }
    let s2 := resolveLookahead slot s1
    if (erase.map EraseRecord.au) = some n then continueErase slot s2 else s2
  | .theEnd =>
    if c.state = .active then
      let s1 := continueErase slot (s.setCard slot { c with state := .full, rolloverWait := false })
      postNotice (.cardState slot .full .active c.au c.pageIndex none) (cardFull slot s1)
    else setCardState slot .full (s.setCard slot { c with rolloverWait := false })
  | .unresolved => s.setCard slot { c with rolloverWait := true }

/-! ### Sleep (R65, R67) -/

/-- SLEEP is sent and the card is ASLEEP; its origin is the state it had (R65). -/
def sendSleep (slot : CardSlot) (s : State) : State :=
  let c := s.card slot
  let origin : SleepOrigin := match c.state with | .ready => .ready | .full => .full | _ => .none
  setCardState slot .asleep (s.setCard slot { issue [.sleep] c with phase := .idle, sleepOrigin := origin, request := none })

/-- SLEEP is sent to an ejected card; its origin is NONE (R67). -/
def sendEject (slot : CardSlot) (s : State) : State :=
  let c := s.card slot
  setCardState slot .asleep (s.setCard slot { issue [.sleep] c with phase := .idle, sleepOrigin := .none, request := none })

/-- The request that waited for the erase is carried out (R65, R67). -/
def runRequest (slot : CardSlot) (s : State) : State :=
  match (s.card slot).request with
  | some (.sleep k) => reports (commandEnds (some k) .ok) (sendSleep slot s)
  | some (.eject k) => reports (commandEnds (some k) .ok) (sendEject slot s)
  | none => s

/-! ### The drain after a SOFT_RESET (R69) -/

/-- The next thing outstanding on a card in PROBING: a held erase is continued, a running one polled, and then IDENT issued. -/
def drainNext (slot : CardSlot) (s : State) : State :=
  let s1 := updateCard slot (fun c => { c with phase := .idle }) s
  if (s1.card slot).erase.isSome then continueErase slot s1 else updateCard slot startIdent s1

/-! ### The end of an erase (R59) -/

/-- What follows the end of an erase: the probe that waited, or the request that waited. -/
def afterErase (slot : CardSlot) (s : State) : State :=
  if (s.card slot).state = .probing then drainNext slot s else runRequest slot s

/-- A bad AU is counted and reported (R59). -/
def auBad (slot : CardSlot) (au : Word16) (s : State) : State :=
  postNotice (.auBad slot au) (updateCard slot (fun c => { c with badAus := saturatingSucc c.badAus }) s)

/-- An erase of the chain ends, good or with ERR (R59). -/
def eraseOutcome (slot : CardSlot) (e : EraseRecord) (err : Bool) (s : State) : State :=
  match e.role, err with
  | .orphan, _ => s
  | .current, false => updateCard slot (fun c => { c with eraseState := .erased }) s
  | .lookahead, false => updateCard slot (fun c => { c with lookahead := .au e.au .erased }) s
  | .lookahead, true => resolveLookahead slot (auBad slot e.au s)
  | .current, true => rollover slot (updateCard slot (fun c => { c with pageIndex := Config.auPages }) (auBad slot e.au s))

/-- An erase ends: the record empties and the outcome counts as its role says (R57, R59). -/
def eraseEnds (slot : CardSlot) (err : Bool) (s : State) : State :=
  let c := s.card slot
  match c.erase with
  | some e =>
    afterErase slot (eraseOutcome slot e err (s.setCard slot { c with erase := none, phase := .idle, holdRefused := false }))
  | none => s

/-! ### Holding an erase (R60) -/

/-- The erase record is RUNNING. -/
def eraseRunning (c : Card) : Bool :=
  match c.erase with
  | some e => !e.held
  | none => false

/-- The erase outstanding on the card is one of the current AU, whatever chain it was issued for (R57, R61). -/
def erasesCurrent (c : Card) : Bool :=
  match c.erase with
  | some e => some e.au == c.au
  | none => false

/-- ERASE_HOLD is due (R60). -/
def holdDue (slot : CardSlot) (s : State) : Bool :=
  let c := s.card slot
  c.state == .active && eraseRunning c && !erasesCurrent c
    && Config.holdBacklog ≤ pagesAwaiting s slot
    && (match c.lastContinue with | some t => t + Config.holdSpacing ≤ s.now | none => true)

/-- ERASE_HOLD is issued and STATUS read (R60). -/
def issueHold (c : Card) : Card := { issue [.eraseHold, .status] c with phase := .holdCheck, holdRefused := false }

/-! ### What is due for erase (R58) -/

/-- The AU that is due: the current one, or the lookahead once page 0 of the current one has been written (R58). -/
def eraseDue (c : Card) : Option (EraseRole × Word16) :=
  if c.chain = .set ∧ c.request = none ∧ (c.state = .ready ∨ c.state = .active) ∧ c.erase = none then
    match c.au, c.lookahead with
    | some n, l =>
      if c.eraseState = .needed ∧ c.pageIndex < Config.auPages then some (.current, n)
      else
        match l with
        | .au m .needed => if 0 < c.pageIndex then some (.lookahead, m) else none
        | _ => none
    | none, _ => none
  else none

/-- AU_ERASE is issued: the erase record is set and the AU is ERASING (R57). -/
def issueErase (role : EraseRole) (n : Word16) (c : Card) : Card :=
  let c1 := { issue [.auErase n] c with phase := .idle, erase := some ⟨n, role, false, 0⟩ }
  match role with
  | .lookahead => { c1 with lookahead := .au n .erasing }
  | _ => { c1 with eraseState := .erasing }

end Sys2Proof.Machine
end

