-- ==== Sys2Proof/Machine/Cards.lean ====
section
/-! DEFINITION. The rows of the Card Controllers (chapter 3). -/

namespace Sys2Proof.Machine

/-! ### Commands -/

/-- A command that names a slot: BAD_ARG where the code is neither A nor B (R52; log 13). -/
def onSlot (slot : Byte) (f : CardSlot → State → State × Result) (s : State) : State × Result :=
  match slotOf slot with
  | some x => f x s
  | none => (s, .badArg)

/-- CARD_CHAIN is taken in this card state (R52). -/
def chainTaken (c : Card) : Bool :=
  match c.state with
  | .ready => true | .full => true | .writeProtected => true
  | .failed => c.identified
  | _ => false

/-- An accepted CARD_CHAIN (R52). -/
def acceptChain (k : Kept) (x : CardSlot) (addr : Nat) (s : State) : State :=
  let s1 := dropChain x s
  let s2 := s1.setCard x { s1.card x with
    chain := .loading, chainCmd := some k, nextGroup := addr, group := [], groupIndex := 0, linkRun := 0, badEnd := false
    walk := .first, lookahead := .unresolved }
  continueErase x (walk x 2 s2)

def cardChainOn (h : EntryHead) (group : Word32) (x : CardSlot) (s : State) : State × Result :=
  let c := s.card x
  if c.request.isSome then (s, .busy)
  else if chainTaken c then (acceptChain ⟨0x18, h.tag, h.notify⟩ x group.toNat s, .accepted)
  else (s, .badState)

/-- CARD_CHAIN (R52). -/
def execCardChain (h : EntryHead) (slot : Byte) (group : Word32) (s : State) : Outcome :=
  .next (runCommand s (onSlot slot fun x s1 =>
    if group.toNat % 32 = 0 then cardChainOn h group x s1 else (s1, .badArg)))

def cardSleepOn (h : EntryHead) (x : CardSlot) (s : State) : State × Result :=
  let c := s.card x
  if c.request.isSome then (s, .busy)
  else if c.state = .ready ∨ c.state = .full then
    if c.erase.isNone then (sendSleep x s, .ok)
    else (continueErase x (s.setCard x { c with request := some (.sleep ⟨0x19, h.tag, h.notify⟩) }), .accepted)
  else (s, .badState)

/-- CARD_SLEEP (R65). -/
def execCardSleep (h : EntryHead) (slot : Byte) (s : State) : Outcome := .next (runCommand s (onSlot slot (cardSleepOn h)))

def cardWakeOn (h : EntryHead) (x : CardSlot) (s : State) : State × Result :=
  let c := s.card x
  if c.state = .asleep then
    if c.phase = .wake then (s, .busy)
    else (s.setCard x { issue [.wake] c with phase := .wake, wakeCmd := some ⟨0x1A, h.tag, h.notify⟩ }, .accepted)
  else (s, .badState)

/-- CARD_WAKE (R66). -/
def execCardWake (h : EntryHead) (slot : Byte) (s : State) : Outcome := .next (runCommand s (onSlot slot (cardWakeOn h)))

def cardEjectOn (h : EntryHead) (x : CardSlot) (s : State) : State × Result :=
  let c := s.card x
  if c.request.isSome then (s, .busy)
  else
    match c.state with
    | .absent => (s, .badState)
    | .probing => (s, .badState)
    | .active => (s, .busy)
    | .asleep =>
      if c.phase = .wake then (s, .busy)
      else (updateCard x (fun d => { d with sleepOrigin := .none }) (dropChain x s), .ok)
    | _ =>
      let s1 := dropChain x s
      if c.erase.isNone then (sendEject x s1, .ok)
      else (continueErase x (updateCard x (fun d => { d with request := some (.eject ⟨0x1B, h.tag, h.notify⟩) }) s1), .accepted)

/-- CARD_EJECT (R67). -/
def execCardEject (h : EntryHead) (slot : Byte) (s : State) : Outcome := .next (runCommand s (onSlot slot (cardEjectOn h)))

/-! ### Insertion, probe and removal (R46, R47, R49) -/

/-- CARD_DETECT_ACTIVE (R46): the settle timer of an ABSENT slot starts. While RESET_N is low only the input changes (R68). -/
def execCardDetectActive (slot : CardSlot) (s : State) : Outcome :=
  let c := s.card slot
  .next <| if c.detect then s
    else s.setCard slot { c with detect := true, settling := !s.path.resetLow && c.state == .absent }

/-- The identity is cleared (R46, R49, R69). -/
def clearIdentity (c : Card) : Card := { c with identified := false, auCount := 0, serial := 0, cardProtect := false }

/-- The settle timer expires with DETECT active (R46). -/
def settleExpiry (slot : CardSlot) (s : State) : State :=
  let c := s.card slot
  if c.settling ∧ c.detect then
    setCardState slot .probing
      (s.setCard slot (startIdent { clearIdentity c with settling := false, chain := .none }))
  else s

/-- CARD_SETTLE_EXPIRY (R46). -/
def execCardSettleExpiry (slot : CardSlot) (s : State) : Outcome := act (settleExpiry slot) s

/-- The commands that wait on a card end with ABORTED when it is removed (R49). -/
def abortedCommands (c : Card) : List Report :=
  commandEnds c.chainCmd .aborted
    ++ (match c.request with
      | some (.sleep k) => commandEnds (some k) .aborted
      | some (.eject k) => commandEnds (some k) .aborted
      | none => [])
    ++ commandEnds c.wakeCmd .aborted

/-- A card is removed (R49): an ACTIVE card becomes FAILED first. DESIGN CHOICE (log 33): the AU register and the lookahead, which R49
does not name, keep their values until a chain is loaded again, so that the READY notice of the next card and the status block show
them. -/
def removeCard (slot : CardSlot) (s : State) : State :=
  let s1 := if (s.card slot).state = .active then failCard slot s else s
  let c := s1.card slot
  let s2 := reports (abortedCommands c)
    (dropFetch slot (s1.setCard slot { clearIdentity c with
      phase := .idle, statusOut := false, chain := .none, chainCmd := none, erase := none, request := none, wakeCmd := none
      sleepOrigin := .none, rolloverWait := false, holdRefused := false }))
  setCardState slot .absent s2

/-- CARD_REMOVAL (R46, R49). On an ABSENT slot the settle timer stops. While RESET_N is low only the input changes. -/
def execCardRemoval (slot : CardSlot) (s : State) : Outcome :=
  let c := s.card slot
  .next <| if !c.detect then s
    else
      let s1 := s.setCard slot { c with detect := false, settling := false }
      if c.state = .absent then s1 else removeCard slot s1

/-- CARD_IDENT_RETRY (R47). -/
def execCardIdentRetry (slot : CardSlot) (s : State) : Outcome :=
  act (updateCard slot fun c => if c.phase = .ident then issue [.ident] c else c) s

/-- The identity of a response is recorded and the card takes the state it gives (R47). -/
def identified (slot : CardSlot) (i : CardIdentity) (s : State) : State :=
  let c := s.card slot
  let c1 := { c with identified := true, auCount := i.auCount, serial := i.serial, cardProtect := i.cardProtect, phase := .idle }
  let s1 := s.setCard slot c1
  if i.auCount.toNat < Config.minAuCount then failCard slot s1
  else if c.protectInput || i.cardProtect then setCardState slot .writeProtected s1
  else setCardState slot .ready s1

/-- CARD_IDENT_RESPONSE (R47). A transfer that draws no response leaves the probe going on. -/
def identResponse (slot : CardSlot) (response : List Byte) (protectInput : Bool) (s : State) : State :=
  if (s.card slot).phase = .ident then
    match identityOf response with
    | some i => identified slot i (withProtect slot protectInput s)
    | none => s
  else s

def execCardIdentResponse (slot : CardSlot) (response : List Byte) (protectInput : Bool) (s : State) : Outcome :=
  act (identResponse slot response protectInput) s

/-- CARD_IDENT_TIMEOUT (R47). -/
def execCardIdentTimeout (slot : CardSlot) (s : State) : Outcome :=
  act (fun s1 => if (s1.card slot).phase = .ident then failCard slot s1 else s1) s

/-! ### Polls and their responses (R45) -/

/-- An operation whose outcome is seen by polling is outstanding, and no STATUS waits for its response (R45). -/
def pollDue (c : Card) : Bool :=
  !c.statusOut && (match c.phase with
    | .pageWrite => true | .wake => true | .drainPage => true | .drainWake => true
    | .idle => eraseRunning c
    | _ => false)

/-- CARD_STATUS_POLL (R45, R60): STATUS is issued, or first ERASE_HOLD where it is due. `elapsed` µs have passed (log 10). -/
def statusPoll (slot : CardSlot) (elapsed : Nat) (s : State) : State :=
  if pollDue (s.card slot) then
    let s1 := advanceTime elapsed s
    if (s.card slot).phase = .idle ∧ holdDue slot s1 ∧ (s.card slot).holdRefused = false then updateCard slot issueHold s1
    else updateCard slot (fun c => { issue [.status] c with holdRefused := false }) s1
  else s

def execCardStatusPoll (slot : CardSlot) (elapsed : Nat) (s : State) : Outcome := act (statusPoll slot elapsed) s

/-- The STATUS after UNLOCK for a page write (R62, R63). -/
def unlockPageSeen (slot : CardSlot) (f : Byte) (s : State) : State :=
  let c := s.card slot
  if statusUnlocked f then
    match s.clip.pages.find? (awaits slot), c.au with
    | some p, some n => s.setCard slot { issue [.pageWrite n c.pageIndex p.content] c with phase := .pageWrite }
    | _, _ => s.setCard slot { c with phase := .idle }
  else unlockRefused slot s

/-- The STATUS after UNLOCK for an erase (R57, R63). -/
def unlockEraseSeen (slot : CardSlot) (f : Byte) (s : State) : State :=
  let c := s.card slot
  if statusUnlocked f then
    match eraseDue c with
    | some (role, n) => s.setCard slot (issueErase role n c)
    | none => s.setCard slot { c with phase := .idle }
  else unlockRefused slot s

/-- After a page is reported, a held erase whose backlog is small is continued (R61). -/
def afterPage (slot : CardSlot) (s : State) : State :=
  if pagesAwaiting s slot ≤ Config.continueBacklog ∧ (s.card slot).phase = .idle then continueErase slot s else s

/-- A page has been written: it is reported, the page index advances, and after page 1,023 the rollover follows (R62). A card whose
last page has left after an abort then leaves ACTIVE, for FULL where it is at its end (R41, R56). -/
def pageWritten (slot : CardSlot) (s : State) : State :=
  let c := s.card slot
  let s1 := afterPage slot (pageReport slot (markWritten slot)
    (s.setCard slot { c with phase := .idle, pageIndex := c.pageIndex + 1 }))
  releaseDrained (if c.pageIndex + 1 = Config.auPages then rollover slot s1 else s1)

/-- A page has failed: the card becomes FAILED, and with that the page, still in the queue, is failed on it (R40, R50, R62). -/
def pageFails (slot : CardSlot) (s : State) : State := failCard slot s

/-- The STATUS of a page write (R62). -/
def pageSeen (slot : CardSlot) (f : Byte) (s : State) : State :=
  if statusBusy f then s else if statusErr f then pageFails slot s else pageWritten slot s

/-- A hold is in force; where the erase may no longer be held, it is continued: the card has left ACTIVE, a request is pending, or a
rollover has made the erase's AU the current one meanwhile (R60, R61, R69). -/
def heldNow (slot : CardSlot) (s : State) : State :=
  let s1 := updateCard slot (fun c => { c with phase := .idle, erase := c.erase.map fun e => { e with held := true } }) s
  let c := s1.card slot
  if c.state = .active ∧ c.request = none ∧ erasesCurrent c = false then s1 else continueErase slot s1

/-- The STATUS of an erase that is polled (R59); one that still runs may be held now (R60). HELD can show here where the STATUS of
an ERASE_HOLD was abandoned by a failure or a SOFT_RESET (R50, R69): the hold is in force. -/
def eraseSeen (slot : CardSlot) (f : Byte) (s : State) : State :=
  if statusBusy f then
    if holdDue slot s then updateCard slot issueHold s else s
  else if statusHeld f then heldNow slot s
  else eraseEnds slot (statusErr f) s

/-- The STATUS after ERASE_HOLD (R60). -/
def holdSeen (slot : CardSlot) (f : Byte) (s : State) : State :=
  if statusHeld f then heldNow slot s
  else if statusBusy f then updateCard slot (fun c => { c with phase := .idle, holdRefused := true }) s
  else eraseEnds slot (statusErr f) s

/-- The STATUS after ERASE_CONTINUE (R59, R61). DESIGN CHOICE (log 23): a STATUS that still shows HELD, which a transfer without a lead
byte can leave (R212), makes the erase RUNNING as one that shows BUSY does, until a poll shows HELD again. -/
def continueSeen (slot : CardSlot) (f : Byte) (s : State) : State :=
  let s1 := updateCard slot (fun c => { c with phase := .idle, erase := c.erase.map fun e => { e with held := false } }) s
  if statusBusy f || statusHeld f then s1 else eraseEnds slot (statusErr f) s1

/-- The card leaves ASLEEP (R66). -/
def wakeDone (slot : CardSlot) (s : State) : State :=
  let c := s.card slot
  let c1 := { c with phase := .idle, wakeCmd := none }
  let s1 := match c.sleepOrigin with
    | .ready => setCardState slot .ready (s.setCard slot c1)
    | .full => setCardState slot .full (s.setCard slot c1)
    | .none => setCardState slot .probing (s.setCard slot (startIdent c1))
  reports (commandEnds c.wakeCmd .ok) s1

/-- What a STATUS response decides, by the operation it follows (R45). -/
def statusSeen (slot : CardSlot) (f : Byte) (s : State) : State :=
  match (s.card slot).phase with
  | .unlockPage => unlockPageSeen slot f s
  | .unlockErase _ => unlockEraseSeen slot f s
  | .pageWrite => pageSeen slot f s
  | .idle => if eraseRunning (s.card slot) then eraseSeen slot f s else s
  | .holdCheck => holdSeen slot f s
  | .continueCheck => continueSeen slot f s
  | .wake => if statusBusy f then s else wakeDone slot s
  | .drainPage => if statusBusy f then s else drainNext slot s
  | .drainWake => if statusBusy f then s else drainNext slot s
  | .ident => s

/-- CARD_STATUS_RESPONSE (R45): `elapsed` µs have passed since the newest card row that gave a time (log 10). -/
def statusResponse (slot : CardSlot) (response : List Byte) (protectInput : Bool) (elapsed : Nat) (s : State) : State :=
  if (s.card slot).statusOut then
    let s1 := withProtect slot protectInput (advanceTime elapsed s)
    statusSeen slot (statusFlags response) (updateCard slot (fun c => { c with statusOut := false, holdRefused := false }) s1)
  else s

def execCardStatusResponse (slot : CardSlot) (response : List Byte) (protectInput : Bool) (elapsed : Nat) (s : State) : Outcome :=
  act (statusResponse slot response protectInput elapsed) s

/-! ### Timeouts (R64) -/

/-- CARD_PAGE_WRITE_TIMEOUT (R64): the page is failed and the card FAILED; in the drain of a SOFT_RESET the outcome is discarded
(R69). -/
def pageWriteTimeout (slot : CardSlot) (s : State) : State :=
  match (s.card slot).phase with
  | .pageWrite => pageFails slot s
  | .drainPage => drainNext slot (updateCard slot (fun c => { c with statusOut := false }) s)
  | _ => s

def execCardPageWriteTimeout (slot : CardSlot) (s : State) : Outcome := act (pageWriteTimeout slot) s

/-- An erase's timer expires (R64, R65, R67, R69): no erase record stays. -/
def eraseTimeout (slot : CardSlot) (s : State) : State :=
  let c := s.card slot
  if eraseRunning c then
    let s1 := s.setCard slot { c with erase := none, phase := .idle, statusOut := false, holdRefused := false }
    if c.state = .probing then drainNext slot s1
    else
      match c.request with
      | some (.eject _) => runRequest slot s1
      | some (.sleep k) =>
        reports (commandEnds (some k) .aborted) (failCard slot (updateCard slot (fun d => { d with request := none }) s1))
      | none => failCard slot s1
  else s

/-- CARD_ERASE_TIMEOUT (R64). -/
def execCardEraseTimeout (slot : CardSlot) (s : State) : Outcome := act (eraseTimeout slot) s

/-- CARD_WAKE_TIMEOUT (R66, R69). -/
def wakeTimeout (slot : CardSlot) (s : State) : State :=
  let c := s.card slot
  match c.phase with
  | .wake => reports (commandEnds c.wakeCmd .aborted) (failCard slot (s.setCard slot { c with wakeCmd := none }))
  | .drainWake => drainNext slot (s.setCard slot { c with statusOut := false })
  | _ => s

def execCardWakeTimeout (slot : CardSlot) (s : State) : Outcome := act (wakeTimeout slot) s

/-! ### The chain and the starts of operations (R53, R56, R57, R62) -/

/-- CARD_DESCRIPTOR_FETCH_DONE (R53): the group returns as the port's next completion, and the walk goes on. DESIGN CHOICE (log 33): so it
does for a card that CARD_SLEEP has put to sleep meanwhile, of which neither R55 nor R65 speaks: a fetch for the lookahead of a chain
that is SET already resolves the lookahead of the ASLEEP card. -/
def descriptorFetchDone (slot : CardSlot) (data : List Byte) (protectInput : Bool) (s : State) : State :=
  match nextCompletion s with
  | some (⟨_, .card x⟩, s1) =>
    if x = slot ∧ data.length = 32 then
      walk slot 2 (updateCard slot (fun c => { c with group := descriptorsOf data, groupIndex := 0 }) (withProtect slot protectInput s1))
    else s
  | _ => s

def execCardDescriptorFetchDone (slot : CardSlot) (data : List Byte) (protectInput : Bool) (s : State) : Outcome :=
  act (descriptorFetchDone slot data protectInput) s

/-- A rollover that waited may take place: the lookahead is resolved, and the card is READY or ACTIVE (R56; an ASLEEP or PROTECTED
card keeps its AU register and lookahead, R63 and R65, log 18). -/
def rolloverDue (c : Card) : Bool := c.rolloverWait && c.lookahead != .unresolved && (c.state == .ready || c.state == .active)

/-- CARD_ROLLOVER (R56). -/
def execCardRollover (slot : CardSlot) (s : State) : Outcome :=
  act (fun s1 => if rolloverDue (s1.card slot) then rollover slot s1 else s1) s

/-- No operation but a held or running erase is outstanding on the link. -/
def linkFree (c : Card) : Bool := c.phase == .idle && !c.statusOut

/-- CARD_ERASE_START (R57, R58): UNLOCK is issued for the AU that is due, and STATUS read. -/
def eraseStart (slot : CardSlot) (s : State) : State :=
  let c := s.card slot
  match eraseDue c with
  | some (role, _) => if linkFree c then s.setCard slot { issue [.unlock, .status] c with phase := .unlockErase role } else s
  | none => s

def execCardEraseStart (slot : CardSlot) (s : State) : Outcome := act (eraseStart slot) s

/-- A page may be written now (R58, R62): an erase that is due goes first, and no page goes to the AU of a held erase (R57). -/
def pageWriteDue (slot : CardSlot) (s : State) : Bool :=
  let c := s.card slot
  c.state == .active && c.eraseState == .erased && !eraseRunning c && !erasesCurrent c && !c.rolloverWait && c.au.isSome
    && c.pageIndex < Config.auPages && (eraseDue c).isNone && linkFree c && 0 < pagesAwaiting s slot

/-- CARD_PAGE_WRITE_START (R62): UNLOCK is issued for the next awaiting page, and STATUS read. -/
def execCardPageWriteStart (slot : CardSlot) (s : State) : Outcome :=
  act (fun s1 => if pageWriteDue slot s1 then updateCard slot (fun c => { issue [.unlock, .status] c with phase := .unlockPage }) s1
    else s1) s

end Sys2Proof.Machine
end

