-- ==== Sys2Proof/Machine/View.lean ====
section
/-! DEFINITION. The View Translator: geometry, frame starts, the translation of alias reads, and the index records that ask it for
frame numbers (R16 to R19, R106 to R118). -/

namespace Sys2Proof.Machine

/-! ### Geometry (6.1) -/

def FrameRegion.slotSize (f : FrameRegion) : Nat := f.hIn * f.stride

def AliasGeometry.aliasSlotSize (g : AliasGeometry) : Nat := g.hOut * g.stride

/-- Bytes of the region that belong to alias slots (R107). -/
def AliasGeometry.span (g : AliasGeometry) : Nat := g.slotCount * g.aliasSlotSize

/-- A slot exists and is FILLING or READY: its frame record (R109). -/
def slotFrame (slots : List SlotRecord) (k : Nat) : Option FrameRecord :=
  match slots[k]? with
  | some (.filling r) => some r
  | some (.ready r) => some r
  | _ => none

/-- The frame number the View Translator answers for a slot; 0 where there is none (R112). -/
def frameNumberOf (slots : List SlotRecord) (k : Nat) : Word32 := ((slotFrame slots k).map FrameRecord.frame).getD 0

/-! ### Frame starts (R110, R111) -/

def finishFilling : SlotRecord → SlotRecord
  | .filling r => .ready r
  | r => r

def isFilling : Option SlotRecord → Bool
  | some (.filling _) => true
  | _ => false

/-- The record that a frame start makes: the new frame count, the latest shifts, the zoom position and the axis states (R111). -/
def startedRecord (s : State) : FrameRecord :=
  ⟨s.view.frameCount + 1, s.motion.x.shift, s.motion.y.shift, s.zoom.pos, s.motion.x.state, s.motion.y.state⟩

/-- A frame starts in slot `k` (R111). -/
def frameStart (k : Nat) (s : State) : State :=
  requestStatus (s.setView { s.view with
    slots := (s.view.slots.map finishFilling).set k (.filling (startedRecord s))
    frameCount := s.view.frameCount + 1 })

/-- A FRAME write is offered at take: in the first line of a slot that is not FILLING it starts a frame (R110). -/
def offerFrameWrite (f : FrameRegion) (addr : Nat) (s : State) : State :=
  let k := (addr - f.base) / f.slotSize
  let offset := (addr - f.base) % f.slotSize
  if offset < f.stride ∧ isFilling s.view.slots[k]? = false then frameStart k s else s

/-! ### Translation of alias reads (R113, R114, R115) -/

/-- A run of `n` bytes from column byte `t` of the frame line at `line`, cut into downstream reads (R115). -/
def runPieces (line stride t n : Nat) : List Piece :=
  if stride < t + n then [piece (line + t) (stride - t), piece line (t + n - stride)]
  else if t / 128 = (t + n - 1) / 128 then [piece (line + t) n]
  else [piece (line + t) (128 - t % 128), piece (line + (t / 128 + 1) * 128) (t + n - (t / 128 + 1) * 128)]

/-- The shifts of alias slot `k`: those of its record, or 0 for an EMPTY one (R113). -/
def slotShifts (slots : List SlotRecord) (k : Nat) : Int × Int :=
  ((slotFrame slots k).map fun r => (r.shiftX, r.shiftY)).getD (0, 0)

/-- The frame line and column byte that alias offset `o` is read from, as the address of the line and the column (R113, R114). -/
def translateOffset (g : AliasGeometry) (slots : List SlotRecord) (o : Nat) : Nat × Nat :=
  let k := o / g.aliasSlotSize
  let y := o % g.aliasSlotSize / g.stride
  let c := o % g.aliasSlotSize % g.stride
  let shifts := slotShifts slots k
  let y' := ((y : Int) + g.marginY + shifts.2).toNat
  let x := (((g.marginX : Int) + shifts.1) * g.bpp).toNat
  (g.frameBase + k * g.slotSize + y' * g.stride, (c + x) % g.stride)

/-- The downstream reads of a read of `n` bytes at alias offset `o` (R113 to R115). -/
def aliasPieces (g : AliasGeometry) (slots : List SlotRecord) (o n : Nat) : List Piece :=
  let p := translateOffset g slots o
  runPieces p.1 g.stride p.2 n

/-! ### Index records (R16, R17, R18, R19) -/

/-- An entry joins the tail of the Entry List; of 64 the oldest goes first (R19). -/
def appendEntry (e : Entry) (l : List Entry) : List Entry :=
  (if l.length < Config.entryListCap then l else l.drop 1) ++ [e]

/-- The position of a record whose stream address lies in the STREAM region (R17). -/
def recordPosition (r : StreamRegion) (t : Tap) (addr : Nat) : Int :=
  (t.cursor : Int) - ((t.cursor % r.size + r.size - (addr - r.base)) % r.size : Nat)

/-- The stream position that a record is accepted at; none where R17 rejects it. -/
def acceptedPosition (s : State) (addr : Nat) : Option Nat :=
  match streamRegion s with
  | none => none
  | some r =>
    let p := recordPosition r s.tap addr
    let above : Bool := match s.tap.entries.getLast? with | some e => decide ((e.pos : Int) < p) | none => true
    if r.base ≤ addr ∧ addr < r.base + r.size ∧ 0 ≤ p ∧ p < s.tap.cursor ∧ (s.tap.floor : Int) ≤ p ∧ above then some p.toNat
    else none

/-- A record is taken at ring offset `offset` of the INDEX region: it becomes an entry, or INDEX_STALE is reported (R17 to R19). -/
def takeRecord (offset : Nat) (e : EntryRecord) (s : State) : State :=
  match acceptedPosition s e.addr with
  | some p =>
    armedEntry (s.setTap { s.tap with
      entries := appendEntry ⟨e.kind, p, frameNumberOf s.view.slots e.slot, e.timecode⟩ s.tap.entries })
  | none => tapEvent .indexStale offset 0 s

/-- The bytes of the 32-byte place at `place`, when the write covers it whole with every byte enabled (R16). -/
def wholeRecord (addr : Nat) (lanes : List LaneByte) (place : Nat) : Option (List Byte) :=
  let part := (lanes.drop (place - addr)).take 32
  if addr ≤ place ∧ part.length = 32 ∧ part.all (·.2) then some (part.map (·.1)) else none

/-- One record place that an INDEX write touches (R16). -/
def takePlace (base addr : Nat) (lanes : List LaneByte) (s : State) (place : Nat) : State :=
  match wholeRecord addr lanes place with
  | some bytes => takeRecord (place - base) (entryRecordOf bytes) s
  | none => tapEvent .indexPartial (place - base) 0 s

/-- The 32-byte places that a write of `n` bytes touches, in address order (R16). -/
def recordPlaces (addr n : Nat) : List Nat := (List.range 5).map (fun i => addr / 32 * 32 + 32 * i) |>.filter (· < addr + n)

/-- An INDEX write is offered record by record (R16). -/
def offerIndexWrite (base addr : Nat) (lanes : List LaneByte) (s : State) : State :=
  (recordPlaces addr lanes.length).foldl (takePlace base addr lanes) s

end Sys2Proof.Machine
end

