-- ==== Sys2Proof/Machine/Path.lean ====
section
/-! DEFINITION. The rows of the Path Unit and of the control page's words: take, arbiter, completions, snooping (R70 to R87, R188,
R189, R196, R197). -/

namespace Sys2Proof.Machine

/-! ### Take (R70, R73, R77, R78) -/

/-- A transaction joins the tail of the in-order queue. -/
def enqueue (t : Transaction) (pieces : List Piece) (progress : Progress) (snooped : Bool) (s : State) : State :=
  s.setPath { s.path with
    queue := s.path.queue ++ [⟨s.path.nextSerial, t, pieces, 0, 0, progress, [], snooped⟩]
    nextSerial := s.path.nextSerial + 1 }

/-- Forwarded as it came. -/
def forward (t : Transaction) (s : State) : State := enqueue t [⟨t, 0, t.len⟩] .waiting false s

/-- Discarded: DONE from the moment it is taken (R71). -/
def discardWrite (t : Transaction) (s : State) : State := enqueue t [] .done false s

/-- The upstream port takes nothing while the queue is full or a write is held (R70, R79). -/
def canTake (s : State) : Bool :=
  s.path.queue.length < Config.upstreamQueueCap && s.path.queue.all fun e => e.progress != .held

/-- A read of the ALIAS region (R113, R118). -/
def takeAliasRead (base : Nat) (g : AliasGeometry) (addr n : Nat) (s : State) : State :=
  let o := addr - base
  if g.bound then
    if o < g.span then enqueue (.read addr n) (aliasPieces g s.view.slots o n) .waiting false s
    else forward (.read addr n) s
  else
    let s1 := forward (.read addr n) s
    if o < g.span then startCause .aliasFault s1 else s1

/-- The byte enables of the two part-owned words, page offsets 0xE04 to 0xE0B, are cleared; `offset` is the page offset of the
first lane (R78). -/
def clearOwnLanes : Nat → List LaneByte → List LaneByte
  | _, [] => []
  | offset, (b, en) :: rest => (b, en && !(0xE04 ≤ offset && offset < 0xE0C)) :: clearOwnLanes (offset + 1) rest

/-- A write into the line of the index words: forwarded with the enables that remain, or discarded when none does (R78). -/
def takeIndexLineWrite (addr offset : Nat) (lanes : List LaneByte) (s : State) : State :=
  let left := clearOwnLanes offset lanes
  if left.any (·.2) then enqueue (.write addr lanes) [⟨.write addr left, 0, left.length⟩] .waiting true s
  else discardWrite (.write addr lanes) s

/-- A write into the control page, by its offset in the page (R77, R78). -/
def takePageWrite (addr offset : Nat) (lanes : List LaneByte) (s : State) : State :=
  if 0x400 ≤ offset ∧ offset < 0xE00 then discardWrite (.write addr lanes) s
  else if 0xE00 ≤ offset ∧ offset < 0xE80 then takeIndexLineWrite addr offset lanes s
  else forward (.write addr lanes) s

/-- A write that lies in a region (R77). -/
def takeRegionWrite (r : Region) (addr : Nat) (lanes : List LaneByte) (s : State) : State :=
  let t := Transaction.write addr lanes
  match r.kind with
  | .stream p l h => offerStreamWrite ⟨r.base, r.size, p, l, h⟩ (addr - r.base) lanes.length (forward t s)
  | .index => offerIndexWrite r.base addr lanes (forward t s)
  | .frame n bpp w h st => offerFrameWrite ⟨0, r.base, n, bpp, w, h, st⟩ addr (forward t s)
  | .aliasView _ => tapEvent .aliasWrite (addr - r.base) 0 (discardWrite t s)
  | .audio => discardWrite t s

/-- The address lies in the control page (R78). -/
def inControlPage (s : State) (addr : Nat) : Bool := controlPage s ≤ addr && addr < s.path.memSize

/-- A transaction is taken with the treatment of the area of its first byte (R73, R77). -/
def treat (t : Transaction) (s : State) : State :=
  match t, regionAt s t.addr with
  | .read addr n, some r =>
    match r.kind with
    | .aliasView g => takeAliasRead r.base g addr n s
    | _ => forward t s
  | .read _ _, none => forward t s
  | .write addr lanes, some r => takeRegionWrite r addr lanes s
  | .write addr lanes, none =>
    if inControlPage s addr then takePageWrite addr (addr - controlPage s) lanes s else forward t s

/-- HOST_TRANSACTION_TAKE (R70): while RESET_N is low the path is a plain bypass (R85). -/
def execHostTransactionTake (t : Transaction) (s : State) : Outcome :=
  if !t.wellFormed then .fault .malformedOperand
  else if !canTake s then .next s
  else .next (if s.path.resetLow then forward t s else treat t s)

/-- HOLD_TIMER_EXPIRY (R13): the held write is forwarded as an overrun. DEDUCED (log 31): also where it fits already, in a hold that a
REC_STOP has prolonged (R15). -/
def holdTimerExpiry (s : State) : State :=
  match s.tap.held, streamRegion s with
  | some w, some r => overrun r w (forwardHeld (s.setTap { s.tap with held := none, stopHold := false }))
  | _, _ => s

def execHoldTimerExpiry (s : State) : Outcome := act holdTimerExpiry s

/-! ### The index words that the host owns (R78, R189, R196) -/

/-- The byte that a write puts at an address, when its lane is enabled. -/
def writtenByte (addr : Nat) (lanes : List LaneByte) (at_ : Nat) : Option Byte :=
  if addr ≤ at_ then
    match lanes[at_ - addr]? with
    | some (b, true) => some b
    | _ => none
  else none

/-- The enabled bytes of a 16-bit index at `word` replace those of the copy; none when neither is enabled (R78). -/
def newCopy (old : Word16) (addr : Nat) (lanes : List LaneByte) (word : Nat) : Option Word16 :=
  match writtenByte addr lanes word, writtenByte addr lanes (word + 1) with
  | none, none => none
  | some lo, none => some (old.extractLsb' 8 8 ++ lo)
  | none, some hi => some (hi ++ old.extractLsb' 0 8)
  | some lo, some hi => some (hi ++ lo)

/-- A value of the command producer word is judged against the consumer (R189). -/
def handOverProducer (p : Word16) (s : State) : State :=
  if (p - s.control.consumer).toNat ≤ Config.commandRingCap then
    presentEntryRead (endCause .cmdRingOverrun (s.setControl { s.control with effectiveProducer := p }))
  else
    presentEntryRead (startCause .cmdRingOverrun
      (s.setControl { s.control with effectiveProducer := s.control.consumer + 16 }))

/-- A value of the report consumer word becomes the consumer copy, and freed places are filled (R196). -/
def handOverConsumer (v : Word16) (s : State) : State :=
  let w := if Config.reportRingCap < (s.control.reportProducer - v).toNat then s.control.reportProducer else v
  fillRing Config.reportRingCap (s.setPath { s.path with consumerCopy := w })

/-- The producer word of a write that is issued: the producer copy and the hand-over (R78, R189). -/
def snoopProducer (addr : Nat) (lanes : List LaneByte) (s : State) : State :=
  match newCopy s.path.producerCopy addr lanes (controlPage s + 0xE00) with
  | some v => handOverProducer v (s.setPath { s.path with producerCopy := v })
  | none => s

/-- The consumer word of a write that is issued (R78, R196). -/
def snoopConsumer (addr : Nat) (lanes : List LaneByte) (s : State) : State :=
  match newCopy s.path.consumerCopy addr lanes (controlPage s + 0xE0C) with
  | some v => handOverConsumer v s
  | none => s

/-- A snooped write is issued (R78). -/
def snoop (t : Transaction) (s : State) : State :=
  match t with
  | .write addr lanes => snoopConsumer addr lanes (snoopProducer addr lanes s)
  | .read _ _ => s

/-! ### The arbiter (R81 to R84) -/

/-- The host request: the oldest WAITING entry and its next downstream transaction (R81). -/
def hostRequest (s : State) : Option (QueueEntry × Piece) :=
  match s.path.queue.find? fun e => e.progress == .waiting with
  | some e => (e.pieces[e.issued]?).map fun p => (e, p)
  | none => none

/-- A requester's read is presented and eligible (R84). -/
def readWaits (s : State) (r : Option ReadRequest) : Bool := (r.map (readEligible s)).getD false

/-- The highest-ranked eligible internal request (R81, R84). While the assembler is stalled its reads wait (R37). -/
def internalRequest (s : State) : Option Requester :=
  if !s.audio.lines.isEmpty then some .audioUnit
  else if readWaits s s.cardA.fetchReq then some (.card .a)
  else if readWaits s s.cardB.fetchReq then some (.card .b)
  else if readWaits s s.clip.readReq && !assemblerStalled s.clip then some .clipAssembler
  else if readWaits s s.control.readReq then some .commandReads
  else if !s.control.writes.isEmpty then some .reportWrites
  else none

/-- A transaction is issued downstream (R72). -/
def issueDown (t : Transaction) (d : Destination) (s : State) : State :=
  s.setPath { s.path with inFlight := s.path.inFlight ++ [⟨t, d⟩] }

/-- The entry after its next transaction has been issued (R70). -/
def issuedEntry (e : QueueEntry) : QueueEntry :=
  { e with issued := e.issued + 1, progress := if e.issued + 1 = e.pieces.length then .issued else .waiting }

def updateEntry (serial : Nat) (f : QueueEntry → QueueEntry) (s : State) : State :=
  s.setPath { s.path with queue := s.path.queue.map fun e => if e.serial = serial then f e else e }

/-- A host grant: one transaction of the oldest WAITING entry is issued, and a snooped write hands its words on (R78, R82). DEDUCED
(log 17): an index-word write that was taken before RESET_N fell keeps its treatment (R85); while RESET_N is low it is issued without
being snooped, and issued after the release it is snooped, its words found by the memory size sampled then. -/
def grantHost (e : QueueEntry) (p : Piece) (s : State) : State :=
  let s1 := updateEntry e.serial issuedEntry (issueDown p.txn (.host e.serial) s)
  if e.snooped && !s.path.resetLow then snoop p.txn s1 else s1

/-- The grant of a block's last line makes it DONE (R154). -/
def blockDone (number : Word32) : BlockRecord → BlockRecord
  | .filling i => if i.number = number then .done i else .filling i
  | r => r

/-- The Audio Unit's next line is issued (R154). -/
def grantAudio (s : State) : State :=
  match s.audio.lines with
  | [] => s
  | l :: rest =>
    let blocks := if l.line + 1 = Config.blockLines then s.audio.blocks.map (blockDone l.number) else s.audio.blocks
    issueDown (.write l.addr (allLanes l.bytes)) .ignored (s.setAudio { s.audio with lines := rest, blocks := blocks })

/-- A descriptor fetch is issued (R53). -/
def grantCard (slot : CardSlot) (s : State) : State :=
  let c := s.card slot
  match c.fetchReq with
  | some r => issueDown (.read r.addr r.len) (.card slot) (s.setCard slot { c with fetchReq := none })
  | none => s

/-- The payload run after its next read has been issued (R33, R34). -/
def advanceRun (d : Destination) : PayloadRun → PayloadRun
  | .video next returned stop =>
    match d with
    | .video _ e _ => .video e returned stop
    | _ => .video next returned stop
  | .audio slot base next returned => .audio slot base (next + 1) returned
  | .none => .none

/-- A payload read is issued, and the assembler presents its next (R33, R34). -/
def grantClip (s : State) : State :=
  match nextPayloadRead s with
  | some (t, d) =>
    presentClipRead (issueDown t d (s.setClip { s.clip with readReq := none, run := advanceRun d s.clip.run }))
  | none => s

/-- Where the completion of the unit's read goes (R102, R125, R190). -/
def readDestination : CommandPhase → Destination
  | .entry => .commandEntry
  | .focal _ => .focalTable
  | .zoom _ _ _ _ => .speedTable
  | .idle => .ignored

/-- The unit's read at rank 5 is issued (R190). -/
def grantCommand (s : State) : State :=
  match s.control.readReq with
  | some r =>
    issueDown (.read r.addr r.len) (readDestination s.control.phase) (s.setControl { s.control with readReq := none })
  | none => s

/-- What a rank 6 write waits for (R194). -/
def writeDestination : WriteTag → Destination
  | .producerWord v => .producerWord v
  | _ => .ignored

/-- When the last line of a snapshot has been presented, a set rewrite mark is cleared and a new snapshot taken (R201). -/
def rewriteStatus (s : State) : State :=
  if s.control.rewrite && !snapshotInProgress s then takeSnapshot (s.setControl { s.control with rewrite := false }) else s

/-- The oldest rank 6 write is issued (R81, R188). -/
def grantReport (s : State) : State :=
  match s.control.writes with
  | [] => s
  | w :: rest =>
    rewriteStatus (issueDown (.write w.addr w.lanes) (writeDestination w.tag) (s.setControl { s.control with writes := rest }))

/-- An internal grant. -/
def grantInternal (r : Requester) (s : State) : State :=
  match r with
  | .audioUnit => grantAudio s
  | .card slot => grantCard slot s
  | .clipAssembler => grantClip s
  | .commandReads => grantCommand s
  | .reportWrites => grantReport s

def setHostGrants (n : Nat) (s : State) : State := s.setPath { s.path with hostGrants := n }

/-- The next grant goes to the host: no internal request is eligible, or the fairness cap is not reached (R83). -/
def hostTurn (s : State) : Bool :=
  s.path.resetLow || (internalRequest s).isNone || s.path.hostGrants < Config.hostGrantCap

/-- A grant of the arbiter (R82, R83). While RESET_N is low no internal request is presented (R85). -/
def grant (s : State) : State :=
  match hostRequest s, internalRequest s with
  | some (e, p), i =>
    if s.path.resetLow then grantHost e p s
    else
      match i with
      | none => grantHost e p (setHostGrants 0 s)
      | some r =>
        if s.path.hostGrants < Config.hostGrantCap then grantHost e p (setHostGrants (s.path.hostGrants + 1) s)
        else grantInternal r (setHostGrants 0 s)
  | none, some r => if s.path.resetLow then s else grantInternal r (setHostGrants 0 s)
  | none, none => s

/-- DOWNSTREAM_GRANT (R82). -/
def execDownstreamGrant (s : State) : Outcome := .next (grant s)

/-- The next grant issues a host write that covers one of the lower two bytes of the word at page offset `word`. -/
def grantsWord (word : Nat) (s : State) : Bool :=
  !s.path.resetLow && hostTurn s
    && (match hostRequest s with
      | some (e, ⟨.write addr lanes, _, _⟩) => e.snooped && (newCopy 0 addr lanes (controlPage s + word)).isSome
      | _ => false)

/-- COMMAND_PRODUCER_WRITE (R78, R189): the grant that issues a host write of the command producer word (log 4). -/
def execCommandProducerWrite (s : State) : Outcome := .next (if grantsWord 0xE00 s then grant s else s)

/-- REPORT_CONSUMER_WRITE (R78, R196): the grant that issues a host write of the report consumer word (log 4). -/
def execReportConsumerWrite (s : State) : Outcome := .next (if grantsWord 0xE0C s then grant s else s)

/-! ### Completions (R71, R72, R80, R116, R197) -/

/-- A downstream completion of an entry: a read's data take their places, and with the last one the entry is DONE (R71, R80). -/
def completeEntry (data : List Byte) (e : QueueEntry) : QueueEntry :=
  let place := match e.pieces[e.returned]? with
    | some p => if isWrite p.txn then [] else (data.drop p.skip).take p.count
    | none => []
  { e with returned := e.returned + 1, data := e.data ++ place
           progress := if e.returned + 1 = e.pieces.length then .done else e.progress }

/-- The data have the length of a read, or are none for a write. -/
def dataFit (t : Transaction) (data : List Byte) : Bool :=
  match t with
  | .read _ n => data.length == n
  | .write _ _ => data.isEmpty

/-- HOST_DOWNSTREAM_COMPLETION (R71, R72): the next completion of the port belongs to a host entry. -/
def hostCompletion (data : List Byte) (s : State) : State :=
  match nextCompletion s with
  | some (⟨t, .host serial⟩, s1) => if dataFit t data then updateEntry serial (completeEntry data) s1 else s
  | _ => s

def execHostDownstreamCompletion (data : List Byte) (s : State) : Outcome := .next (hostCompletion data s)

/-- UPSTREAM_COMPLETION (R71): the oldest entry, once DONE, completes to the host. -/
def upstreamCompletion (s : State) : State :=
  match s.path.queue with
  | e :: rest =>
    if e.progress = .done then s.setPath { s.path with queue := rest, upstreamOut := some e.data } else s
  | [] => s

def execUpstreamCompletion (s : State) : Outcome := .next (upstreamCompletion s)

/-- REPORT_PRODUCER_ACK (R194, R197): the value of the acknowledged write becomes the published producer. -/
def reportProducerAck (s : State) : State :=
  match nextCompletion s with
  | some (⟨_, .producerWord v⟩, s1) => s1.setControl { s1.control with published := v }
  | _ => s

def execReportProducerAck (s : State) : Outcome := act reportProducerAck s

/-- NOTICE_N is asserted, low, while the published producer differs from the consumer copy; released while RESET_N is low
(R197). -/
def noticeAsserted (s : State) : Bool := !s.path.resetLow && s.control.published != s.path.consumerCopy

/-- STATUS_TIMER_EXPIRY (R202). -/
def execStatusTimerExpiry (s : State) : Outcome :=
  act (fun s1 => if s1.control.statusTimer then requestStatus s1 else s1) s

end Sys2Proof.Machine
end

