-- ==== Sys2Proof/Machine/RegionTable.lean ====
section
/-! DEFINITION. SET_REGION and CLEAR_REGION: the general checks, the checks and the initialisation of each kind's owner (R1, R2,
R74, R75, R106 to R108, R153). -/

namespace Sys2Proof.Machine

/-! ### Kind checks -/

/-- The parameters of a STREAM region, where they are in range (R1). -/
def streamKind (size : Nat) (prerecordBytes lateWindow : Word32) (holdLimit : Word16) : Option RegionKind :=
  let late := orDefault lateWindow 65536
  let hold := orDefault holdLimit 63
  if 1048576 ≤ size ∧ size ≤ 268435456 ∧ prerecordBytes.toNat ≤ size - 65536 ∧ late ≤ 1048576 ∧ hold ≤ 255 then
    some (.stream prerecordBytes.toNat late hold)
  else none

/-- The parameters of a FRAME region, where they are in range and the size is their product (R106). -/
def frameKind (size : Nat) (slotCount bpp : Byte) (wIn hIn : Word16) (stride : Word32) : Option RegionKind :=
  let n := slotCount.toNat
  let p := bpp.toNat
  let w := wIn.toNat
  let h := hIn.toNat
  let st := stride.toNat
  if 2 ≤ n ∧ n ≤ 4 ∧ (p = 1 ∨ p = 2 ∨ p = 4) ∧ 2 ≤ w ∧ w ≤ 16384 ∧ 2 ≤ h ∧ h ≤ 16384 ∧ 128 ≤ st ∧ st ≤ 65536
      ∧ st % 128 = 0 ∧ w * p ≤ st ∧ size = n * h * st then
    some (.frame n p w h st)
  else none

/-- The smallest multiple of 4,096 that is not less than a length (R107). -/
def roundPage (n : Nat) : Nat := (n + 4095) / 4096 * 4096

/-- The geometry of an ALIAS region bound to a FRAME region (R107). -/
def aliasGeometry (f : FrameRegion) (w h : Nat) : AliasGeometry :=
  ⟨f.record, w, h, f.slotCount, f.bpp, f.stride, f.hIn * f.stride, f.base, (f.wIn - w) / 2, (f.hIn - h) / 2, true⟩

/-- The parameters of an ALIAS region, where every check passes (R107). -/
def aliasKind (s : State) (size : Nat) (frameRecord : Byte) (wOut hOut : Word16) : Option RegionKind :=
  match frameRegion s with
  | none => none
  | some f =>
    let w := wOut.toNat
    let h := hOut.toNat
    let g := aliasGeometry f w h
    if f.record = frameRecord.toNat ∧ 1 ≤ w ∧ w ≤ f.wIn ∧ (f.wIn - w) % 2 = 0 ∧ g.marginX ≤ Config.maxMargin
        ∧ 1 ≤ h ∧ h ≤ f.hIn ∧ (f.hIn - h) % 2 = 0 ∧ g.marginY ≤ Config.maxMargin ∧ size = roundPage g.span then
      some (.aliasView g)
    else none

/-- The size of an AUDIO region gives 1 to 512 block slots (R153). -/
def audioKind (size : Nat) : Option RegionKind :=
  if size % Config.blockBytes = 0 ∧ 1 ≤ size / Config.blockBytes ∧ size / Config.blockBytes ≤ Config.maxBlockSlots then some .audio
  else none

/-- The kind and its parameters, where the kind's own checks pass (R74). -/
def kindOf (s : State) (size : Nat) : RegionSpec → Option RegionKind
  | .stream p l h => streamKind size p l h
  | .index => some .index
  | .frame n bpp w h st => frameKind size n bpp w h st
  | .aliasView r w h => aliasKind s size r w h
  | .audio => audioKind size
  | .unknown _ => none

/-! ### General checks (R74) -/

def kindNumber : RegionKind → Nat
  | .stream _ _ _ => 1 | .index => 2 | .frame _ _ _ _ _ => 3 | .aliasView _ => 4 | .audio => 5

/-- Base and size are whole pages below the control page, and overlap no occupied record (R74). -/
def rangeGood (s : State) (base size : Nat) : Bool :=
  base % 4096 == 0 && size % 4096 == 0 && 4096 ≤ size && base + size ≤ controlPage s
    && (regions s).all fun r => !rangesOverlap base size r.base r.size

/-- No record holds a region of the kind (R74). -/
def kindFree (s : State) (k : RegionKind) : Bool := (regions s).all fun r => kindNumber r.kind != kindNumber k

/-! ### What the owners do (R1, R106, R107, R153) -/

/-- Both latest shifts become 0 (R96). -/
def zeroShifts (s : State) : State :=
  s.setMotion { s.motion with x := { s.motion.x with shift := 0 }, y := { s.motion.y with shift := 0 } }

/-- The Slot Table is emptied (R107, R108, R109). -/
def emptySlots (s : State) : State := s.setView { s.view with slots := s.view.slots.map fun _ => .empty }

/-- The owner of a kind is told that its region exists (R1, R2, R106, R107, R153, R202). -/
def regionSet (size : Nat) (k : RegionKind) (s : State) : State :=
  match k with
  | .stream _ _ _ => s.setTap Tap.reset
  | .index => s
  | .frame n _ _ _ _ =>
    let s1 := zeroShifts (s.setView { s.view with slots := List.replicate n .empty })
    s1.setControl { s1.control with statusTimer := false }
  | .aliasView _ => zeroShifts (emptySlots s)
  | .audio => s.setAudio { s.audio with blocks := List.replicate (size / Config.blockBytes) .free }

def setRecord (i : Fin 8) (r : Option Region) (s : State) : State :=
  s.setPath { s.path with regions := s.path.regions.set i r }

/-- SET_REGION (R74). -/
def setRegionBody (record : Byte) (base size : Word32) (spec : RegionSpec) (s : State) : State × Result :=
  if h : record.toNat < 8 then
    match s.path.regions[record.toNat], kindOf s size.toNat spec with
    | none, some k =>
      if rangeGood s base.toNat size.toNat && kindFree s k then
        (regionSet size.toNat k (setRecord ⟨record.toNat, h⟩ (some ⟨base.toNat, size.toNat, k⟩) s), .ok)
      else (s, .badArg)
    | _, _ => (s, .badArg)
  else (s, .badArg)

def execSetRegion (_h : EntryHead) (record : Byte) (base size : Word32) (spec : RegionSpec) (s : State) : Outcome :=
  if !spec.wellFormed then .fault .malformedOperand else .next (runCommand s (setRegionBody record base size spec))

/-! ### CLEAR_REGION (R2, R75, R108, R153) -/

/-- The owner refuses the clearing outside recording IDLE (R2, R108, R153). -/
def needsIdle : RegionKind → Bool
  | .stream _ _ _ => true | .frame _ _ _ _ _ => true | .audio => true | _ => false

def unbind (r : Option Region) : Option Region :=
  match r with
  | some ⟨base, size, .aliasView g⟩ => some ⟨base, size, .aliasView { g with bound := false }⟩
  | _ => r

/-- The blocks in progress are abandoned as AUDIO_OFF abandons them, and the table ceases to exist (R153, R160). -/
def dropAudioTable (a : Audio) : Audio := { abandonBlocks a with blocks := [] }

/-- The owner of a kind is told that its region is gone (R2, R108, R153, R202). -/
def regionCleared (k : RegionKind) (s : State) : State :=
  match k with
  | .stream _ _ _ => s.setTap { s.tap with cursor := 0, floor := 0, ship := 0, entries := [] }
  | .index => s
  | .frame _ _ _ _ _ =>
    let s1 := zeroShifts (s.setView { s.view with slots := [] })
    let s2 := s1.setPath { s1.path with regions := s1.path.regions.map unbind }
    s2.setControl { s2.control with statusTimer := true }
  | .aliasView _ => endCause .aliasFault (zeroShifts (emptySlots s))
  | .audio => s.setAudio (dropAudioTable s.audio)

/-- CLEAR_REGION (R75). -/
def clearRegionBody (record : Byte) (s : State) : State × Result :=
  if h : record.toNat < 8 then
    match s.path.regions[record.toNat] with
    | none => (s, .badArg)
    | some r =>
      if needsIdle r.kind && s.clip.state != .idle then (s, .badState)
      else (regionCleared r.kind (setRecord ⟨record.toNat, h⟩ none s), .ok)
  else (s, .badArg)

def execClearRegion (_h : EntryHead) (record : Byte) (s : State) : Outcome := .next (runCommand s (clearRegionBody record))

end Sys2Proof.Machine
end

