-- ==== Sys2Proof/Machine/ControlUnit.lean ====
section
/-! DEFINITION. The commands of the Command and Notice Unit, SOFT_RESET, and the edges of RESET_N (R21, R43, R69, R85, R86, R190,
R199, R200, R203, R204). -/

namespace Sys2Proof.Machine

/-! ### Commands -/

/-- UNKNOWN_COMMAND (R190): a code that names no command. -/
def execUnknownCommand (_h : EntryHead) (code : Word16) (s : State) : Outcome :=
  if listedCodes.contains code then .fault .malformedOperand else .next (runCommand s fun s1 => (s1, .unknown))

/-- The named conditions take their ACK_CONDITIONS move, the others are unchanged (R199). -/
def acknowledge (set : Word16) (conditions : Vector CondState 14) : Vector CondState 14 :=
  Vector.ofFn fun i : Fin 14 => if set.getLsbD i.val then (conditions[i]).acked else conditions[i]

/-- ACK_CONDITIONS (R199). -/
def ackConditionsBody (set : Word16) (s : State) : State × Result :=
  if setBeyond set then (s, .badArg)
  else (s.setControl { s.control with conditions := acknowledge set s.control.conditions }, .ok)

def execAckConditions (_h : EntryHead) (set : Word16) (s : State) : Outcome := .next (runCommand s (ackConditionsBody set))

/-- SET_NOTICE_MASK (R200). -/
def setNoticeMaskBody (set : Word16) (s : State) : State × Result :=
  if setBeyond set then (s, .badArg) else (s.setControl { s.control with noticeMask := set }, .ok)

def execSetNoticeMask (_h : EntryHead) (set : Word16) (s : State) : Outcome := .next (runCommand s (setNoticeMaskBody set))

/-! ### SOFT_RESET (R203) -/

/-- The Stream Tap (R21): a held write is forwarded at once, then everything returns to the values after a hard reset. -/
def softResetTap (s : State) : State := (forwardHeld s).setTap Tap.reset

/-- The Clip Assembler (R43): the configuration, the last and the current clip number stay. -/
def softResetClip (s : State) : State :=
  (abandonReads s isPayload).setClip { Clip.reset with
    mode := s.clip.mode, chunkMax := s.clip.chunkMax, chunkMin := s.clip.chunkMin, gripRec := s.clip.gripRec
    clipNumber := s.clip.clipNumber, lastClip := s.clip.lastClip }

/-- What a SOFT_RESET returns to its value after a hard reset in every card state (R69); the erase outstanding on the card, if
any, has no AU of a chain any more. -/
def clearCard (c : Card) : Card :=
  orphanErase { clearIdentity c with
    chain := .none, chainCmd := none, nextGroup := 0, group := [], groupAddr := 0, groupIndex := 0, linkRun := 0, badEnd := false
    walk := .none, fetchReq := none, au := none, pageIndex := 0, eraseState := .needed, lookahead := .unresolved
    lastContinue := none, request := none, wakeCmd := none, sleepOrigin := .none, badAus := 0, holdRefused := false
    rolloverWait := false }

/-- A card that becomes PROBING completes what is outstanding on it before the first IDENT (R69). DEDUCED (log 26): a STATUS that is
awaited after an UNLOCK, of which R69 says nothing, is abandoned, since no page write or erase has begun. -/
def drainCard (slot : CardSlot) (phase : CardPhase) (s : State) : State :=
  match phase with
  | .pageWrite => updateCard slot (fun c => { c with phase := .drainPage }) s
  | .drainPage => s
  | .wake => updateCard slot (fun c => { c with phase := .drainWake }) s
  | .drainWake => s
  | .holdCheck => updateCard slot (fun c => { c with phase := .idle }) s
  | .continueCheck => s
  | .idle => if eraseRunning (s.card slot) then s else drainNext slot s
  | _ => drainNext slot (updateCard slot (fun c => { c with statusOut := false }) s)

/-- A Card Controller (R69). The FAULT condition is cleared with the Condition Set, and no notice is posted. -/
def softResetCard (slot : CardSlot) (s : State) : State :=
  let c := s.card slot
  let s1 := (abandonReads s (· == .card slot)).setCard slot (clearCard c)
  match c.state with
  | .absent => s1
  | .asleep =>
    if c.phase = .wake then drainCard slot c.phase (updateCard slot (fun d => { d with state := .probing }) s1) else s1
  | _ => drainCard slot c.phase (updateCard slot (fun d => { d with state := .probing }) s1)

/-- The View Translator (R121). -/
def softResetView (s : State) : State := s.setView { s.view with aliasWrites := 0 }

/-- The Command and Notice Unit: pending notices are discarded, and every condition is CLEAR (R203). -/
def softResetControl (s : State) : State :=
  s.setControl { s.control with pendingNotices := [], conditions := Vector.replicate 14 .clear }

/-- Every block takes its response (R203); the Path Unit stays as it stands (R87). -/
def softReset (s : State) : State :=
  softResetControl (softResetAcc (softResetAudio (softResetZoom (softResetView (softResetMotion
    (softResetCard .b (softResetCard .a (softResetClip (softResetTap s)))))))))

/-- SOFT_RESET (R203): at its result a status block write is requested (R202). -/
def execSoftReset (_h : EntryHead) (s : State) : Outcome :=
  .next <| match takeEntry s with
    | none => s
    | some s1 => requestStatus (finishCommand .ok (softReset s1))

/-! ### RESET_N (R85, R86, R204) -/

/-- A destination of the part's own transactions; their completions are discarded after RESET_N has fallen (R85). -/
def internalDestination : Destination → Bool
  | .host _ => false
  | _ => true

/-- A controller in hard reset; its inputs are as they were (R68). -/
def resetCard (c : Card) : Card := { Card.reset with detect := c.detect, protectInput := c.protectInput }

/-- RESET_N falls (R85). -/
def resetAssert (s : State) : State :=
  let s1 := abandonReads (forwardHeld s) internalDestination
  { s1 with
    path := { s1.path with
      resetLow := true, regions := Vector.replicate 8 none, hostGrants := 0, producerCopy := 0, consumerCopy := 0 }
    tap := Tap.reset, clip := Clip.reset, cardA := resetCard s.cardA, cardB := resetCard s.cardB, motion := Motion.reset
    view := View.reset, zoom := Zoom.reset, audio := Audio.reset, acc := Acc.reset, control := Control.reset }

/-- RESET_N_ASSERT (R85). -/
def execResetNAssert (s : State) : Outcome := .next (if s.path.resetLow then s else resetAssert s)

/-- The memory size that the MEMTOP straps give (R86). -/
def memSizeOf (memtop : BitVec 3) : Nat := 134217728 * 2 ^ min memtop.toNat 5

/-- The first samples of ENC and HOME are the filtered levels (R137, R142). -/
def firstSamples (enc home : Bool) (z : Zoom) : Zoom := { z with encFilter := ⟨enc, 0, enc⟩, homeFilter := ⟨home, 0, home⟩ }

/-- A slot whose DETECT is active at the release starts its settle timer (R68). -/
def settleAtRelease (c : Card) : Card := { c with settling := c.detect }

/-- RESET_N rises (R86, R202, R204): the straps are sampled, the zero writes of the two part-owned words and the first status
block are presented. -/
def resetRelease (memtop : BitVec 3) (enc home : Bool) (s : State) : State :=
  let s1 := { s with
    path := { s.path with resetLow := false, memSize := memSizeOf memtop }
    zoom := firstSamples enc home s.zoom
    cardA := settleAtRelease s.cardA, cardB := settleAtRelease s.cardB
    control := { s.control with statusTimer := true } }
  requestStatus (presentWrite (producerWordWrite s1 0) (presentWrite (consumerWordWrite s1 0) s1))

/-- RESET_N_RELEASE (R86). -/
def execResetNRelease (memtop : BitVec 3) (encSample homeSample : Bool) (s : State) : Outcome :=
  .next (if s.path.resetLow then resetRelease memtop encSample homeSample s else s)

end Sys2Proof.Machine
end

