-- ==== Sys2Proof/Machine/Dispatch.lean ====
section
/-! DEFINITION. The dispatch: one arm per command, each a direct call of its meaning. -/

namespace Sys2Proof.Machine

def exec (i : Instr) (s : State) : Host.Outcome State Fault Refusal :=
  match i with
  | .hostTransactionTake t => Sys2Proof.Machine.execHostTransactionTake t s
  | .holdTimerExpiry => Sys2Proof.Machine.execHoldTimerExpiry s
  | .downstreamGrant => Sys2Proof.Machine.execDownstreamGrant s
  | .hostDownstreamCompletion data => Sys2Proof.Machine.execHostDownstreamCompletion data s
  | .upstreamCompletion => Sys2Proof.Machine.execUpstreamCompletion s
  | .commandProducerWrite => Sys2Proof.Machine.execCommandProducerWrite s
  | .reportConsumerWrite => Sys2Proof.Machine.execReportConsumerWrite s
  | .reportProducerAck => Sys2Proof.Machine.execReportProducerAck s
  | .statusTimerExpiry => Sys2Proof.Machine.execStatusTimerExpiry s
  | .unknownCommand h code => Sys2Proof.Machine.execUnknownCommand h code s
  | .setRegion h record base size spec => Sys2Proof.Machine.execSetRegion h record base size spec s
  | .clearRegion h record => Sys2Proof.Machine.execClearRegion h record s
  | .recConfig h mode gripRec chunkMax chunkMin => Sys2Proof.Machine.execRecConfig h mode gripRec chunkMax chunkMin s
  | .recStart h clip => Sys2Proof.Machine.execRecStart h clip s
  | .recStop h => Sys2Proof.Machine.execRecStop h s
  | .cardChain h slot group => Sys2Proof.Machine.execCardChain h slot group s
  | .cardSleep h slot => Sys2Proof.Machine.execCardSleep h slot s
  | .cardWake h slot => Sys2Proof.Machine.execCardWake h slot s
  | .cardEject h slot => Sys2Proof.Machine.execCardEject h slot s
  | .stabConfig h biasX biasY dirX dirY kSteady kPan panThreshold panEnter panExit => Sys2Proof.Machine.execStabConfig h biasX biasY dirX dirY kSteady kPan panThreshold panEnter panExit s
  | .stabEnable h => Sys2Proof.Machine.execStabEnable h s
  | .stabDisable h => Sys2Proof.Machine.execStabDisable h s
  | .focalLoad h addr => Sys2Proof.Machine.execFocalLoad h addr s
  | .focalLoadReadReturn data => Sys2Proof.Machine.execFocalLoadReadReturn data s
  | .zoomConfig h addr seg e tolerance => Sys2Proof.Machine.execZoomConfig h addr seg e tolerance s
  | .zoomConfigReadReturn data => Sys2Proof.Machine.execZoomConfigReadReturn data s
  | .zoomHome h => Sys2Proof.Machine.execZoomHome h s
  | .zoomGoto h target maxLevel => Sys2Proof.Machine.execZoomGoto h target maxLevel s
  | .zoomSpeed h level => Sys2Proof.Machine.execZoomSpeed h level s
  | .zoomStop h => Sys2Proof.Machine.execZoomStop h s
  | .audioConfig h role enables => Sys2Proof.Machine.execAudioConfig h role enables s
  | .audioOff h => Sys2Proof.Machine.execAudioOff h s
  | .accConfigBegin h => Sys2Proof.Machine.execAccConfigBegin h s
  | .accBufferSet h index direction identifier owner mode staleCycles => Sys2Proof.Machine.execAccBufferSet h index direction identifier owner mode staleCycles s
  | .accFilterSet h acceptEnable acceptCode acceptMask rejectEnable rejectCode rejectMask => Sys2Proof.Machine.execAccFilterSet h acceptEnable acceptCode acceptMask rejectEnable rejectCode rejectMask s
  | .accLinkSet h period q => Sys2Proof.Machine.execAccLinkSet h period q s
  | .accConfigEnd h => Sys2Proof.Machine.execAccConfigEnd h s
  | .accSend h index length data => Sys2Proof.Machine.execAccSend h index length data s
  | .ackConditions h set => Sys2Proof.Machine.execAckConditions h set s
  | .setNoticeMask h set => Sys2Proof.Machine.execSetNoticeMask h set s
  | .softReset h => Sys2Proof.Machine.execSoftReset h s
  | .chunkChoice => Sys2Proof.Machine.execChunkChoice s
  | .videoPayloadReadReturn data => Sys2Proof.Machine.execVideoPayloadReadReturn data s
  | .audioPayloadReadReturn data => Sys2Proof.Machine.execAudioPayloadReadReturn data s
  | .pageOpen => Sys2Proof.Machine.execPageOpen s
  | .clipClose => Sys2Proof.Machine.execClipClose s
  | .recordingStopped => Sys2Proof.Machine.execRecordingStopped s
  | .cardDetectActive slot => Sys2Proof.Machine.execCardDetectActive slot s
  | .cardSettleExpiry slot => Sys2Proof.Machine.execCardSettleExpiry slot s
  | .cardRemoval slot => Sys2Proof.Machine.execCardRemoval slot s
  | .cardIdentRetry slot => Sys2Proof.Machine.execCardIdentRetry slot s
  | .cardIdentResponse slot response protectInput => Sys2Proof.Machine.execCardIdentResponse slot response protectInput s
  | .cardIdentTimeout slot => Sys2Proof.Machine.execCardIdentTimeout slot s
  | .cardStatusPoll slot elapsed => Sys2Proof.Machine.execCardStatusPoll slot elapsed s
  | .cardStatusResponse slot response protectInput elapsed => Sys2Proof.Machine.execCardStatusResponse slot response protectInput elapsed s
  | .cardPageWriteTimeout slot => Sys2Proof.Machine.execCardPageWriteTimeout slot s
  | .cardEraseTimeout slot => Sys2Proof.Machine.execCardEraseTimeout slot s
  | .cardWakeTimeout slot => Sys2Proof.Machine.execCardWakeTimeout slot s
  | .cardDescriptorFetchDone slot data protectInput => Sys2Proof.Machine.execCardDescriptorFetchDone slot data protectInput s
  | .cardRollover slot => Sys2Proof.Machine.execCardRollover slot s
  | .cardEraseStart slot => Sys2Proof.Machine.execCardEraseStart slot s
  | .cardPageWriteStart slot => Sys2Proof.Machine.execCardPageWriteStart slot s
  | .gyroSampleInstant => Sys2Proof.Machine.execGyroSampleInstant s
  | .gyroAnswer status yawLow yawHigh pitchLow pitchHigh => Sys2Proof.Machine.execGyroAnswer status yawLow yawHigh pitchLow pitchHigh s
  | .gyroReadTimeout => Sys2Proof.Machine.execGyroReadTimeout s
  | .rampTick => Sys2Proof.Machine.execRampTick s
  | .lensTimerUnderflow => Sys2Proof.Machine.execLensTimerUnderflow s
  | .encoderEdge samples => Sys2Proof.Machine.execEncoderEdge samples s
  | .homeRise samples => Sys2Proof.Machine.execHomeRise samples s
  | .samplePeriod received => Sys2Proof.Machine.execSamplePeriod received s
  | .frameSync edges sdin => Sys2Proof.Machine.execFrameSync edges sdin s
  | .missingFrame => Sys2Proof.Machine.execMissingFrame s
  | .audioSlipTimerExpiry => Sys2Proof.Machine.execAudioSlipTimerExpiry s
  | .meterWindowEnd => Sys2Proof.Machine.execMeterWindowEnd s
  | .cycleInstant => Sys2Proof.Machine.execCycleInstant s
  | .accMessageReceive slot m => Sys2Proof.Machine.execAccMessageReceive slot m s
  | .accSlotEnd slot => Sys2Proof.Machine.execAccSlotEnd slot s
  | .accSlotStart slot => Sys2Proof.Machine.execAccSlotStart slot s
  | .accTransmitDone => Sys2Proof.Machine.execAccTransmitDone s
  | .resetNAssert => Sys2Proof.Machine.execResetNAssert s
  | .resetNRelease memtop encSample homeSample => Sys2Proof.Machine.execResetNRelease memtop encSample homeSample s

end Sys2Proof.Machine
end

