-- ==== Sys2Proof/Safety.lean ====
section
/-! DEFINITION. What a safe run is, and the vocabulary of the claims: the blocks that a step leaves alone, the state in which a row
may take place, and the envelope of a command. -/

namespace Sys2Proof

open Sys2Proof.Machine

/-- `n` steps from `s`, where each answers a next state. -/
def runFor : Nat → State → Option State
  | 0, s => some s
  | n + 1, s =>
    match step s with
    | .next t => runFor n t
    | _ => none

/-- A run of `n` steps neither faults nor is refused. -/
def safeFor (n : Nat) (s : State) : Prop := (runFor n s).isSome = true

/-! ### Frames -/

/-- The parts of the state, one for each field of `State`. -/
inductive Part where
  | path | tap | clip | card (slot : CardSlot) | motion | view | zoom | audio | acc | control | now | pending
  deriving DecidableEq, Repr

/-- A part is as it was. -/
def Part.same : Part → State → State → Prop
  | .path, s, t => t.path = s.path
  | .tap, s, t => t.tap = s.tap
  | .clip, s, t => t.clip = s.clip
  | .card slot, s, t => t.card slot = s.card slot
  | .motion, s, t => t.motion = s.motion
  | .view, s, t => t.view = s.view
  | .zoom, s, t => t.zoom = s.zoom
  | .audio, s, t => t.audio = s.audio
  | .acc, s, t => t.acc = s.acc
  | .control, s, t => t.control = s.control
  | .now, s, t => t.now = s.now
  | .pending, s, t => t.pending = s.pending

/-- From `s` to `t` every part is as it was, the listed ones apart. -/
def changesOnly (parts : List Part) (s t : State) : Prop := ∀ p : Part, p ∉ parts → p.same s t

/-! ### When a row may take place -/

/-- The part is out of reset. -/
def running (s : State) : Prop := s.path.resetLow = false

/-- RESET_N is high, and the next completion of the downstream port is one that something waits for, of the transaction `i`
(R72). -/
def returns (s : State) (i : Issued) : Prop :=
  running s ∧ (s.path.inFlight.dropWhile fun j => j.dest == .ignored).head? = some i

/-- The state in which the next completion has been taken from the port (R72). -/
def afterReturn (s : State) : State :=
  s.setPath { s.path with inFlight := (s.path.inFlight.dropWhile fun j => j.dest == .ignored).tail }

/-- The entry read of the Command and Notice Unit returns, so that a command may be taken (R190). -/
def entryReturns (s : State) : Prop := ∃ txn, returns s ⟨txn, .commandEntry⟩

/-! ### The envelope of a command (R190, R191) -/

/-- The write of a result into the entry in progress: byte 5 of the entry, alone (R191, R206). -/
def resultWrite (s : State) (r : Result) : ReportWrite :=
  ⟨controlPage s + 64 * (s.control.consumer.toNat % 16),
    [(0, false), (0, false), (0, false), (0, false), (0, false), (r.code, true), (0, false), (0, false)], .plain⟩

/-- The write of the command consumer word, at 0xE04 of the control page: four bytes, low byte first (R188, R191). -/
def consumerWrite (s : State) (v : Word16) : ReportWrite :=
  ⟨controlPage s + 0xE00,
    [(0, false), (0, false), (0, false), (0, false), (v.extractLsb' 0 8, true), (v.extractLsb' 8 8, true), (0, true), (0, true)],
    .plain⟩

/-- The command in progress is answered by `r`: the result and then the advanced consumer word are presented, and the next entry is
read if one is available (R190, R191). -/
def answered (r : Result) (s t : State) : Prop :=
  changesOnly [.control] s t ∧
  t.control = { s.control with
    consumer := s.control.consumer + 1
    writes := s.control.writes ++ [resultWrite s r, consumerWrite s (s.control.consumer + 1)]
    phase := if s.control.consumer + 1 = s.control.effectiveProducer then .idle else .entry
    readReq := if s.control.consumer + 1 = s.control.effectiveProducer then s.control.readReq
      else some ⟨controlPage s + 64 * ((s.control.consumer + 1).toNat % 16), 64, unissuedWrites s⟩ }

/-- Command `c` completes from `s` with result `r`: `u` is the state after its own effect, before its answer. -/
def completesWith (c : Instr) (s : State) (r : Result) (u : State) : Prop :=
  ∃ t, exec c s = .next t ∧ answered r u t

/-- The path after a host grant has issued `p` for the entry `e`: the fairness count, and the entry's progress (R70, R72, R83). -/
def hostGranted (e : QueueEntry) (p : Piece) (s : State) : Path :=
  { s.path with
    inFlight := s.path.inFlight ++ [⟨p.txn, .host e.serial⟩]
    hostGrants := if internalRequest s = none then 0 else s.path.hostGrants + 1
    queue := s.path.queue.map fun x =>
      if x.serial = e.serial then
        { x with
          issued := x.issued + 1
          progress := if x.issued + 1 = x.pieces.length then .issued else .waiting }
      else x }

/-! ### The index words and the report ring (R78, R192 to R196) -/

/-- The write of these lanes from `a` enables neither of the lower two bytes of the index word at `word` (R78). -/
def wordUntouched (a : Nat) (lanes : List LaneByte) (word : Nat) : Prop :=
  ∀ (i : Nat) (b : Byte), lanes[i]? = some (b, true) → a + i ≠ word ∧ a + i ≠ word + 1

/-- The copy `old` of an index has become `v`: it takes the enabled ones of the lower two bytes of its word and keeps the other
(R78). -/
def wordTaken (old : Word16) (a : Nat) (lanes : List LaneByte) (word : Nat) (v : Word16) : Prop :=
  ¬wordUntouched a lanes word ∧ ∀ k : Nat, k < 2 →
    (∀ (i : Nat) (b : Byte), lanes[i]? = some (b, true) → a + i = word + k → v.extractLsb' (8 * k) 8 = b) ∧
    ((∀ (i : Nat) (b : Byte), lanes[i]? = some (b, true) → a + i ≠ word + k) →
      v.extractLsb' (8 * k) 8 = old.extractLsb' (8 * k) 8)

/-- The two writes that put the 32 bytes of a notice with sequence `n` into the ring: its place, and the producer word (R194, R207). -/
def ringWrites (s : State) (n : Word16) (bytes : List Byte) : List ReportWrite :=
  [⟨controlPage s + 0x400 + 32 * (n.toNat % 64), bytes.map fun b => (b, true), .plain⟩,
   ⟨controlPage s + 0xE08, [((n + 1).extractLsb' 0 8, true), ((n + 1).extractLsb' 8 8, true), (0, true), (0, true),
     (0, false), (0, false), (0, false), (0, false)], .producerWord (n + 1)⟩]

/-- The head of a notice's 32 bytes (R207). -/
def noticeHead (kind source : Byte) (n : Word16) (frame : Word32) : List Byte :=
  [kind, source] ++ littleEndian 2 n.toNat ++ littleEndian 4 frame.toNat

/-- Kind, source and payload of a notice, byte by byte, with the counts and the condition states of `s` and a fold count (R207). -/
def noticeFields (s : State) (folds : Nat) : Notice → Byte × Byte × List Byte
  | .condition c => (1, BitVec.ofNat 8 c.number.val,
      [BitVec.ofNat 8 c.number.val, (condState s c).code] ++ s.control.conditions.toList.map CondState.code)
  | .cmdDone k r => (2, k.code,
      littleEndian 2 k.code.toNat ++ littleEndian 2 k.tag.toNat ++ [r.code, BitVec.ofNat 8 (min folds 255)])
  | .recState ev st r mode clip chunks => (3, 0,
      [ev.code, st.code, (match r with | some x => x.code | none => 0), mode.code] ++ littleEndian 2 clip.toNat ++ [0, 0]
        ++ (if ev = .stopped ∨ ev = .aborted then littleEndian 4 chunks.toNat else []))
  | .cardState slot new old au page probed => (4, if slot = .a then 0 else 3,
      [new.code, old.code] ++ littleEndian 2 (au.getD 0xFFFF).toNat ++ littleEndian 2 page
        ++ (match probed with
          | some (count, serial) => littleEndian 2 count.toNat ++ littleEndian 8 serial.toNat
          | none => []))
  | .chainBad slot addr => (4, if slot = .a then 1 else 4, littleEndian 4 addr)
  | .auBad slot au => (4, if slot = .a then 2 else 5, littleEndian 2 au.toNat ++ littleEndian 2 (s.card slot).badAus.toNat)
  | .zoomDone home o pos target tag => (5, if home then 1 else 0,
      [o.code, 0] ++ littleEndian 2 pos ++ littleEndian 2 (target.getD 0) ++ littleEndian 2 tag.toNat)
  | .tapEvent src offset skipped => (6, src.code,
      littleEndian 4 offset ++ littleEndian 4 skipped ++ littleEndian 2 (tapCount s src).toNat)
  | .accMsg buffer identifier stale data => (7, BitVec.ofNat 8 buffer,
      [identifier.zeroExtend 8, BitVec.ofNat 8 data.length, if stale then 1 else 0, 0] ++ data)

/-- The 32 bytes of a stamped notice that is written with sequence `n` (R194, R207). -/
def noticeLine (s : State) (p : StampedNotice) (n : Word16) : List Byte :=
  let f := noticeFields s p.folds p.notice
  noticeHead f.1 f.2.1 n p.frame ++ (f.2.2 ++ List.replicate 24 (0 : Byte)).take 24

/-- The 32 bytes of a message of the receive queue that is written with sequence `n` (R176, R207), stamped at its writing (log 35). -/
def messageLine (s : State) (m : QueueMessage) (n : Word16) : List Byte :=
  noticeHead 7 0xFF n s.view.frameCount
    ++ ([m.identifier.zeroExtend 8, BitVec.ofNat 8 m.data.length, 0, 0] ++ m.data ++ List.replicate 24 (0 : Byte)).take 24

/-- From `u` to `t` the value `v` of the report consumer word has been handed over: an impossible one counts as the producer; free
places take the pending notices, oldest first, and then the messages of the receive queue, whose overrun ends with the last (R175, R176,
R196). -/
def consumerTaken (v : Word16) (u t : State) : Prop :=
  let produced := u.control.reportProducer
  let copy := if (produced - v).toNat ≤ 64 then v else produced
  let free := 64 - (produced - copy).toNat
  let notices := u.control.pendingNotices.take free
  let messages := u.acc.queue.take (free - notices.length)
  let lines := notices.map (noticeLine u) ++ messages.map (messageLine u)
  t.path = { u.path with consumerCopy := copy } ∧
  ((u.control.pendingNotices.Pairwise fun p q => ¬(p.notice.kind = q.notice.kind ∧ p.notice.source = q.notice.source)) →
    changesOnly [.path, .control, .acc, .tap, .view, .card .a, .card .b] u t ∧
    t.control = { u.control with
      reportProducer := produced + BitVec.ofNat 16 lines.length
      writes := u.control.writes ++ lines.zipIdx.flatMap fun x =>
        ringWrites u (produced + BitVec.ofNat 16 x.2) (x.1 (produced + BitVec.ofNat 16 x.2))
      pendingNotices := u.control.pendingNotices.drop free
      conditions := t.control.conditions } ∧
    t.acc = { u.acc with queue := u.acc.queue.drop (free - notices.length) } ∧
    (∀ d, d ≠ .accQueueOverrun ∨ messages = [] ∨ t.acc.queue ≠ [] → condState t d = condState u d) ∧
    (messages ≠ [] → t.acc.queue = [] → causePresent t .accQueueOverrun = false) ∧
    (notices = [] → changesOnly [.path, .control, .acc] u t))

/-- With a full ring notice `m` pends in `t`, stamped with the frame count of `s` (R193, R195). -/
def noticePends (m : Notice) (s t : State) : Prop :=
  64 ≤ unread s → ∃ p ∈ t.control.pendingNotices, p.notice = m ∧ p.frame = s.view.frameCount

/-- With room for notice `m` and for what a step may post ahead of it, its 32 bytes and the producer word behind them are among the
writes presented in `t`; `u` has the counts and condition states of the moment of writing (R193, R194). -/
def noticeWritten (m : Notice) (s u t : State) : Prop :=
  unread s ≤ 48 → ∃ n : Word16, ∀ w ∈ ringWrites s n (noticeLine u ⟨m, s.view.frameCount, 0⟩ n), w ∈ t.control.writes

/-- From `s` to `t` notice `m` has been posted: it pends, or it is written with the counts and condition states of `s` (R193, R194,
R195). -/
def noticePosted (m : Notice) (s t : State) : Prop := noticePends m s t ∧ noticeWritten m s s t

/-- The CMD_DONE of a command that asked for it has been posted with this result (R192). -/
def donePosted (k : Kept) (r : Result) (s t : State) : Prop := k.notify = true → noticePosted (.cmdDone k r) s t

/-- An abort has been reported: the REC_STATE notice ABORTED with the clip number and the chunks issued, and the CMD_DONE ABORTED of a
REC_STOP that waited (R41, R205). -/
def abortReported (s t : State) : Prop :=
  noticePosted (.recState .aborted .idle none s.clip.mode s.clip.clipNumber s.clip.chunkSeq) s t ∧
  ∀ k, s.clip.stopCmd = some k → donePosted k .aborted s t

/-! ### Regions and stream writes -/

/-- The general checks of SET_REGION on record, base and size pass: an empty record of the eight, whole pages of at least one page
below the control page, and no overlap with an occupied record (R74). -/
def regionFits (s : State) (record base size : Nat) : Prop :=
  (∃ h : record < 8, s.path.regions[record] = none) ∧ base % 4096 = 0 ∧ size % 4096 = 0 ∧ 4096 ≤ size ∧
    base + size ≤ controlPage s ∧ ∀ r ∈ regions s, base + size ≤ r.base ∨ r.base + r.size ≤ base

/-- The Region Table with one record changed. -/
def withRecord (s : State) (record : Nat) (r : Option Region) : Vector (Option Region) 8 :=
  s.path.regions.setIfInBounds record r

/-- Both latest shifts are 0, and nothing else of the Motion Unit has changed (R96). -/
def shiftsZeroed (s t : State) : Prop :=
  t.motion = { s.motion with x := { s.motion.x with shift := 0 }, y := { s.motion.y with shift := 0 } }

/-- The state after a transaction has joined the tail of the in-order queue as it came (R70, R77). -/
def joined (x : Transaction) (progress : Progress) (s : State) : State :=
  s.setPath { s.path with
    queue := s.path.queue ++ [⟨s.path.nextSerial, x, [⟨x, 0, x.len⟩], 0, 0, progress, [], false⟩]
    nextSerial := s.path.nextSerial + 1 }

/-- The port can take a transaction of the host: the queue has room and no write is held (R70, R79). -/
def portOpen (s : State) : Prop := running s ∧ s.path.queue.length < 8 ∧ ∀ e ∈ s.path.queue, e.progress ≠ .held

/-- The position that a ring offset has behind cursor, below 0 where the ring has not come round yet (R6, R17). -/
def behindPosition (r : StreamRegion) (cursor a : Nat) : Int :=
  (cursor : Int) - r.size + (((a : Int) - cursor) % r.size)

/-- No two records of the Region Table hold one byte address, none reaches the control page, and while RESET_N is low there is none
(R73, R85). -/
def regionsDisjoint (s : State) : Prop :=
  (s.path.resetLow = true → ∀ i (h : i < 8), s.path.regions[i] = none) ∧
  (∀ i (h : i < 8) r, s.path.regions[i] = some r → r.base + r.size ≤ controlPage s) ∧
  (∀ i j (hi : i < 8) (hj : j < 8) r q addr, i ≠ j → s.path.regions[i] = some r → s.path.regions[j] = some q →
    ¬(r.holds addr = true ∧ q.holds addr = true))

/-! ### One gyro sample of one axis (R90 to R98) -/

/-- G at the zoom position of the sample (R95). -/
def gainIs (s : State) (g : Nat) : Prop :=
  0 < s.zoom.seg ∧ s.zoom.pos ≤ 32 * s.zoom.seg ∧
  (s.zoom.pos = 32 * s.zoom.seg → s.motion.focal[32] = g) ∧
  (∀ h : s.zoom.pos / s.zoom.seg < 32,
    (g : Int) = s.motion.focal[s.zoom.pos / s.zoom.seg]
      + (((s.motion.focal[s.zoom.pos / s.zoom.seg + 1] : Int) - s.motion.focal[s.zoom.pos / s.zoom.seg])
          * (s.zoom.pos % s.zoom.seg : Nat)).tdiv s.zoom.seg)

/-- The state test of an axis on the saturated rate `d` (R92). -/
def stateTested (m : Motion) (d : Int) (a b : Axis) : Prop :=
  (a.state = .steady → (d.natAbs ≤ m.panThreshold → b.state = .steady ∧ b.panEnterCount = 0) ∧
    (m.panThreshold < d.natAbs → a.panEnterCount + 1 ≠ m.panEnter → b.state = .steady ∧ b.panEnterCount = a.panEnterCount + 1) ∧
    (m.panThreshold < d.natAbs → a.panEnterCount + 1 = m.panEnter → b.state = .pan ∧ b.panEnterCount = 0)) ∧
  (a.state = .pan → (m.panThreshold / 2 ≤ d.natAbs → b.state = .pan ∧ b.panExitCount = 0) ∧
    (d.natAbs < m.panThreshold / 2 → a.panExitCount + 1 ≠ m.panExit → b.state = .pan ∧ b.panExitCount = a.panExitCount + 1) ∧
    (d.natAbs < m.panThreshold / 2 → a.panExitCount + 1 = m.panExit → b.state = .steady ∧ b.panExitCount = 0)) ∧
  (a.state = .hold → b.state = .hold)

/-- The bits came in on the motion port as the byte `b`, the most significant one first (R213). -/
def receivedAs (bits : PortBits) (b : Byte) : Prop := ∀ i : Fin 8, b.getLsbD (7 - i.val) = bits[i]

/-- `b` is axis `a` after a sample of `rate` with gain `g` and margin `margin`, step by step as R91 to R98 give it. -/
def axisSampled (m : Motion) (g margin : Nat) (rate : Int) (a b : Axis) : Prop :=
  (a.state = .off → b = a) ∧
  (a.state ≠ .off → ∃ d integrated leaked limit q : Int,
    d = max (-32768) (min 32767 (rate - a.bias)) ∧
    stateTested m d a b ∧ b.bias = a.bias ∧ b.inverted = a.inverted ∧
    integrated = (if b.state = .hold then a.angle else a.angle + d) ∧
    leaked = integrated - integrated.tdiv (2 ^ (if b.state = .steady then m.kSteady else m.kPan)) ∧
    limit = (margin * 2 ^ 21 / g : Nat) ∧
    b.angle = max (-limit) (min limit leaked) ∧
    q = b.angle * g ∧
    b.shift = (if b.inverted then -1 else 1) * (q.sign * ((q.natAbs + 2 ^ 20) / 2 ^ 21 : Nat)))

/-! ### The ends of commands and moves (R136, R192) -/

/-- An outstanding command ends with a final result: its CMD_DONE is posted when its NOTIFY flag was set (R192). -/
def commandDone (k : Kept) (r : Result) (s : State) : State := if k.notify then postNotice (.cmdDone k r) s else s

/-- A GOTO ends at `pos`: its CMD_DONE, then the ZOOM_DONE of source GOTO (R136). -/
def gotoDone (m : GotoRecord) (o : ZoomOutcome) (pos : Nat) (s : State) : State :=
  postNotice (.zoomDone false o pos (some m.target) m.cmd.tag) (commandDone m.cmd (if o = .reached then .ok else .aborted) s)

/-- A homing ends at `pos`: its CMD_DONE, then the ZOOM_DONE of source HOME (R136). -/
def homingDone (k : Kept) (o : ZoomOutcome) (pos : Nat) (s : State) : State :=
  postNotice (.zoomDone true o pos none k.tag) (commandDone k (if o = .homed then .ok else .aborted) s)

/-- The position lies in the range, and a lens that may still step outside HOMING has room in its direction (R124, R135). -/
def zoomInRange (z : Zoom) : Prop :=
  z.pos ≤ 32 * z.seg ∧
  (z.running = true → z.stopRequest = false → z.servo ≠ .homing →
    (z.dir = .tele → z.pos < 32 * z.seg) ∧ (z.dir = .wide → 0 < z.pos))

/-- A ramp tick with demand `d` has moved the actual level: down by one, up by one, not at all, or from a stopped timer to level 1
(R127). -/
def levelMoved (d : Int) (a b : Zoom) : Prop :=
  let way := if a.dir = .tele then (1 : Int) else -1
  (0 < a.level → (d * way ≤ 0 ∨ d.natAbs < a.level) →
    (a.level = 1 → b = { a with level := 0, stopRequest := a.running }) ∧
    (∀ h : a.level - 1 < 16, a.level ≠ 1 → b = { a with level := a.level - 1, stored := (a.speeds[a.level - 1]).setting })) ∧
  (0 < a.level → 0 < d * way → a.level < d.natAbs →
    ∀ h : a.level + 1 < 16, b = { a with level := a.level + 1, stored := (a.speeds[a.level + 1]).setting }) ∧
  (0 < a.level → 0 < d * way → a.level = d.natAbs → b = a) ∧
  (a.level = 0 → (d = 0 ∨ a.running = true) → b = a) ∧
  (a.level = 0 → d ≠ 0 → a.running = false → b = { a with
    dir := if 0 < d then .tele else .wide, level := 1, running := true, stopRequest := false, step := false
    stored := (a.speeds[1]).setting, active := (a.speeds[1]).setting, counter := ((a.speeds[1]).setting).reload })

/-- The demand `d` as it counts at the ends of the range: 0 toward the end at which pos stands (R127). -/
def demandHere (z : Zoom) (d : Int) : Int := if (0 < d ∧ z.pos = 32 * z.seg) ∨ (d < 0 ∧ z.pos = 0) then 0 else d

/-! ### The Accessory Link (R169 to R184) -/

/-- The link has entered CONFIG: the queue and the error window empty, every RECEIVE buffer at 255 with a HOST one's notified content
forgotten, every HOST TRANSMIT buffer EMPTY, the line released, and none of the three causes present (R170). -/
def enteredConfig (s t : State) : Prop :=
  changesOnly [.acc, .control] s t ∧
  t.acc = { s.acc with
    link := .config, startWait := none, stopWait := none, queue := [], errors := 0, heard := 0, line := .released
    buffers := t.acc.buffers } ∧
  (∀ i : Fin 16,
    (s.acc.buffers[i] = .unconfigured → t.acc.buffers[i] = .unconfigured) ∧
    (∀ r, s.acc.buffers[i] = .receive r → t.acc.buffers[i] =
      .receive { r with freshness := 255, notified := if r.owner = .host then none else r.notified }) ∧
    (∀ x, s.acc.buffers[i] = .transmit x → t.acc.buffers[i] =
      .transmit (if x.owner = .host then { x with content := none, waitingSend := none } else x))) ∧
  causePresent t .accQueueOverrun = false ∧ causePresent t .gripStale = false ∧ causePresent t .accLinkError = false

/-- What a bound TRANSMIT buffer carries in a cycle (R184, R211). -/
def boundBytes (t : State) : BufferOwner → Option (List Byte)
  | .tallyOut => some ([t.clip.state.code, t.cardA.state.code, t.cardB.state.code] ++ littleEndian 2 t.clip.clipNumber.toNat
      ++ [t.audio.state.code] ++ littleEndian 2 (conditionSet t))
  | .meterOut => some (t.audio.meters.toList.map (fun m => BitVec.ofNat 8 m.segment)
      ++ t.audio.meters.toList.map (fun m => BitVec.ofNat 8 m.held))
  | .lensOut => some (littleEndian 2 (t.zoom.pos * 1000 / (32 * t.zoom.seg))
      ++ [t.zoom.servo.code, t.motion.x.state.code ||| (t.motion.y.state.code <<< 4)])
  | _ => none

/-- A cycle has started: the error window has moved on, every RECEIVE buffer has aged, those that became stale have acted, the bound
buffers are filled, and the mark is driven (R168, R177, R179, R180, R183). -/
def cycleStarted (s t : State) : Prop :=
  changesOnly [.acc, .control] s t ∧
  t.acc = { s.acc with
    link := .running, startWait := none, heard := 0, errors := s.acc.errors <<< 1, line := .mark, buffers := t.acc.buffers } ∧
  (s.acc.errors <<< 1 = 0 → causePresent t .accLinkError = false) ∧
  (∀ i : Fin 16,
    (s.acc.buffers[i] = .unconfigured → t.acc.buffers[i] = .unconfigured) ∧
    (∀ r, s.acc.buffers[i] = .receive r → ∃ q, t.acc.buffers[i] = .receive q ∧
      q = { r with freshness := min 255 (r.freshness + 1), notified := q.notified } ∧
      (r.owner ≠ .host ∨ r.staleCycles < r.freshness ∨ q.freshness ≤ r.staleCycles → q.notified = r.notified) ∧
      (r.freshness ≤ r.staleCycles → r.staleCycles < q.freshness →
        (r.owner = .host → q.notified = none) ∧ (r.owner = .gripIn → causePresent t .gripStale = true))) ∧
    (∀ x, s.acc.buffers[i] = .transmit x → t.acc.buffers[i] =
      .transmit { x with content := match boundBytes t x.owner with
        | some d => some ⟨d⟩
        | none => x.content }))

/-! ### Recordings (R22 to R29) -/

/-- The regions that a recording needs are set (R23). -/
def recordable (s : State) : Prop :=
  (∃ r, streamRegion s = some r) ∧ (∃ r, frameRegion s = some r) ∧ ((∃ r, audioRegion s = some r) ∨ s.audio.state = .off)

/-- Every card that the mode starts on is READY with its chain SET and no request pending (R23, R48). -/
def firstReady (s : State) : Prop :=
  ∀ slot, (firstCards s.clip.mode).has slot = true →
    (s.card slot).state = .ready ∧ (s.card slot).chain = .set ∧ (s.card slot).request = none

/-- The assembler once a start has been taken with number `clip` (R23). -/
def startTaken (clip : Word16) (s : State) : Clip :=
  { s.clip with
    clipNumber := clip, lastClip := clip, targets := firstCards s.clip.mode, startCursor := s.tap.cursor
    audioPart := (audioRegion s).isSome && s.audio.state != .off }

/-- Where block number `n` stands among the blocks: its signed distance from the next block number, since the numbers wrap (R155; the
model's reading, log 22). -/
def blockPlace (a : Audio) (n : Word32) : Int := (n - a.nextBlock).toInt

/-- The audio ship pointer and the audio discontinuity mark of a clip whose start frame is `f` (R25). -/
def audioPlaced (a : Audio) (f : Word32) (pointer : Option Word32) (mark : Bool) : Prop :=
  let early := fun i : BlockInfo => BlockRecord.done i ∈ a.blocks ∧ f ≠ 0 ∧ i.stamp.toNat ≤ f.toNat
  ((∃ i, early i) → mark = false ∧
    ∃ i, early i ∧ pointer = some i.number ∧ ∀ j, early j → blockPlace a j.number ≤ blockPlace a i.number) ∧
  ((∀ i, ¬early i) → mark = true ∧
    ((∃ i, BlockRecord.done i ∈ a.blocks) →
      ∃ i, BlockRecord.done i ∈ a.blocks ∧ pointer = some i.number ∧
        ∀ j, BlockRecord.done j ∈ a.blocks → blockPlace a i.number ≤ blockPlace a j.number) ∧
    ((∀ i, BlockRecord.done i ∉ a.blocks) → pointer = some (match a.current with
      | some c => c.number
      | none => a.nextBlock)))

/-- A clip has begun at entry `e` with `pre` pre-record bytes: `c` is the assembler before, `d` after, and page 0 carries the CLIP_HEAD
with sequence number 0 (R24, R25, R31, R209). -/
def clipBegun (c : Clip) (a : Audio) (e : Entry) (pre : Nat) (d : Clip) : Prop :=
  d = { c with
    state := .recording, clipStart := e.pos, startFrame := e.frame, videoStamp := e.frame, index := []
    preRecord := pre, chunkSeq := 1, stopCmd := none, audioStop := .unfixed, lay := [], run := .none
    readReq := none, relayHead := false, closed := false
    shipPtr := d.shipPtr, audioDiscontinuity := d.audioDiscontinuity, pages := d.pages } ∧
  (c.audioPart = false → d.shipPtr = none ∧ d.audioDiscontinuity = false) ∧
  (c.audioPart = true → audioPlaced a e.frame d.shipPtr d.audioDiscontinuity) ∧
  ∃ p, d.pages = c.pages ++ [p] ∧ p.clip = c.clipNumber ∧ p.target = c.targets ∧ p.sealed = false ∧ p.firstHeader = 0 ∧
    p.content.take 30 = [0xA7, 0xC1, 0xB3, 0xD5, 1, if c.targets.a && c.targets.b then 8 else 0]
      ++ littleEndian 2 c.clipNumber.toNat ++ littleEndian 4 0 ++ littleEndian 4 32 ++ littleEndian 8 0
      ++ littleEndian 4 e.frame.toNat ++ littleEndian 2 64 ∧
    p.content.drop 32 = littleEndian 2 c.clipNumber.toNat ++ [c.mode.code, c.targets.role] ++ littleEndian 4 e.frame.toNat
      ++ littleEndian 8 pre ++ littleEndian 2 64 ++ List.replicate 14 (0 : Byte)

/-- From `s` to `v` a start with number `clip` has been taken: the cards of the mode are ACTIVE, and the recording is ARMED, or a clip
has begun at the oldest entry (R23, R24). -/
def startsClip (clip : Word16) (s v : State) : Prop :=
  causePresent v .mediaExhausted = false ∧
  (∀ slot, v.card slot = if (firstCards s.clip.mode).has slot then { s.card slot with state := .active } else s.card slot) ∧
  (s.tap.entries = [] → changesOnly [.clip, .card .a, .card .b, .control] s v ∧
    v.clip = { startTaken clip s with state := .armed }) ∧
  (∀ e rest, s.tap.entries = e :: rest → changesOnly [.clip, .tap, .card .a, .card .b, .control] s v ∧
    v.tap = { s.tap with ship := e.pos, floor := e.pos, discontinuity := false } ∧
    clipBegun (startTaken clip s) s.audio e (s.tap.cursor - e.pos) v.clip)

/-- The audio stop block at a stop (R27, with the current block as R154 says). -/
def audioStopFixed (s : State) (a : AudioStop) : Prop :=
  (s.clip.audioPart = false → a = .nothing) ∧
  (∀ c, s.clip.audioPart = true → s.audio.current = some c → a = .upTo c.number) ∧
  (∀ i p, s.clip.audioPart = true → s.audio.current = none → s.clip.shipPtr = some p → BlockRecord.done i ∈ s.audio.blocks →
    (∀ j, BlockRecord.done j ∈ s.audio.blocks → blockPlace s.audio j.number ≤ blockPlace s.audio i.number) →
    a = if blockPlace s.audio i.number < blockPlace s.audio p then .nothing else .upTo i.number) ∧
  (s.audio.current = none → (∀ i, BlockRecord.done i ∉ s.audio.blocks) → a = .nothing)

/-- The part after a stop was taken in RECORDING: the stop position is the cursor, and a hold in force is marked (R15, R27). -/
def stopTaken (cmd : Option Kept) (a : AudioStop) (s : State) : State :=
  { s with
    tap := { s.tap with stopHold := s.tap.held.isSome }
    clip := { s.clip with state := .stopping, stopPos := s.tap.cursor, stopCmd := cmd, audioStop := a } }

/-! ### Chunks and pages (R30 to R42) -/

/-- A chunk boundary: a clip in RECORDING or STOPPING with chunks to come, every payload read returned and laid, no relay head owed,
and no wait for the Page Queue (R32). -/
def chunkBoundary (s : State) : Prop :=
  running s ∧ (s.clip.state = .recording ∨ s.clip.state = .stopping) ∧ s.clip.closed = false ∧ s.clip.run = .none ∧ s.clip.lay = [] ∧
    s.clip.relayHead = false ∧ (openPage s.clip = none → s.clip.pages.length < 8)

/-- The room of the clip is unbounded: it is on a card, and the lookahead of each card it is on is an AU (R38). -/
def roomUnbounded (s : State) : Prop :=
  s.clip.targets ≠ ⟨false, false⟩ ∧ ∀ slot, s.clip.targets.has slot = true → ∃ n e, (s.card slot).lookahead = .au n e

/-- The clip is on one card, whose lookahead is END, with `m` bytes of room (R38). -/
def roomIs (s : State) (slot : CardSlot) (m : Nat) : Prop :=
  s.clip.targets = CardSet.only slot ∧ (s.card slot).lookahead = .theEnd ∧
    m + 4096 * (s.clip.pages.filter fun p => p.target.has slot && !p.written.has slot && !p.failed.has slot).length
      = 4096 * (1024 - (s.card slot).pageIndex) + openFree s.clip

/-- The backlog of a boundary (R32). -/
def backlogIs (s : State) (n : Nat) : Prop :=
  n = if s.clip.state = .stopping then s.clip.stopPos - s.tap.ship else s.tap.cursor - s.tap.ship

/-- No AUDIO chunk is due: audio takes no part, or the block of the pointer is not DONE, or it lies beyond the audio stop block
(R32). -/
def noAudioDue (s : State) : Prop :=
  s.clip.audioPart = false ∨ s.clip.shipPtr = none ∨
    ∃ p, s.clip.shipPtr = some p ∧ ((∀ i, BlockRecord.done i ∈ s.audio.blocks → i.number ≠ p) ∨
      (s.clip.state = .stopping ∧ (s.clip.audioStop = .nothing ∨ ∃ b, s.clip.audioStop = .upTo b ∧ blockPlace s.audio b < blockPlace s.audio p)))

/-- The length of a VIDEO chunk before the fit check: the smallest of backlog, maximum, and the way to the entry that the Clip Index
has no place for (R33). -/
def videoLengthIs (s : State) (l : Nat) : Prop :=
  ∃ b, backlogIs s b ∧
    let above := s.tap.entries.filter fun e => s.tap.ship ≤ e.pos
    l = match above[255 - s.clip.index.length]? with
      | some e => min (min b s.clip.chunkMax) (e.pos - s.tap.ship)
      | none => min b s.clip.chunkMax

/-- A card's ACTIVE becomes another state and nothing else of it changes, a held erase apart (R48, R61). -/
def cardMoved (s t : State) (slot : CardSlot) (new : CardState) : Prop :=
  (t.card slot).state = new ∧ (t.card slot).chain = (s.card slot).chain ∧ (t.card slot).au = (s.card slot).au ∧
    (t.card slot).pageIndex = (s.card slot).pageIndex ∧ (t.card slot).lookahead = (s.card slot).lookahead ∧
    ((s.card slot).erase = none → t.card slot = { s.card slot with state := new })

/-- The armed recording has ended: nothing is written, and the ACTIVE cards return to READY (R26, R48). -/
def stopsArmed (s v : State) : Prop :=
  changesOnly [.clip, .card .a, .card .b, .control] s v ∧ v.clip = { s.clip with state := .idle } ∧
    ∀ slot, cardMoved s v slot (if (s.card slot).state = .active then .ready else (s.card slot).state)

/-! ### Cards (R45, R50, R61) -/

/-- The state in which the response of a STATUS is judged: `dt` µs have passed, the PROTECT input is as the row gives it, and no
STATUS is awaited (R45, R61). -/
def statusTaken (x : CardSlot) (protect : Bool) (dt : Nat) (s : State) : State :=
  (advanceTime dt s).setCard x
    { (advanceTime dt s).card x with protectInput := protect, statusOut := false, holdRefused := false }

/-- A card has become FAILED: nothing is outstanding on its link but an erase, its chain is dropped, and its FAULT cause is present
(R50). -/
def cardFailed (s t : State) (x : CardSlot) : Prop :=
  (t.card x).state = .failed ∧ (t.card x).chain = .none ∧ (t.card x).chainCmd = none ∧ (t.card x).fetchReq = none ∧
    (t.card x).walk = .none ∧ causePresent t (slotFault x) = true ∧
    ((s.card x).erase = none → (t.card x).phase = .idle ∧ (t.card x).statusOut = false ∧ (t.card x).erase = none)

/-- The commands that wait on a card, and the REC_STOP that waits, carry their own codes (R206), so that their CMD_DONE notices have
sources of their own (R195). -/
def waitsCoded (x : CardSlot) (s : State) : Prop :=
  (∀ k, (s.card x).chainCmd = some k → k.code = 0x18) ∧ (∀ k, (s.card x).request = some (.sleep k) → k.code = 0x19) ∧
    (∀ k, (s.card x).request = some (.eject k) → k.code = 0x1B) ∧ (∀ k, (s.card x).wakeCmd = some k → k.code = 0x1A) ∧
    ∀ k, s.clip.stopCmd = some k → k.code = 0x12

/-- From `s` to `t` an ACTIVE card has entered FAILED and left it at one event (R49, R50): the entry is reported, the slot's FAULT
condition has passed through ACTIVE with its CONDITION notice and stays LATCHED, no page awaits the card any more, and a clip that was
still to be written to it has ended or gone on without it. -/
def activeCardRemoved (x : CardSlot) (s t : State) : Prop :=
  let c := s.card x
  let fault := slotFault x
  noticeWritten (.cardState x .failed .active c.au c.pageIndex none) s s t ∧
  condState t fault = (if condState s fault = .ackedActive then .clear else .latched) ∧
  (causePresent s fault = false → s.control.noticeMask.getLsbD fault.number.val = false →
    noticePends (.condition fault) s t ∧ ∃ u, condState u fault = .active ∧ noticeWritten (.condition fault) s u t) ∧
  (∀ p ∈ t.clip.pages, waitsFor p x = false) ∧
  (s.clip.state ≠ .idle → s.clip.targets.has x = true → (s.clip.closed = false ∨ s.clip.pages ≠ [] ∨ s.clip.lay ≠ []) →
    t.clip.state = .idle ∨ (t.clip.state = s.clip.state ∧ t.clip.targets.has x = false))

/-- The card may be given the next AU to erase: a chain is SET, no request is pending, the card is READY or ACTIVE, and no erase is
outstanding (R57, R58). -/
def eraseAllowed (c : Card) : Prop :=
  c.chain = .set ∧ c.request = none ∧ (c.state = .ready ∨ c.state = .active) ∧ c.erase = none

/-- The current AU is due for erase (R58). -/
def currentDue (c : Card) (n : Word16) : Prop :=
  eraseAllowed c ∧ c.au = some n ∧ c.eraseState = .needed ∧ c.pageIndex < 1024

/-- The lookahead AU is due for erase (R58). -/
def lookaheadDue (c : Card) (m : Word16) : Prop :=
  eraseAllowed c ∧ c.au ≠ none ∧ ¬(c.eraseState = .needed ∧ c.pageIndex < 1024) ∧ c.lookahead = .au m .needed ∧ 0 < c.pageIndex

/-! ### Places (R19, R70, R83, R150, R175, R195) -/

/-- Each list keeps within its places: 8 transactions in the queue, 8 host grants in a row, 64 entries, 8 frames in the elastic store,
Q of at most 8 messages in the receive queue, which is empty unless the link runs, 64 unread notices, and one pending notice of each
kind and source. -/
def placesKept (s : State) : Prop :=
  s.path.queue.length ≤ 8 ∧ s.path.hostGrants ≤ 8 ∧ s.tap.entries.length ≤ 64 ∧ s.audio.store.length ≤ 8 ∧
    s.acc.queue.length ≤ s.acc.q ∧ s.acc.q ≤ 8 ∧ (s.acc.link ≠ .running → s.acc.queue = []) ∧
    (s.control.reportProducer - s.path.consumerCopy).toNat ≤ 64 ∧
    s.control.pendingNotices.Pairwise fun p q => ¬(p.notice.kind = q.notice.kind ∧ p.notice.source = q.notice.source)

/-! ### The laws of the stream and of the slots (R3, R19, R109) -/

/-- What holds of the stream and of the Slot Table at all times: floor is ship and at or below cursor, the retained span fits the STREAM
region, the entries rise and lie in [floor, cursor), and at most one slot is FILLING (R3, R4, R19, R109). -/
def streamLaws (s : State) : Prop :=
  s.tap.floor ≤ s.tap.cursor ∧ s.tap.ship = s.tap.floor ∧
  (∀ r, streamRegion s = some r → s.tap.cursor ≤ s.tap.floor + r.size) ∧
  (s.tap.entries.Pairwise fun e f => e.pos < f.pos) ∧
  (∀ e ∈ s.tap.entries, s.tap.floor ≤ e.pos ∧ e.pos < s.tap.cursor) ∧
  (∀ (i j : Nat) f g, s.view.slots[i]? = some (.filling f) → s.view.slots[j]? = some (.filling g) → i = j)

/-- Where the VIDEO payload reads in flight end, in issue order (R33). -/
def videoEnds (s : State) : List Nat :=
  s.path.inFlight.filterMap fun i => match i.dest with
    | .video _ stop _ => some stop
    | _ => none

/-- The payload reads of a VIDEO chunk stay at or below cursor, in rising order, and only an assembled chunk has any (R33). -/
def videoReadsKept (s : State) : Prop :=
  match s.clip.run with
  | .video next _ last => next ≤ last ∧ last ≤ s.tap.cursor ∧ (videoEnds s).Pairwise (· < ·) ∧ (∀ e ∈ videoEnds s, e ≤ next) ∧
      s.clip.closed = false ∧ (s.clip.state = .recording ∨ s.clip.state = .stopping)
  | _ => videoEnds s = []

/-- A held write lies at or beyond cursor, and its entry of the queue is held and not yet issued (R11, R79). -/
def holdKept (s : State) : Prop :=
  ∀ w, s.tap.held = some w → s.tap.cursor ≤ w.newCursor ∧
    ∃ e ∈ s.path.queue, e.progress = .held ∧ (∀ f ∈ s.path.queue, f.serial = e.serial → f.progress = .held) ∧
      ∀ i ∈ s.path.inFlight, i.dest ≠ .host e.serial

/-- The laws with what they rest on in a step: one STREAM region of stated size, a clip only while it is set, a stop position behind
cursor, the reads of a VIDEO chunk, the serials of the queue, and a held write (R1, R2, R11, R23, R27, R33). -/
def streamKept (s : State) : Prop :=
  streamLaws s ∧ ((regions s).filterMap Region.asStream).length ≤ 1 ∧
  (∀ r, streamRegion s = some r → 0 < r.size ∧ r.prerecordBytes ≤ r.size) ∧
  (streamRegion s = none → s.clip.state = .idle) ∧ (s.clip.state = .stopping → s.clip.stopPos ≤ s.tap.cursor) ∧
  videoReadsKept s ∧
  (∀ e ∈ s.path.queue, e.serial < s.path.nextSerial) ∧
  (∀ i ∈ s.path.inFlight, ∀ n, i.dest = .host n → n < s.path.nextSerial) ∧ holdKept s

/-- A card after a SOFT_RESET: no trace of the identity, the chain or a waiting command is left (R69). -/
def cardCleared (c : Card) : Prop :=
  c.identified = false ∧ c.auCount = 0 ∧ c.serial = 0 ∧ c.cardProtect = false ∧ c.chain = .none ∧ c.chainCmd = none ∧
    c.nextGroup = 0 ∧ c.group = [] ∧ c.groupIndex = 0 ∧ c.linkRun = 0 ∧ c.walk = .none ∧ c.fetchReq = none ∧ c.au = none ∧
    c.pageIndex = 0 ∧ c.lookahead = .unresolved ∧ c.request = none ∧ c.wakeCmd = none ∧ c.sleepOrigin = .none ∧ c.badAus = 0

/-! ### A period frame of the Audio Unit (R145, R152, R154, R157) -/

/-- The lines that wait on once the blocks in progress are abandoned: those of a block that is neither the current one nor FILLING (R155,
R160). -/
def linesKept (a : Audio) : List AudioLine :=
  a.lines.filter fun l =>
    (match a.current with
      | some c => c.number != l.number
      | none => true) && a.blocks.all fun
      | .filling i => i.number != l.number
      | _ => true

/-- From `a` to `b` the period frame `f` has been laid into the current block and metered: a disabled channel counts as 0, a ZERO
frame sets MUTED for the enabled channels, a REPEAT frame sets DEGRADED, and a line that is filled waits for its grant with its
address in the AUDIO ring at `base`. -/
def frameTaken (base : Nat) (f : AudioFrame) (zeros repeated : Bool) (a b : Audio) : Prop :=
  let sample (n : Nat) (x : Sample) : Sample := if a.enables.getLsbD n then x else 0
  let samples := [sample 0 f.c0, sample 1 f.c1, sample 2 f.c2, sample 3 f.c3]
  b.windowCount = a.windowCount + 1 ∧
  (∀ (i : Fin 4) (x : Sample), samples[i.val]? = some x →
    b.meters[i] = { a.meters[i] with peak := max (a.meters[i]).peak (min 8388607 x.toInt.natAbs) }) ∧
  (a.current = none → b.current = none ∧ b.lines = a.lines ∧ b.blocks = a.blocks) ∧
  (∀ c bytes, a.current = some c → bytes = c.partialLine ++ samples.flatMap (fun x => littleEndian 3 x.toNat) →
    b.blocks = a.blocks.map (fun
      | .filling i => if i.number = c.number then .filling { i with
            flags := ⟨if zeros then i.flags.muted ||| a.enables else i.flags.muted, i.flags.degraded || repeated⟩ }
          else .filling i
      | r => r) ∧
    (bytes.length < 128 → b.lines = a.lines ∧
      b.current = some { c with index := c.index + 1, partialLine := bytes }) ∧
    (128 ≤ bytes.length →
      b.current = some { c with index := c.index + 1, partialLine := bytes.drop 128 } ∧
      b.lines = a.lines ++ [⟨c.number, 12 * (c.index + 1) / 128 - 1,
        base + 12288 * (c.number.toNat % a.blocks.length) + 128 * (12 * (c.index + 1) / 128 - 1), bytes.take 128⟩]))

/-- A sample period finds the elastic store of a FOLLOWER drained after its priming: a slip (R150, R151). -/
def storeSlips (a : Audio) : Prop :=
  a.role = .follower ∧ (a.state = .locked ∨ a.state = .holdover) ∧ a.priming = false ∧ a.store = []

/-- The records of the audio blocks after a slip: the block that takes samples has gained DEGRADED (R151, R152). -/
def slipMarked (a : Audio) : List BlockRecord :=
  match a.current with
  | none => a.blocks
  | some c => a.blocks.map fun
    | .filling i => if i.number = c.number then .filling { i with flags := { i.flags with degraded := true } } else .filling i
    | r => r

/-- From `s` to `t` the frame `f` has arrived in the elastic store: at the tail of a store with room; the fourth frame ends the priming
phase and the cause of AUDIO_UNLOCKED; in a full store, as a slip, in the place of the head (R149, R150, R151). -/
def frameArrives (f : AudioFrame) (repeated : Bool) (s t : State) : Prop :=
  let joined := fun store : List StoredFrame => { s.audio with store := store ++ [⟨f, repeated⟩], lastArrived := f }
  (s.audio.store.length < 8 → (s.audio.priming = true → s.audio.store.length < 3) → t = { s with audio := joined s.audio.store }) ∧
  (s.audio.store.length = 3 → s.audio.priming = true →
    t = endCause .audioUnlocked { s with audio := { joined s.audio.store with priming := false } }) ∧
  (s.audio.store.length = 8 → s.audio.priming = false → changesOnly [.audio, .control] s t ∧
    t.control = (startCause .audioSlip s).control ∧
    t.audio = { joined s.audio.store.tail with slipTimer := true, blocks := slipMarked s.audio })

/-- The sample period has brought its frame to the audio unit `a`: a MASTER takes the slots of the bits `received`, the upper 24 of each
32, and drives the link; a FOLLOWER takes a frame of zeros marked ZERO in SEEK and while priming, the head of the store, or on a slip the
last drained frame marked REPEAT with the slip timer running (R144, R145, R150, R151, R152). -/
def periodTaken (base : Nat) (received : BitVec 128) (a b : Audio) : Prop :=
  let only := fun x : Audio => b = { x with
    meters := b.meters, windowCount := b.windowCount, blocks := b.blocks, current := b.current, lines := b.lines }
  (a.role = .master → a.state = .locked → only { a with driving := true } ∧ frameTaken base
    ⟨received.extractLsb' 104 24, received.extractLsb' 72 24, received.extractLsb' 40 24, received.extractLsb' 8 24⟩
    false false a b) ∧
  (a.role = .follower →
    (a.state = .seek ∨ ((a.state = .locked ∨ a.state = .holdover) ∧ a.priming = true) →
      only { a with driving := false } ∧ frameTaken base ⟨0, 0, 0, 0⟩ true false a b) ∧
    (∀ f rest, (a.state = .locked ∨ a.state = .holdover) → a.priming = false → a.store = f :: rest →
      only { a with driving := false, store := rest, lastDrained := f.frame } ∧ frameTaken base f.frame false f.repeated a b) ∧
    (storeSlips a →
      only { a with driving := false, slipTimer := true } ∧ frameTaken base a.lastDrained false true a b))

end Sys2Proof
end

