-- ==== Sys2Proof/Certificates/Slice0/Obligations.lean ====
section
/-! DEFINITION. The obligations: what the commands and steps of the OB-470 do, stated from the numbered rules of spec/. -/

open Sys2Proof Sys2Proof.Machine

/-! ### The queue, reset, and the entries of commands -/

/-- A step takes the command at the front of the queue and runs it on the state with the queue's rest. The queue `pending` is the
model's own way to hand over commands (log 1). -/
def Obligations.StepRunsTheFrontCommand : Prop :=
  ∀ (c : Instr) (rest : List Instr) (s : State), step { s with pending := c :: rest } = exec c { s with pending := rest }

/-- The values after a hard reset that the chapters state, block by block (R21, R43, R68, R85, R104, R120, R142, R162, R186, R204). A block
is equal to itself with the named fields at the stated values; the fields that are not named have values that the chapters do not give
(log 6), or take theirs at the release (R86, R137). -/
def Obligations.ResetHoldsTheStatedValues : Prop :=
  let r := State.reset
  let timer : TimerSetting := ⟨128, 65535⟩
  let axis : Axis := ⟨.off, 0, 0, 0, 0, 0, false⟩
  r.path = { r.path with regions := Vector.replicate 8 none, hostGrants := 0, producerCopy := 0, consumerCopy := 0 } ∧
  r.tap = { r.tap with
    cursor := 0, floor := 0, ship := 0, entries := [], held := none, discontinuity := false
    latePatches := 0, gaps := 0, indexPartials := 0, indexStales := 0 } ∧
  r.clip = { r.clip with
    state := .idle, mode := .singleA, chunkMax := 262144, chunkMin := 65536, gripRec := false, lastClip := 0, clipNumber := 0
    chunkSeq := 0, index := [], pages := [], audioDiscontinuity := false, shipPtr := none, readReq := none } ∧
  (∀ slot, r.card slot = { r.card slot with
    state := .absent, identified := false, auCount := 0, serial := 0, cardProtect := false, chain := .none, nextGroup := 0, group := []
    groupIndex := 0, linkRun := 0, fetchReq := none, au := none, pageIndex := 0, lookahead := .unresolved, erase := none
    lastContinue := none, request := none, sleepOrigin := .none, badAus := 0, phase := .idle, statusOut := false }) ∧
  r.motion = { r.motion with
    x := axis, y := axis, lastYaw := 0, lastPitch := 0, failures := 0, sampling := false, reading := false
    kSteady := 10, kPan := 5, panThreshold := 2560, panEnter := 64, panExit := 256, focal := Vector.replicate 33 16 } ∧
  r.view = ⟨[], 0, 0⟩ ∧
  r.zoom = { r.zoom with
    servo := .unhomed, homed := false, configured := false, pos := 0, level := 0, dir := .wide, running := false, stopRequest := false
    stored := timer, active := timer, step := false, enable := false, hostDemand := 0, move := none, override := false
    homingSteps := 0, encoder := 0, speeds := Vector.replicate 16 ⟨timer, 0⟩, seg := 16, e := 1, tolerance := 4
    encFilter := { r.zoom.encFilter with run := 0 }, homeFilter := { r.zoom.homeFilter with run := 0 } } ∧
  r.audio = { r.audio with
    state := .off, role := .follower, enables := 0, bitCount := 0, syncRun := 0, missCount := 0, everLocked := false
    lastArrived := ⟨0, 0, 0, 0⟩, lastDrained := ⟨0, 0, 0, 0⟩, store := [], slipTimer := false, driving := false, blocks := []
    nextBlock := 0, lines := [], meters := Vector.replicate 4 ⟨0, 0, 0, 0⟩ } ∧
  r.acc = { r.acc with
    link := .off, startWait := none, stopWait := none, periodMs := 4, q := 0, buffers := Vector.replicate 16 .unconfigured
    filter := ⟨false, 0, 0, false, 0, 0⟩, queue := [], errors := 0, line := .released } ∧
  r.control = { r.control with
    consumer := 0, effectiveProducer := 0, reportProducer := 0, published := 0, phase := .idle, readReq := none, writes := []
    pendingNotices := [], conditions := Vector.replicate 14 .clear, noticeMask := 0, writeCount := 0, rewrite := false } ∧
  (∀ c, condState r c = .clear ∧ causePresent r c = false) ∧ noticeAsserted r = false

/-- RESET_N_ASSERT and RESET_N_RELEASE (R21, R43, R68, R85, R86, R104, R120, R137, R142, R162, R186, R204). The values of State.reset
that the chapters do not give, and the card inputs that are kept, are the model's (log 6); so are the start of a run by the release
(log 3) and the completions that are ignored (log 15). -/
def Obligations.ResetEdgesActOnEveryBlock : Prop :=
  (∀ s : State, running s → ∃ t, exec .resetNAssert s = .next t ∧
    t.path = { s.path with
      resetLow := true, regions := Vector.replicate 8 none, hostGrants := 0, producerCopy := 0, consumerCopy := 0
      queue := s.path.queue.map fun e => { e with progress := if e.progress = .held then .waiting else e.progress }
      inFlight := s.path.inFlight.map fun i =>
        match i.dest with
        | .host n => ⟨i.txn, .host n⟩
        | _ => ⟨i.txn, .ignored⟩ } ∧
    t.tap = State.reset.tap ∧ t.clip = State.reset.clip ∧ t.motion = State.reset.motion ∧ t.view = State.reset.view ∧
    t.zoom = State.reset.zoom ∧ t.audio = State.reset.audio ∧ t.acc = State.reset.acc ∧ t.control = State.reset.control ∧
    (∀ slot, t.card slot =
      { State.reset.card slot with detect := (s.card slot).detect, protectInput := (s.card slot).protectInput }) ∧
    t.now = s.now ∧ t.pending = s.pending) ∧
  (∀ (memtop : BitVec 3) (enc home : Bool) (s : State), s.path.resetLow = true → s.control.writes = [] →
    ∃ t l0 l1 l2 l3 size,
      exec (.resetNRelease memtop enc home) s = .next t ∧
      [134217728, 268435456, 536870912, 1073741824, 2147483648, 4294967296, 4294967296, 4294967296][memtop.toNat]? = some size ∧
      t.path = { s.path with resetLow := false, memSize := size } ∧
      t.control = { s.control with
        statusTimer := true, writeCount := s.control.writeCount + 1
        writes := [consumerWrite t 0,
          ⟨size - 4096 + 0xE08, [(0, true), (0, true), (0, true), (0, true), (0, false), (0, false), (0, false), (0, false)],
            .producerWord 0⟩,
          ⟨size - 4096 + 0xC00, l0, .statusLine⟩, ⟨size - 4096 + 0xC80, l1, .statusLine⟩,
          ⟨size - 4096 + 0xD00, l2, .statusLine⟩, ⟨size - 4096 + 0xD80, l3, .statusLine⟩] } ∧
      t.zoom = { s.zoom with encFilter := ⟨enc, 0, enc⟩, homeFilter := ⟨home, 0, home⟩ } ∧
      (∀ slot, t.card slot = { s.card slot with settling := (s.card slot).detect }) ∧
      changesOnly [.path, .control, .zoom, .card .a, .card .b] s t)

/-- An entry written for a host command is read back as that command, with every argument at every value of its field; bytes 5 to 7
of the entry play no part (R190, R206). -/
def Obligations.EntryDecodesToItsCommand : Prop :=
  ∀ (c : Instr) (e : List Byte) (b5 b6 b7 : Byte), c.wellFormed = true → encodeEntry c = some e →
    e.length = 64 ∧ decodeEntry e = c ∧ decodeEntry (e.take 5 ++ [b5, b6, b7] ++ e.drop 8) = c

/-- UNKNOWN_COMMAND: result UNKNOWN, no effect (R190). -/
def Obligations.UnlistedCodeIsUnknown : Prop :=
  ∀ (h : EntryHead) (code : Word16) (s : State), entryReturns s → code ∉ listedCodes →
    completesWith (.unknownCommand h code) s .unknown (afterReturn s)

/-! ### The memory path -/

/-- HOST_TRANSACTION_TAKE of plain traffic, and of a port that cannot take (R70, R73, R77 to R79, R85; the fault on a transaction outside
the form of the ports is the model's, log 5). -/
def Obligations.TakeForwardsPlainTraffic : Prop :=
  (∀ (x : Transaction) (s : State), x.wellFormed = true → s.path.queue.length < 8 →
    (∀ e ∈ s.path.queue, e.progress ≠ .held) →
    (s.path.resetLow = true ∨
      (∃ a n, x = .read a n ∧ ∀ r, regionAt s a = some r → ∀ g, r.kind ≠ .aliasView g) ∨
      (∃ a lanes, x = .write a lanes ∧ regionAt s a = none ∧
        (a < controlPage s + 0x400 ∨ controlPage s + 0xE80 ≤ a))) →
    ∃ t, exec (.hostTransactionTake x) s = .next t ∧ changesOnly [.path] s t ∧
      t.path = { s.path with
        queue := s.path.queue ++ [⟨s.path.nextSerial, x, [⟨x, 0, x.len⟩], 0, 0, .waiting, [], false⟩]
        nextSerial := s.path.nextSerial + 1 }) ∧
  (∀ (x : Transaction) (s : State),
    (x.wellFormed = true → (8 ≤ s.path.queue.length ∨ ∃ e ∈ s.path.queue, e.progress = .held) →
      exec (.hostTransactionTake x) s = .next s) ∧
    (x.wellFormed = false → exec (.hostTransactionTake x) s = .fault .malformedOperand))

/-- HOST_TRANSACTION_TAKE of a write into an area or a word of the part (R71, R77, R78, R117, R188). -/
def Obligations.TakeGuardsThePartsAreas : Prop :=
  (∀ (a : Nat) (lanes : List LaneByte) (s : State), (Transaction.write a lanes).wellFormed = true → running s →
    s.path.queue.length < 8 → (∀ e ∈ s.path.queue, e.progress ≠ .held) →
    ∃ u : State, changesOnly [.path] s u ∧
      u.path = { s.path with
        queue := s.path.queue ++ [⟨s.path.nextSerial, .write a lanes, [], 0, 0, .done, [], false⟩]
        nextSerial := s.path.nextSerial + 1 } ∧
      ((∃ r, regionAt s a = some r ∧ r.kind = .audio) → exec (.hostTransactionTake (.write a lanes)) s = .next u) ∧
      (regionAt s a = none ∧ controlPage s + 0x400 ≤ a ∧ a < controlPage s + 0xE00 ∧ a < s.path.memSize →
        exec (.hostTransactionTake (.write a lanes)) s = .next u) ∧
      (∀ r g, regionAt s a = some r → r.kind = .aliasView g →
        exec (.hostTransactionTake (.write a lanes)) s = .next (tapEvent .aliasWrite (a - r.base) 0 u))) ∧
  (∀ (a : Nat) (lanes : List LaneByte) (s : State), (Transaction.write a lanes).wellFormed = true → running s →
    s.path.queue.length < 8 → (∀ e ∈ s.path.queue, e.progress ≠ .held) → regionAt s a = none → 4096 ≤ s.path.memSize →
    controlPage s + 0xE00 ≤ a → a < controlPage s + 0xE80 →
    ∃ t left e, exec (.hostTransactionTake (.write a lanes)) s = .next t ∧ changesOnly [.path] s t ∧
      t.path = { s.path with queue := s.path.queue ++ [e], nextSerial := s.path.nextSerial + 1 } ∧
      left.length = lanes.length ∧
      (∀ i l, lanes[i]? = some l → left[i]? = some (l.1,
        l.2 && !(controlPage s + 0xE04 ≤ a + i && a + i < controlPage s + 0xE0C))) ∧
      ((∃ l ∈ left, l.2 = true) →
        e = ⟨s.path.nextSerial, .write a lanes, [⟨.write a left, 0, lanes.length⟩], 0, 0, .waiting, [], true⟩) ∧
      ((∀ l ∈ left, l.2 = false) → e = ⟨s.path.nextSerial, .write a lanes, [], 0, 0, .done, [], false⟩))

/-- DOWNSTREAM_GRANT: rank 1, which is the next transaction of the oldest WAITING entry (R70, R81), the fairness cap (R82, R83), and
the wait of an internal read for the host writes taken before its presentation (R84): which they are, when there is an internal request,
and, for an entry read that waits for one write, the grant of the write and then of the read. -/
def Obligations.GrantsFollowTheFairnessCap : Prop :=
  ∀ s : State, running s →
    (∀ pre e post, s.path.queue = pre ++ e :: post → (∀ q ∈ pre, q.progress ≠ .waiting) → e.progress = .waiting →
      hostRequest s = (e.pieces[e.issued]?).map fun p => (e, p)) ∧
    ((∀ e ∈ s.path.queue, e.progress ≠ .waiting) → hostRequest s = none) ∧
    (∀ e p, hostRequest s = some (e, p) → e.snooped = false →
      (internalRequest s = none ∨ s.path.hostGrants < 8) →
      ∃ t, exec .downstreamGrant s = .next t ∧ changesOnly [.path] s t ∧ t.path = hostGranted e p s) ∧
    (∀ r, internalRequest s = some r → (hostRequest s = none ∨ 8 ≤ s.path.hostGrants) →
      exec .downstreamGrant s = .next (grantInternal r { s with path := { s.path with hostGrants := 0 } })) ∧
    (∀ n, n ∈ unissuedWrites s ↔
      ∃ e ∈ s.path.queue, e.serial = n ∧ e.progress = .waiting ∧ ∃ a lanes, e.txn = .write a lanes) ∧
    (∀ q, readEligible s q = true ↔ ∀ n ∈ q.after, n ∉ unissuedWrites s) ∧
    (internalRequest s = none ↔ s.audio.lines = [] ∧ s.control.writes = [] ∧
      (∀ slot q, (s.card slot).fetchReq = some q → readEligible s q = false) ∧
      (∀ q, s.clip.readReq = some q → readEligible s q = false ∨ (openPage s.clip = none ∧ 8 ≤ s.clip.pages.length)) ∧
      (∀ q, s.control.readReq = some q → readEligible s q = false)) ∧
    (∀ pre e post p a lanes q, s.path.queue = pre ++ e :: post → (∀ x ∈ pre, x.progress ≠ .waiting) →
      e.progress = .waiting → e.txn = .write a lanes → e.snooped = false → e.pieces = [p] → e.issued = 0 →
      s.control.phase = .entry → s.control.readReq = some q → e.serial ∈ q.after → s.control.writes = [] → s.audio.lines = [] →
      (∀ slot, (s.card slot).fetchReq = none) → s.clip.readReq = none →
      ∃ t, exec .downstreamGrant s = .next t ∧ changesOnly [.path] s t ∧
        t.path = hostGranted e p s ∧ t.path.hostGrants = 0 ∧
        ((∀ x ∈ pre ++ post, x.serial ≠ e.serial ∧ (x.progress = .waiting → x.serial ∉ q.after)) →
          internalRequest t = some .commandReads ∧
          ((∀ x ∈ post, x.progress ≠ .waiting) → ∃ u, exec .downstreamGrant t = .next u ∧ changesOnly [.path, .control] t u ∧
            u.path.inFlight = t.path.inFlight ++ [⟨.read q.addr q.len, .commandEntry⟩] ∧
            u.control = { s.control with readReq := none })))

/-- DOWNSTREAM_GRANT: ranks 2 to 6, each requester's transaction, where its completion goes, and what the requester presents next (R33,
R34, R72, R81, R84, R115, R154, R190, R194, R201). That the next read is presented at the grant, with the host writes then WAITING, and
that the status block is written again when no line stands behind the presented write, is the model's reading (log 16); the completions
that are ignored are its choice (log 15). -/
def Obligations.InternalGrantsIssueTheRequestersNext : Prop :=
  ∀ s : State, running s → hostRequest s = none →
    let issues := fun (x : Transaction) (d : Destination) (t : State) =>
      t.path = { s.path with hostGrants := 0, inFlight := s.path.inFlight ++ [⟨x, d⟩] }
    let noFetch := ∀ slot q, (s.card slot).fetchReq = some q → readEligible s q = false
    let noPayload := ∀ r, s.clip.readReq = some r → readEligible s r = false ∨ assemblerStalled s.clip = true
    (∀ l rest, s.audio.lines = l :: rest → ∃ t, exec .downstreamGrant s = .next t ∧ changesOnly [.path, .audio] s t ∧
      issues (.write l.addr (l.bytes.map fun b => (b, true))) .ignored t ∧
      t.audio = { s.audio with
        lines := rest
        blocks := if l.line + 1 = 96 then s.audio.blocks.map (fun
            | .filling i => if i.number = l.number then .done i else .filling i
            | r => r)
          else s.audio.blocks }) ∧
    (s.audio.lines = [] → ∀ slot r, (s.card slot).fetchReq = some r → readEligible s r = true →
      (slot = .b → ∀ q, s.cardA.fetchReq = some q → readEligible s q = false) →
      ∃ t, exec .downstreamGrant s = .next t ∧ changesOnly [.path, .card slot] s t ∧
        issues (.read r.addr r.len) (.card slot) t ∧ t.card slot = { s.card slot with fetchReq := none }) ∧
    (s.audio.lines = [] → noFetch → ∀ r, s.clip.readReq = some r → readEligible s r = true → assemblerStalled s.clip = false →
      (∀ next back last q, s.clip.run = .video next back last → streamRegion s = some q → next < last →
        let place := fun p : Nat => q.base + p % q.size
        let count := fun p : Nat => min (min (128 - place p % 128) (q.size - p % q.size)) (last - p)
        let len := fun p : Nat => (place p + count p + 7) / 8 * 8 - place p / 8 * 8
        ∃ t, exec .downstreamGrant s = .next t ∧ changesOnly [.path, .clip] s t ∧
          issues (.read (place next / 8 * 8) (len next)) (.video next (next + count next) (place next % 8)) t ∧
          t.clip = { s.clip with
            run := .video (next + count next) back last
            readReq := if next + count next < last
              then some ⟨place (next + count next) / 8 * 8, len (next + count next), unissuedWrites s⟩ else none }) ∧
      (∀ slot base next back, s.clip.run = .audio slot base next back → next < 96 →
        ∃ t, exec .downstreamGrant s = .next t ∧ changesOnly [.path, .clip] s t ∧
          issues (.read (base + 128 * next) 128) .audioPayload t ∧
          t.clip = { s.clip with
            run := .audio slot base (next + 1) back
            readReq := if next + 1 < 96 then some ⟨base + 128 * (next + 1), 128, unissuedWrites s⟩ else none })) ∧
    (s.audio.lines = [] → noFetch → noPayload →
      (∀ r, s.control.readReq = some r → readEligible s r = true →
        ∃ t, exec .downstreamGrant s = .next t ∧ changesOnly [.path, .control] s t ∧
          issues (.read r.addr r.len) (match s.control.phase with
            | .entry => .commandEntry
            | .focal _ => .focalTable
            | .zoom _ _ _ _ => .speedTable
            | .idle => .ignored) t ∧
          t.control = { s.control with readReq := none }) ∧
      (∀ w rest, (∀ r, s.control.readReq = some r → readEligible s r = false) → s.control.writes = w :: rest →
        ∃ t, exec .downstreamGrant s = .next t ∧ changesOnly [.path, .control] s t ∧
          issues (.write w.addr w.lanes) (match w.tag with
            | .producerWord v => .producerWord v
            | _ => .ignored) t ∧
          (s.control.rewrite = false ∨ (∃ x ∈ rest.drop 1, x.tag = .statusLine) → t.control = { s.control with writes := rest }) ∧
          (s.control.rewrite = true → (∀ x ∈ rest.drop 1, x.tag ≠ .statusLine) →
            ∃ block, block.length = 512 ∧ field block 0 4 = (s.control.writeCount + 1).toNat ∧
              t.control = { s.control with
                rewrite := false, writeCount := s.control.writeCount + 1
                writes := rest ++ (List.range 4).map fun i =>
                  ⟨controlPage s + 0xC00 + 128 * i, ((block.drop (128 * i)).take 128).map fun b => (b, true), .statusLine⟩ })) ∧
      ((∀ r, s.control.readReq = some r → readEligible s r = false) → s.control.writes = [] →
        exec .downstreamGrant s = .next s))

/-- HOST_DOWNSTREAM_COMPLETION (R71, R72, R80). -/
def Obligations.ReadDataReachTheirPlaces : Prop :=
  ∀ (s : State) (x : Transaction) (data : List Byte) (e : QueueEntry) (p : Piece) (pre post : List QueueEntry),
    (s.path.inFlight.dropWhile fun i => i.dest == .ignored).head? = some ⟨x, .host e.serial⟩ →
    s.path.queue = pre ++ e :: post → (∀ f ∈ pre ++ post, f.serial ≠ e.serial) → e.pieces[e.returned]? = some p → p.txn = x →
    ((∃ a n, x = .read a n ∧ data.length = n) ∨ (∃ a lanes, x = .write a lanes ∧ data = [])) →
    ∃ t, exec (.hostDownstreamCompletion data) s = .next t ∧ changesOnly [.path] s t ∧
      t.path = { s.path with
        inFlight := (s.path.inFlight.dropWhile fun i => i.dest == .ignored).tail
        queue := pre ++ { e with
          returned := e.returned + 1
          data := e.data ++ (data.drop p.skip).take p.count
          progress := if e.returned + 1 = e.pieces.length then .done else e.progress } :: post }

/-- UPSTREAM_COMPLETION (R71). -/
def Obligations.HostCompletionsKeepTheirOrder : Prop :=
  ∀ (s : State) (e : QueueEntry) (rest : List QueueEntry), s.path.queue = e :: rest →
    (e.progress = .done → ∃ t, exec .upstreamCompletion s = .next t ∧ changesOnly [.path] s t ∧
      t.path = { s.path with queue := rest, upstreamOut := some e.data }) ∧
    (e.progress ≠ .done → exec .upstreamCompletion s = .next s)

/-- COMMAND_PRODUCER_WRITE, REPORT_CONSUMER_WRITE and REPORT_PRODUCER_ACK (R78, R175, R176, R189, R190, R194, R196, R197). That a write of
both words hands on the producer word first, by the row of that word, is the model's reading (log 4), and that a queue message is stamped
at its writing its choice (log 35). -/
def Obligations.IndexWordsAreHandedOver : Prop :=
  (∀ (s : State) (e : QueueEntry) (p : Piece) (a : Nat) (lanes : List LaneByte) (v : Word16), running s →
    hostRequest s = some (e, p) → p.txn = .write a lanes → e.snooped = true → (internalRequest s = none ∨ s.path.hostGrants < 8) →
    wordTaken s.path.producerCopy a lanes (controlPage s + 0xE00) v →
    ∃ u t, exec .commandProducerWrite s = .next t ∧
      (wordUntouched a lanes (controlPage s + 0xE0C) → t = u) ∧
      (∀ w, wordTaken s.path.consumerCopy a lanes (controlPage s + 0xE0C) w → consumerTaken w u t) ∧
      changesOnly [.path, .control] s u ∧ u.path = { hostGranted e p s with producerCopy := v } ∧
      u.control.effectiveProducer =
        (if (v - s.control.consumer).toNat ≤ 16 then v else s.control.consumer + 16) ∧
      causePresent u .cmdRingOverrun = !((v - s.control.consumer).toNat ≤ 16) ∧
      u.control = { (if (v - s.control.consumer).toNat ≤ 16 then endCause .cmdRingOverrun s else startCause .cmdRingOverrun s).control with
        effectiveProducer := u.control.effectiveProducer, phase := u.control.phase, readReq := u.control.readReq } ∧
      (s.control.phase = .idle →
        (u.control.effectiveProducer = s.control.consumer → u.control.phase = .idle ∧ u.control.readReq = s.control.readReq) ∧
        (u.control.effectiveProducer ≠ s.control.consumer → u.control.phase = .entry ∧
          u.control.readReq = some ⟨controlPage s + 64 * (s.control.consumer.toNat % 16), 64, unissuedWrites u⟩)) ∧
      (s.control.phase ≠ .idle → u.control.phase = s.control.phase ∧ u.control.readReq = s.control.readReq)) ∧
  (∀ (s : State) (e : QueueEntry) (p : Piece) (a : Nat) (lanes : List LaneByte) (v : Word16), running s →
    hostRequest s = some (e, p) → p.txn = .write a lanes → e.snooped = true → (internalRequest s = none ∨ s.path.hostGrants < 8) →
    wordUntouched a lanes (controlPage s + 0xE00) → wordTaken s.path.consumerCopy a lanes (controlPage s + 0xE0C) v →
    ∃ u t, exec .reportConsumerWrite s = .next t ∧ changesOnly [.path] s u ∧
      u.path = hostGranted e p s ∧ consumerTaken v u t ∧
      t.path.inFlight = s.path.inFlight ++ [⟨p.txn, .host e.serial⟩] ∧
      t.path.consumerCopy = (if (s.control.reportProducer - v).toNat ≤ 64 then v else s.control.reportProducer) ∧
      unread t ≤ 64 ∧ (unread t = 64 ∨ (t.control.pendingNotices = [] ∧ t.acc.queue = [])) ∧
      (s.control.pendingNotices = [] → s.acc.queue = [] → changesOnly [.path] s t)) ∧
  (∀ (s : State) (x : Transaction) (v : Word16), returns s ⟨x, .producerWord v⟩ →
    ∃ t, exec .reportProducerAck s = .next t ∧ changesOnly [.control] (afterReturn s) t ∧
      t.control = { s.control with published := v } ∧ (noticeAsserted t = true ↔ v ≠ s.path.consumerCopy))

/-- STATUS_TIMER_EXPIRY and the snapshot (R201, R202, R208). -/
def Obligations.StatusBlockShowsTheState : Prop :=
  ∀ s : State, running s → s.control.statusTimer = true →
    ((∀ w ∈ s.control.writes, w.tag ≠ .statusLine) →
      ∃ t block, exec .statusTimerExpiry s = .next t ∧ changesOnly [.control] s t ∧ block.length = 512 ∧
        t.control = { s.control with
          writeCount := s.control.writeCount + 1
          writes := s.control.writes ++ (List.range 4).map fun i =>
            ⟨controlPage s + 0xC00 + 128 * i, ((block.drop (128 * i)).take 128).map fun b => (b, true), .statusLine⟩ } ∧
        field block 0 4 = (s.control.writeCount + 1).toNat ∧ field block 508 4 = (s.control.writeCount + 1).toNat ∧
        field block 4 4 = s.view.frameCount.toNat ∧
        (∀ k f, s.view.slots[k]? = some (.filling f) → (∀ j g, j < k → s.view.slots[j]? ≠ some (.filling g)) →
          field block 8 1 = k % 256 ∧ field block 9 1 = f.axisX.code.toNat ∧ field block 10 1 = f.axisY.code.toNat ∧
          field block 12 4 = f.frame.toNat ∧ field block 16 2 = (f.shiftX % 65536).toNat ∧
          field block 18 2 = (f.shiftY % 65536).toNat ∧ field block 20 2 = f.zoomPos % 65536) ∧
        ((∀ f, SlotRecord.filling f ∉ s.view.slots) → field block 8 1 = 0xFF ∧ field block 9 15 = 0) ∧
        field block 24 1 = s.clip.state.code.toNat ∧ field block 28 2 = s.clip.clipNumber.toNat ∧
        field block 25 1 = s.clip.pages.length % 256 ∧
        (∀ at_ slot, (at_, slot) ∈ [(26, CardSlot.a), (27, .b)] → field block at_ 1 = (s.clip.pages.filter fun p =>
          p.sealed && p.target.has slot && !p.written.has slot && !p.failed.has slot).length % 256) ∧
        field block 32 8 = s.tap.cursor % 2 ^ 64 ∧ field block 40 8 = s.tap.floor % 2 ^ 64 ∧
        field block 48 8 = s.tap.ship % 2 ^ 64 ∧
        (∀ at_ c, (at_, c) ∈ [(56, s.cardA), (64, s.cardB)] →
          field block at_ 1 = c.state.code.toNat ∧ field block (at_ + 1) 1 = c.chain.code.toNat ∧
          field block (at_ + 2) 2 = (c.au.getD 0xFFFF).toNat ∧ field block (at_ + 4) 2 = c.pageIndex % 65536 ∧
          field block (at_ + 6) 2 = 0) ∧
        field block 72 2 = s.zoom.pos % 65536 ∧ field block 74 1 = s.zoom.level % 256 ∧ field block 75 1 = s.zoom.dir.code.toNat ∧
        field block 76 1 = s.zoom.servo.code.toNat ∧ field block 77 3 = 0 ∧
        (∀ at_ x, (at_, x) ∈ [(80, s.motion.x), (88, s.motion.y)] →
          field block at_ 1 = x.state.code.toNat ∧ field block (at_ + 1) 1 = 0 ∧
          field block (at_ + 2) 2 = (x.shift % 65536).toNat ∧ field block (at_ + 4) 4 = (x.angle % 4294967296).toNat) ∧
        field block 96 1 = s.audio.state.code.toNat ∧ field block 97 1 = s.audio.role.code.toNat ∧
        (∀ c, s.audio.current = some c → field block 100 4 = c.number.toNat ∧ field block 104 4 = c.stamp.toNat) ∧
        (s.audio.current = none → field block 100 8 = 0) ∧
        (∀ i : Fin 4, field block (108 + i.val) 1 = (s.audio.meters[i]).segment % 256 ∧
          field block (112 + i.val) 1 = (s.audio.meters[i]).held % 256) ∧
        field block 116 1 = s.acc.link.code.toNat ∧
        field block 117 1 = (if s.acc.startWait = none then 0 else 1) + (if s.acc.stopWait = none then 0 else 2) ∧
        ∀ c : Condition, field block (128 + c.number.val) 1 = (condState s c).code.toNat) ∧
    ((∃ w ∈ s.control.writes.drop 1, w.tag = .statusLine) →
      exec .statusTimerExpiry s = .next { s with control := { s.control with rewrite := true } })

/-! ### Commands, notices and conditions -/

/-- The two causes' columns of the table of R198. -/
def Obligations.ConditionsMoveOnTheirCauses : Prop :=
  ∀ (c : Condition) (s : State),
    (condState s c = .active ∨ condState s c = .ackedActive → startCause c s = s) ∧
    (condState s c = .clear ∨ condState s c = .latched →
      ∃ u, changesOnly [.control] s u ∧ condState u c = .active ∧ (∀ d, d ≠ c → condState u d = condState s d) ∧
        u.control = { s.control with conditions := u.control.conditions } ∧
        startCause c s = (if s.control.noticeMask.getLsbD c.number.val then u else postNotice (.condition c) u)) ∧
    (changesOnly [.control] s (endCause c s) ∧ (∀ d, d ≠ c → condState (endCause c s) d = condState s d) ∧
      (endCause c s).control = { s.control with conditions := (endCause c s).control.conditions } ∧
      condState (endCause c s) c =
        match condState s c with
        | .active => .latched
        | .ackedActive => .clear
        | st => st)

/-- The posting of a notice, its 32 bytes by kind, and the counts that it carries (R10, R51, R117, R192 to R195, R198, R207). -/
def Obligations.PostedNoticeIsWrittenOrPends : Prop :=
  (∀ (n : Notice) (s : State),
    (unread s < 64 →
      ∃ (bytes : List Byte) (u : State), bytes.length = 32 ∧ byteAt bytes 0 = n.kind ∧ byteAt bytes 1 = n.source ∧
        field bytes 2 2 = s.control.reportProducer.toNat ∧ field bytes 4 4 = s.view.frameCount.toNat ∧
        n.kind = (noticeFields s 0 n).1 ∧ n.source = (noticeFields s 0 n).2.1 ∧
        bytes.drop 8 = ((noticeFields s 0 n).2.2 ++ List.replicate 24 (0 : Byte)).take 24 ∧
        changesOnly [.control] s u ∧
        u.control = { s.control with
          reportProducer := s.control.reportProducer + 1
          writes := s.control.writes ++
            [⟨controlPage s + 0x400 + 32 * (s.control.reportProducer.toNat % 64), bytes.map fun b => (b, true), .plain⟩,
             ⟨controlPage s + 0xE08,
              [((s.control.reportProducer + 1).extractLsb' 0 8, true), ((s.control.reportProducer + 1).extractLsb' 8 8, true),
                (0, true), (0, true), (0, false), (0, false), (0, false), (0, false)],
              .producerWord (s.control.reportProducer + 1)⟩] } ∧
        (postNotice n s).control = u.control ∧
        postNotice n s = (match n with
          | .tapEvent src _ _ => setTapCount u 0 src
          | .auBad slot _ => u.setCard slot { u.card slot with badAus := 0 }
          | _ => u)) ∧
    (64 ≤ unread s →
      ∃ p : StampedNotice, p.notice = n ∧ p.frame = s.view.frameCount ∧ changesOnly [.control] s (postNotice n s) ∧
        ((∀ q ∈ s.control.pendingNotices, q.notice.kind ≠ n.kind ∨ q.notice.source ≠ n.source) →
          p.folds = 0 ∧ (postNotice n s).control = { s.control with pendingNotices := s.control.pendingNotices ++ [p] }) ∧
        (∀ pre q post, s.control.pendingNotices = pre ++ q :: post → q.notice.kind = n.kind → q.notice.source = n.source →
          (∀ x ∈ pre, x.notice.kind ≠ n.kind ∨ x.notice.source ≠ n.source) →
          p.folds = (match n with
            | .cmdDone _ _ => q.folds + 1
            | _ => 0) ∧
          (postNotice n s).control = { s.control with pendingNotices := pre ++ p :: post }))) ∧
  (∀ (k : Kept) (r : Result) (frame : Word32) (folds : Nat) (s : State), ∃ bytes : List Byte,
    (writeNotice ⟨.cmdDone k r, frame, folds⟩ s).control.writes.take (s.control.writes.length + 1) = s.control.writes ++
      [⟨controlPage s + 0x400 + 32 * (s.control.reportProducer.toNat % 64), bytes.map fun b => (b, true), .plain⟩] ∧
    bytes.length = 32 ∧ field bytes 4 4 = frame.toNat ∧ field bytes 13 1 = min folds 255) ∧
  (∀ (src : TapSource) (offset skipped : Nat) (s : State), ∃ u,
    tapEvent src offset skipped s = postNotice (.tapEvent src offset skipped) u ∧ changesOnly [.tap, .view] s u ∧
    (tapCount u src).toNat = min 65535 ((tapCount s src).toNat + 1) ∧ (∀ d, d ≠ src → tapCount u d = tapCount s d))

/-- ACK_CONDITIONS (R199). -/
def Obligations.AckConditionsMovesTheNamed : Prop :=
  ∀ (h : EntryHead) (set : Word16) (s : State), entryReturns s →
    ((set.getLsbD 14 = true ∨ set.getLsbD 15 = true) → completesWith (.ackConditions h set) s .badArg (afterReturn s)) ∧
    (set.getLsbD 14 = false → set.getLsbD 15 = false →
      ∃ u, completesWith (.ackConditions h set) s .ok u ∧ changesOnly [.control] (afterReturn s) u ∧
        u.control = { s.control with conditions := u.control.conditions } ∧
        ∀ c : Condition, condState u c =
          if set.getLsbD c.number.val then
            (match condState s c with
              | .active => .ackedActive
              | .ackedActive => .ackedActive
              | .latched => .clear
              | .clear => .clear)
          else condState s c)

/-- SET_NOTICE_MASK (R200). -/
def Obligations.SetNoticeMaskReplacesTheMask : Prop :=
  (∀ (h : EntryHead) (set : Word16) (s : State), entryReturns s →
    ((set.getLsbD 14 = true ∨ set.getLsbD 15 = true) → completesWith (.setNoticeMask h set) s .badArg (afterReturn s)) ∧
    (set.getLsbD 14 = false → set.getLsbD 15 = false →
      completesWith (.setNoticeMask h set) s .ok
        { afterReturn s with control := { s.control with noticeMask := set } })) ∧
  (∀ (c : Condition) (s : State), s.control.noticeMask.getLsbD c.number.val = true →
    changesOnly [.control] s (startCause c s) ∧
    (startCause c s).control = { s.control with conditions := (startCause c s).control.conditions } ∧
    (condState s c = .clear ∨ condState s c = .latched → condState (startCause c s) c = .active)) ∧
  State.reset.control.noticeMask = 0

/-! ### Regions -/

/-- SET_REGION: each kind is entered or refused (R1, R2, R74, R96, R106, R107, R153, R202). -/
def Obligations.SetRegionEntersOrRefuses : Prop :=
  (∀ (h : EntryHead) (record : Byte) (base size : Word32) (s : State), entryReturns s →
    (∀ spec : RegionSpec, spec.wellFormed = true → ¬regionFits s record.toNat base.toNat size.toNat →
      completesWith (.setRegion h record base size spec) s .badArg (afterReturn s)) ∧
    (∀ kind : Byte, (RegionSpec.unknown kind).wellFormed = true →
      completesWith (.setRegion h record base size (.unknown kind)) s .badArg (afterReturn s)) ∧
    (∀ (p l : Word32) (hold : Word16) (late limit : Nat),
      late = (if l = 0xFFFFFFFF then 65536 else l.toNat) → limit = (if hold = 0xFFFF then 63 else hold.toNat) →
      ((¬(1048576 ≤ size.toNat ∧ size.toNat ≤ 268435456 ∧ p.toNat + 65536 ≤ size.toNat ∧ late ≤ 1048576 ∧ limit ≤ 255) ∨
          streamRegion s ≠ none) →
        completesWith (.setRegion h record base size (.stream p l hold)) s .badArg (afterReturn s)) ∧
      (1048576 ≤ size.toNat ∧ size.toNat ≤ 268435456 ∧ p.toNat + 65536 ≤ size.toNat ∧ late ≤ 1048576 ∧ limit ≤ 255 →
        regionFits s record.toNat base.toNat size.toNat → streamRegion s = none →
        ∃ u, completesWith (.setRegion h record base size (.stream p l hold)) s .ok u ∧
          changesOnly [.path, .tap] (afterReturn s) u ∧ u.tap = State.reset.tap ∧
          u.path = { (afterReturn s).path with
            regions := withRecord s record.toNat (some ⟨base.toNat, size.toNat, .stream p.toNat late limit⟩) })) ∧
    (indexRegion s ≠ none → completesWith (.setRegion h record base size .index) s .badArg (afterReturn s)) ∧
    (∀ (n bpp : Byte) (w hh : Word16) (stride : Word32),
      ¬(2 ≤ n.toNat ∧ n.toNat ≤ 4 ∧ (bpp.toNat = 1 ∨ bpp.toNat = 2 ∨ bpp.toNat = 4) ∧ 2 ≤ w.toNat ∧ w.toNat ≤ 16384 ∧
        2 ≤ hh.toNat ∧ hh.toNat ≤ 16384 ∧ 128 ≤ stride.toNat ∧ stride.toNat ≤ 65536 ∧ stride.toNat % 128 = 0 ∧
        w.toNat * bpp.toNat ≤ stride.toNat ∧ size.toNat = n.toNat * hh.toNat * stride.toNat) ∨ frameRegion s ≠ none →
      completesWith (.setRegion h record base size (.frame n bpp w hh stride)) s .badArg (afterReturn s)) ∧
    (¬(size.toNat % 12288 = 0 ∧ 12288 ≤ size.toNat ∧ size.toNat ≤ 512 * 12288) ∨ audioRegion s ≠ none →
      completesWith (.setRegion h record base size .audio) s .badArg (afterReturn s)) ∧
    (∀ (frame : Byte) (w hh : Word16), frameRegion s = none ∨ aliasRegion s ≠ none →
      completesWith (.setRegion h record base size (.aliasView frame w hh)) s .badArg (afterReturn s)) ∧
    (regionFits s record.toNat base.toNat size.toNat → indexRegion s = none →
      ∃ u, completesWith (.setRegion h record base size .index) s .ok u ∧ changesOnly [.path] (afterReturn s) u ∧
        u.path = { (afterReturn s).path with
          regions := withRecord s record.toNat (some ⟨base.toNat, size.toNat, .index⟩) }) ∧
    (∀ (n bpp : Byte) (w hh : Word16) (stride : Word32),
      2 ≤ n.toNat ∧ n.toNat ≤ 4 ∧ (bpp.toNat = 1 ∨ bpp.toNat = 2 ∨ bpp.toNat = 4) ∧ 2 ≤ w.toNat ∧ w.toNat ≤ 16384 ∧
        2 ≤ hh.toNat ∧ hh.toNat ≤ 16384 ∧ 128 ≤ stride.toNat ∧ stride.toNat ≤ 65536 ∧ stride.toNat % 128 = 0 ∧
        w.toNat * bpp.toNat ≤ stride.toNat ∧ size.toNat = n.toNat * hh.toNat * stride.toNat →
      regionFits s record.toNat base.toNat size.toNat → frameRegion s = none →
      ∃ u, completesWith (.setRegion h record base size (.frame n bpp w hh stride)) s .ok u ∧
        changesOnly [.path, .view, .motion, .control] (afterReturn s) u ∧ shiftsZeroed s u ∧
        u.view = { s.view with slots := List.replicate n.toNat .empty } ∧
        u.control = { s.control with statusTimer := false } ∧
        u.path = { (afterReturn s).path with
          regions := withRecord s record.toNat
            (some ⟨base.toNat, size.toNat, .frame n.toNat bpp.toNat w.toNat hh.toNat stride.toNat⟩) }) ∧
    (size.toNat % 12288 = 0 → 12288 ≤ size.toNat → size.toNat ≤ 512 * 12288 →
      regionFits s record.toNat base.toNat size.toNat → audioRegion s = none →
      ∃ u, completesWith (.setRegion h record base size .audio) s .ok u ∧ changesOnly [.path, .audio] (afterReturn s) u ∧
        u.audio = { s.audio with blocks := List.replicate (size.toNat / 12288) .free } ∧
        u.path = { (afterReturn s).path with
          regions := withRecord s record.toNat (some ⟨base.toNat, size.toNat, .audio⟩) })) ∧
  (∀ (h : EntryHead) (record : Byte) (base size : Word32) (frame : Byte) (w hh : Word16) (s : State) (f : FrameRegion),
    entryReturns s → frameRegion s = some f →
    ((f.record ≠ frame.toNat ∨ w.toNat = 0 ∨ f.wIn < w.toNat ∨ (f.wIn - w.toNat) % 2 = 1 ∨ 2046 < f.wIn - w.toNat ∨ hh.toNat = 0 ∨
        f.hIn < hh.toNat ∨ (f.hIn - hh.toNat) % 2 = 1 ∨ 2046 < f.hIn - hh.toNat ∨
        size.toNat < f.slotCount * (hh.toNat * f.stride) ∨ f.slotCount * (hh.toNat * f.stride) + 4096 ≤ size.toNat ∨
        aliasRegion s ≠ none) →
      completesWith (.setRegion h record base size (.aliasView frame w hh)) s .badArg (afterReturn s)) ∧
    (f.record = frame.toNat → ∀ mx my, 1 ≤ w.toNat → w.toNat + 2 * mx = f.wIn → mx ≤ 1023 → 1 ≤ hh.toNat → hh.toNat + 2 * my = f.hIn →
      my ≤ 1023 → f.slotCount * (hh.toNat * f.stride) ≤ size.toNat → size.toNat < f.slotCount * (hh.toNat * f.stride) + 4096 →
      regionFits s record.toNat base.toNat size.toNat → aliasRegion s = none →
      ∃ u, completesWith (.setRegion h record base size (.aliasView frame w hh)) s .ok u ∧
        changesOnly [.path, .view, .motion] (afterReturn s) u ∧ shiftsZeroed s u ∧
        u.view = { s.view with slots := s.view.slots.map fun _ => .empty } ∧
        u.path = { (afterReturn s).path with
          regions := withRecord s record.toNat (some ⟨base.toNat, size.toNat, .aliasView
            ⟨f.record, w.toNat, hh.toNat, f.slotCount, f.bpp, f.stride, f.hIn * f.stride, f.base, mx, my, true⟩⟩) }))

/-- CLEAR_REGION (R2, R75, R108, R153, R160). Which lines wait on after AUDIO is cleared is the model's reading (log 34). -/
def Obligations.ClearRegionEmptiesOrRefuses : Prop :=
  ∀ (h : EntryHead) (record : Byte) (s : State), entryReturns s →
    (8 ≤ record.toNat → completesWith (.clearRegion h record) s .badArg (afterReturn s)) ∧
    (∀ hr : record.toNat < 8,
      (s.path.regions[record.toNat] = none → completesWith (.clearRegion h record) s .badArg (afterReturn s)) ∧
      (∀ base size k, s.path.regions[record.toNat] = some ⟨base, size, k⟩ →
        (s.clip.state ≠ .idle → ((∃ p l n, k = .stream p l n) ∨ (∃ n p w hh st, k = .frame n p w hh st) ∨ k = .audio) →
          completesWith (.clearRegion h record) s .badState (afterReturn s)) ∧
        (∀ p l n, k = .stream p l n → s.clip.state = .idle →
          ∃ u, completesWith (.clearRegion h record) s .ok u ∧ changesOnly [.path, .tap] (afterReturn s) u ∧
            u.path = { (afterReturn s).path with regions := withRecord s record.toNat none } ∧
            u.tap = { s.tap with cursor := 0, floor := 0, ship := 0, entries := [] }) ∧
        (k = .index → ∃ u, completesWith (.clearRegion h record) s .ok u ∧ changesOnly [.path] (afterReturn s) u ∧
            u.path = { (afterReturn s).path with regions := withRecord s record.toNat none }) ∧
        (∀ n p w hh st, k = .frame n p w hh st → s.clip.state = .idle →
          ∃ u, completesWith (.clearRegion h record) s .ok u ∧ changesOnly [.path, .view, .motion, .control] (afterReturn s) u ∧
            shiftsZeroed s u ∧ u.view = { s.view with slots := [] } ∧ u.control = { s.control with statusTimer := true } ∧
            margins u = (0, 0) ∧ u.path = { (afterReturn s).path with regions := u.path.regions } ∧
            ∀ i (hi : i < 8), u.path.regions[i] =
              if i = record.toNat then none
              else match s.path.regions[i] with
                | some ⟨b, z, .aliasView g⟩ => some ⟨b, z, .aliasView { g with bound := false }⟩
                | r => r) ∧
        (∀ g, k = .aliasView g → ∃ u v, completesWith (.clearRegion h record) s .ok u ∧
            changesOnly [.path, .view, .motion] (afterReturn s) v ∧ shiftsZeroed s v ∧
            v.view = { s.view with slots := s.view.slots.map fun _ => .empty } ∧
            v.path = { (afterReturn s).path with regions := withRecord s record.toNat none } ∧ u = endCause .aliasFault v) ∧
        (k = .audio → s.clip.state = .idle →
          ∃ u, completesWith (.clearRegion h record) s .ok u ∧ changesOnly [.path, .audio] (afterReturn s) u ∧
            u.path = { (afterReturn s).path with regions := withRecord s record.toNat none } ∧
            u.audio = { s.audio with blocks := [], current := none, lines := linesKept s.audio })))

/-- The lookup at take names at most one region or control page area (R73): the invariant that every step keeps. -/
def Obligations.RegionsStayDisjoint : Prop :=
  ∀ s t : State, regionsDisjoint s → step s = .next t → regionsDisjoint t

/-! ### Stream writes -/

/-- HOST_TRANSACTION_TAKE of a stream write outside a clip's assembly: classification and effect (R4, R6 to R10). -/
def Obligations.StreamWritesAreClassified : Prop :=
  ∀ (r : StreamRegion) (a : Nat) (lanes : List LaneByte) (s : State), portOpen s →
    (Transaction.write (r.base + a) lanes).wellFormed = true → streamRegion s = some r → 0 < r.size →
    regionAt s (r.base + a) = some ⟨r.base, r.size, .stream r.prerecordBytes r.lateWindow r.holdLimit⟩ → assembled s = false →
    let x := Transaction.write (r.base + a) lanes
    let n := lanes.length
    let b := behindPosition r s.tap.cursor a
    let d := (((a : Int) - s.tap.cursor) % r.size).toNat
    let span := if s.clip.state = .armed then r.size - 65536 else r.prerecordBytes
    let moved := fun (c : Nat) (t : State) =>
      t.tap.cursor = c ∧ t.tap.floor = max s.tap.floor (c - span) ∧ t.tap.ship = t.tap.floor ∧
      t.tap.entries = s.tap.entries.filter (fun e => t.tap.floor ≤ e.pos) ∧ t.tap.held = s.tap.held ∧
      t.tap.discontinuity = s.tap.discontinuity ∧ t.path = (joined x .waiting s).path ∧
      (∀ c : Condition, c ≠ .streamOverrun → condState t c = condState s c)
    (d = 0 → ∃ t, exec (.hostTransactionTake x) s = .next t ∧ changesOnly [.path, .tap, .control] s t ∧ moved (s.tap.cursor + n) t ∧
      t.control.writes = s.control.writes) ∧
    (d ≠ 0 → (s.tap.floor : Int) ≤ b → b + n ≤ s.tap.cursor → exec (.hostTransactionTake x) s = .next (joined x .waiting s)) ∧
    (d ≠ 0 → (s.tap.floor : Int) ≤ b → (s.tap.cursor : Int) < b + n →
      ∃ t, exec (.hostTransactionTake x) s = .next t ∧ changesOnly [.path, .tap, .control] s t ∧ moved (b + n).toNat t ∧
        t.control.writes = s.control.writes) ∧
    (d ≠ 0 → 0 ≤ b → (s.tap.floor : Int) - r.lateWindow ≤ b → b < s.tap.floor →
      exec (.hostTransactionTake x) s = .next (tapEvent .latePatch a 0 (joined x .waiting s))) ∧
    (d ≠ 0 → b < s.tap.floor → (b < 0 ∨ b < (s.tap.floor : Int) - r.lateWindow) →
      ∃ t, exec (.hostTransactionTake x) s = .next t ∧ moved (s.tap.cursor + d + n) t ∧
        t.control.reportProducer = (tapEvent .gap a d (joined x .waiting s)).control.reportProducer ∧
        t.control.pendingNotices = (tapEvent .gap a d (joined x .waiting s)).control.pendingNotices)

/-- HOST_TRANSACTION_TAKE of a stream write during a clip: the cases of R6 to R10, the hold test (R11) and the overrun without a hold
(R13, R14). -/
def Obligations.OverwritingWriteIsHeldOrOverruns : Prop :=
  (∀ (r : StreamRegion) (a : Nat) (lanes : List LaneByte) (s : State), portOpen s →
    (Transaction.write (r.base + a) lanes).wellFormed = true → streamRegion s = some r → 0 < r.size → a = s.tap.cursor % r.size →
    regionAt s (r.base + a) = some ⟨r.base, r.size, .stream r.prerecordBytes r.lateWindow r.holdLimit⟩ → assembled s = true →
    let x := Transaction.write (r.base + a) lanes
    let c := s.tap.cursor + lanes.length
    (c - s.tap.floor ≤ r.size → ∃ t, exec (.hostTransactionTake x) s = .next t ∧ changesOnly [.path, .tap, .control] s t ∧
      t.path = (joined x .waiting s).path ∧ t.tap = { s.tap with cursor := c } ∧ t.control.writes = s.control.writes) ∧
    (r.size < c - s.tap.floor → 1 ≤ r.holdLimit →
      ∃ t, exec (.hostTransactionTake x) s = .next t ∧ changesOnly [.path, .tap] s t ∧ t.path = (joined x .held s).path ∧
        t.tap = { s.tap with held := some ⟨.append, a, lanes.length, s.tap.cursor, c, 0⟩ }) ∧
    (r.size < c - s.tap.floor → r.holdLimit = 0 → s.clip.state = .recording →
      ∃ t, exec (.hostTransactionTake x) s = .next t ∧ t.path = (joined x .waiting s).path ∧ t.tap.cursor = c ∧
        t.tap.floor = c - r.size ∧ t.tap.ship = c - r.size ∧ t.tap.discontinuity = true ∧
        t.tap.entries = s.tap.entries.filter (fun e => c - r.size ≤ e.pos) ∧ causePresent t .streamOverrun = true ∧
        changesOnly [.path, .tap, .control] s t)) ∧
  (∀ (r : StreamRegion) (a : Nat) (lanes : List LaneByte) (s : State), portOpen s →
    (Transaction.write (r.base + a) lanes).wellFormed = true → streamRegion s = some r → 0 < r.size →
    regionAt s (r.base + a) = some ⟨r.base, r.size, .stream r.prerecordBytes r.lateWindow r.holdLimit⟩ → assembled s = true →
    let x := Transaction.write (r.base + a) lanes
    let n := lanes.length
    let b := behindPosition r s.tap.cursor a
    let d := (((a : Int) - s.tap.cursor) % r.size).toNat
    let gap := tapEvent .gap a d (joined x .waiting s)
    let offered := fun (k : WriteCase) (start c skip : Nat) =>
      (c - s.tap.floor ≤ r.size → ∃ t, exec (.hostTransactionTake x) s = .next t ∧ changesOnly [.path, .tap, .control] s t ∧
        t.path = (joined x .waiting s).path ∧
        t.tap = { s.tap with cursor := c, gaps := if k = .gap then gap.tap.gaps else s.tap.gaps } ∧
        t.control.writes = (if k = .gap then gap.control.writes else s.control.writes) ∧
        t.control.pendingNotices = (if k = .gap then gap.control.pendingNotices else s.control.pendingNotices)) ∧
      (r.size < c - s.tap.floor → 1 ≤ r.holdLimit →
        ∃ t, exec (.hostTransactionTake x) s = .next t ∧ changesOnly [.path, .tap] s t ∧ t.path = (joined x .held s).path ∧
          t.tap = { s.tap with held := some ⟨k, a, n, start, c, skip⟩ }) ∧
      (r.size < c - s.tap.floor → r.holdLimit = 0 →
        s.clip.state = .recording ∨ (s.clip.state = .stopping ∧ c - r.size < s.clip.stopPos) →
        ∃ t, exec (.hostTransactionTake x) s = .next t ∧ changesOnly [.path, .tap, .control] s t ∧
          t.path = (joined x .waiting s).path ∧ t.tap.cursor = c ∧ t.tap.floor = c - r.size ∧ t.tap.ship = c - r.size ∧
          t.tap.discontinuity = true ∧ t.tap.entries = s.tap.entries.filter (fun e => c - r.size ≤ e.pos) ∧
          causePresent t .streamOverrun = true)
    (d = 0 → offered .append s.tap.cursor (s.tap.cursor + n) 0) ∧
    (d ≠ 0 → (s.tap.floor : Int) ≤ b → b + n ≤ s.tap.cursor → exec (.hostTransactionTake x) s = .next (joined x .waiting s)) ∧
    (d ≠ 0 → (s.tap.floor : Int) ≤ b → (s.tap.cursor : Int) < b + n → offered .straddle b.toNat (b + n).toNat 0) ∧
    (d ≠ 0 → 0 ≤ b → (s.tap.floor : Int) - r.lateWindow ≤ b → b < s.tap.floor →
      exec (.hostTransactionTake x) s = .next (tapEvent .latePatch a 0 (joined x .waiting s))) ∧
    (d ≠ 0 → b < s.tap.floor → (b < 0 ∨ b < (s.tap.floor : Int) - r.lateWindow) →
      offered .gap (s.tap.cursor + d) (s.tap.cursor + d + n) d))

/-- HOLD_TIMER_EXPIRY (R3, R13 to R15). With no write held nothing changes (log 5). That the expiry is an overrun also where the write fits
already, in a hold that a REC_STOP has prolonged, with floor and ship where they stand, is the model's reading (log 31). -/
def Obligations.HoldTimerExpiryOverruns : Prop :=
  ∀ (r : StreamRegion) (s : State), running s → streamRegion s = some r →
    (s.tap.held = none → exec .holdTimerExpiry s = .next s) ∧
    (∀ w, s.tap.held = some w → let f := max s.tap.floor (w.newCursor - r.size)
      ∃ t, exec .holdTimerExpiry s = .next t ∧
      t.tap.held = none ∧ t.tap.cursor = w.newCursor ∧ t.tap.discontinuity = true ∧
      t.path = { s.path with
        queue := s.path.queue.map fun e => { e with progress := if e.progress = .held then .waiting else e.progress } } ∧
      changesOnly [.path, .tap, .control] s t ∧
      (s.clip.state = .recording ∨ (s.clip.state = .stopping ∧ f < s.clip.stopPos) →
        t.tap.floor = f ∧ t.tap.ship = f ∧ t.tap.entries = s.tap.entries.filter (fun e => f ≤ e.pos) ∧
        causePresent t .streamOverrun = decide (r.size ≤ 2 * (w.newCursor - f))) ∧
      (s.clip.state = .stopping → s.clip.stopPos ≤ f →
        causePresent t .streamOverrun = false ∧ assembled t = false ∧
        t.tap.floor = max f (w.newCursor - r.prerecordBytes) ∧ t.tap.ship = t.tap.floor))

/-- HOST_TRANSACTION_TAKE of an INDEX write (R10, R16 to R19, R112): of one record place in any recording state, of a part of a place, of
a place with no STREAM region, and of several places as of its two parts in a row; in ARMED the first entry begins the clip with its
audio placed and STARTED posted (R23 to R25). That block numbers are ordered by their signed distance from the next one is the model's reading (log 22). -/
def Obligations.IndexRecordsBecomeEntries : Prop :=
  (∀ (r : StreamRegion) (place base size : Nat) (lanes : List LaneByte) (s : State), portOpen s →
    (Transaction.write place lanes).wellFormed = true → lanes.length = 32 → place % 32 = 0 →
    regionAt s place = some ⟨base, size, .index⟩ → streamRegion s = some r → 0 < r.size →
    let x := Transaction.write place lanes
    let bytes := lanes.map (·.1)
    let addr := field bytes 0 4
    let p : Int := (s.tap.cursor : Int) - (((s.tap.cursor : Int) - ((addr : Int) - r.base)) % r.size)
    ((∃ l ∈ lanes, l.2 = false) →
      exec (.hostTransactionTake x) s = .next (tapEvent .indexPartial (place - base) 0 (joined x .waiting s))) ∧
    ((∀ l ∈ lanes, l.2 = true) → (addr < r.base ∨ r.base + r.size ≤ addr ∨ p < s.tap.floor ∨ p = s.tap.cursor ∨
        ∃ e, s.tap.entries.getLast? = some e ∧ p ≤ e.pos) →
      exec (.hostTransactionTake x) s = .next (tapEvent .indexStale (place - base) 0 (joined x .waiting s))) ∧
    (s.clip.state ≠ .armed → (∀ l ∈ lanes, l.2 = true) → r.base ≤ addr → addr < r.base + r.size → (s.tap.floor : Int) ≤ p →
      p < s.tap.cursor → (∀ e, s.tap.entries.getLast? = some e → (e.pos : Int) < p) →
      ∃ t e, exec (.hostTransactionTake x) s = .next t ∧ changesOnly [.path, .tap] s t ∧ t.path = (joined x .waiting s).path ∧
        t.tap = { s.tap with entries := (if s.tap.entries.length < 64 then s.tap.entries else s.tap.entries.tail) ++ [e] } ∧
        (e.pos : Int) = p ∧ e.kind = (if field bytes 9 1 = 1 then .key else .mark) ∧ e.timecode.toNat = field bytes 4 4 ∧
        ((∀ f, s.view.slots[field bytes 8 1]? ≠ some (.filling f) ∧ s.view.slots[field bytes 8 1]? ≠ some (.ready f)) →
          e.frame = 0) ∧
        (∀ f, s.view.slots[field bytes 8 1]? = some (.filling f) ∨ s.view.slots[field bytes 8 1]? = some (.ready f) →
          e.frame = f.frame))) ∧
  (∀ (a base size : Nat) (lanes : List LaneByte) (s : State), portOpen s → (Transaction.write a lanes).wellFormed = true →
    regionAt s a = some ⟨base, size, .index⟩ → a / 32 = (a + lanes.length - 1) / 32 →
    let x := Transaction.write a lanes
    (lanes.length ≠ 32 →
      exec (.hostTransactionTake x) s = .next (tapEvent .indexPartial (a / 32 * 32 - base) 0 (joined x .waiting s))) ∧
    (lanes.length = 32 → (∃ l ∈ lanes, l.2 = false) →
      exec (.hostTransactionTake x) s = .next (tapEvent .indexPartial (a - base) 0 (joined x .waiting s))) ∧
    (lanes.length = 32 → (∀ l ∈ lanes, l.2 = true) → streamRegion s = none →
      exec (.hostTransactionTake x) s = .next (tapEvent .indexStale (a - base) 0 (joined x .waiting s)))) ∧
  (∀ (a base size : Nat) (front back : List LaneByte) (s : State), portOpen s →
    (Transaction.write a front).wellFormed = true → (Transaction.write (a + front.length) back).wellFormed = true →
    (Transaction.write a (front ++ back)).wellFormed = true → (a + front.length) % 32 = 0 →
    regionAt s a = some ⟨base, size, .index⟩ → regionAt s (a + front.length) = some ⟨base, size, .index⟩ →
    ∃ u w, exec (.hostTransactionTake (.write a front)) s = .next u ∧
      exec (.hostTransactionTake (.write (a + front.length) back)) (u.setPath s.path) = .next w ∧
      exec (.hostTransactionTake (.write a (front ++ back))) s =
        .next (w.setPath (joined (.write a (front ++ back)) .waiting s).path)) ∧
  (∀ (r : StreamRegion) (place base size : Nat) (lanes : List LaneByte) (s : State), portOpen s → s.clip.state = .armed →
    s.tap.entries = [] → (Transaction.write place lanes).wellFormed = true → lanes.length = 32 → place % 32 = 0 →
    regionAt s place = some ⟨base, size, .index⟩ → streamRegion s = some r → 0 < r.size → (∀ l ∈ lanes, l.2 = true) →
    let bytes := lanes.map (·.1)
    let addr := field bytes 0 4
    let p : Int := (s.tap.cursor : Int) - (((s.tap.cursor : Int) - ((addr : Int) - r.base)) % r.size)
    r.base ≤ addr → addr < r.base + r.size → (s.tap.floor : Int) ≤ p → p < s.tap.cursor →
    ∃ v e, exec (.hostTransactionTake (.write place lanes)) s =
        .next (postNotice (.recState .started .recording none s.clip.mode s.clip.clipNumber 0) v) ∧
      changesOnly [.path, .tap, .clip] s v ∧ v.path = (joined (.write place lanes) .waiting s).path ∧
      (e.pos : Int) = p ∧ e.kind = (if field bytes 9 1 = 1 then .key else .mark) ∧ e.timecode.toNat = field bytes 4 4 ∧
      v.tap = { s.tap with entries := [e], ship := e.pos, floor := e.pos, discontinuity := false } ∧
      clipBegun s.clip s.audio e 0 v.clip)

/-! ### Frames and the alias view -/

/-- HOST_TRANSACTION_TAKE of a FRAME write: frame starts (R110, R111). -/
def Obligations.FrameStartsLatchTheShifts : Prop :=
  ∀ (base n bpp w hh stride a : Nat) (lanes : List LaneByte) (s : State), portOpen s →
    (Transaction.write (base + a) lanes).wellFormed = true → 0 < hh → 0 < stride →
    regionAt s (base + a) = some ⟨base, n * hh * stride, .frame n bpp w hh stride⟩ → s.view.slots.length = n →
    let x := Transaction.write (base + a) lanes
    let k := a / (hh * stride)
    ((stride ≤ a % (hh * stride) ∨ ∃ f, s.view.slots[k]? = some (.filling f)) →
      exec (.hostTransactionTake x) s = .next (joined x .waiting s)) ∧
    (a % (hh * stride) < stride → (∀ f, s.view.slots[k]? ≠ some (.filling f)) →
      ∃ u, exec (.hostTransactionTake x) s = .next (requestStatus u) ∧ changesOnly [.path, .view] s u ∧
        u.path = (joined x .waiting s).path ∧ u.view.frameCount = s.view.frameCount + 1 ∧
        u.view.aliasWrites = s.view.aliasWrites ∧ u.view.slots.length = n ∧
        u.view.slots[k]? = some (.filling ⟨s.view.frameCount + 1, s.motion.x.shift, s.motion.y.shift, s.zoom.pos,
          s.motion.x.state, s.motion.y.state⟩) ∧
        ∀ j, j ≠ k → u.view.slots[j]? = (s.view.slots[j]?).map fun
          | .filling f => .ready f
          | q => q)

/-- HOST_TRANSACTION_TAKE of an alias read: the translation, byte by byte (R113 to R115), the unbound view, and the bytes that belong to
no alias slot (R118). -/
def Obligations.AliasReadsAreDisplacedByTheShifts : Prop :=
  (∀ (base size o n : Nat) (g : AliasGeometry) (s : State), portOpen s → (Transaction.read (base + o) n).wellFormed = true →
    regionAt s (base + o) = some ⟨base, size, .aliasView g⟩ → g.slotCount * (g.hOut * g.stride) ≤ o →
    exec (.hostTransactionTake (.read (base + o) n)) s = .next (joined (.read (base + o) n) .waiting s)) ∧
  ∀ (base size o n : Nat) (g : AliasGeometry) (s : State), portOpen s → (Transaction.read (base + o) n).wellFormed = true →
    regionAt s (base + o) = some ⟨base, size, .aliasView g⟩ → base % 4096 = 0 → g.frameBase % 4096 = 0 → g.stride % 128 = 0 →
    128 ≤ g.stride → g.slotSize % g.stride = 0 → o < g.slotCount * (g.hOut * g.stride) →
    (g.bound = false → exec (.hostTransactionTake (.read (base + o) n)) s =
      .next (startCause .aliasFault (joined (.read (base + o) n) .waiting s))) ∧
    (g.bound = true → ∀ (sx sy : Int) (line column : Nat),
      (∀ f, s.view.slots[o / (g.hOut * g.stride)]? = some (.filling f) ∨ s.view.slots[o / (g.hOut * g.stride)]? = some (.ready f) →
        sx = f.shiftX ∧ sy = f.shiftY) →
      ((∀ f, s.view.slots[o / (g.hOut * g.stride)]? ≠ some (.filling f) ∧
        s.view.slots[o / (g.hOut * g.stride)]? ≠ some (.ready f)) → sx = 0 ∧ sy = 0) →
      (line : Int) = (o % (g.hOut * g.stride) / g.stride : Nat) + g.marginY + sy → (column : Int) = (g.marginX + sx) * g.bpp →
      ∃ t pieces, exec (.hostTransactionTake (.read (base + o) n)) s = .next t ∧ changesOnly [.path] s t ∧
        t.path = { s.path with
          queue := s.path.queue ++ [⟨s.path.nextSerial, .read (base + o) n, pieces, 0, 0, .waiting, [], false⟩]
          nextSerial := s.path.nextSerial + 1 } ∧
        1 ≤ pieces.length ∧ pieces.length ≤ 2 ∧
        (∀ p ∈ pieces, p.txn.wellFormed = true ∧ isWrite p.txn = false ∧ p.skip + p.count ≤ p.txn.len) ∧
        pieces.flatMap (fun p => (List.range p.count).map fun j => p.txn.addr + p.skip + j) =
          (List.range n).map fun j => g.frameBase + o / (g.hOut * g.stride) * g.slotSize + line * g.stride +
            (o % g.stride + j + column) % g.stride)

/-! ### The Motion Unit -/

/-- GYRO_SAMPLE_INSTANT, with the request byte 0xA8 most significant bit first (R88, R213), and GYRO_ANSWER, whose five bytes come in order
and most significant bit first (R88, R90 to R98, R213). That an answer
or a timeout with no read in flight changes nothing is the model's choice (log 5), and so is the field that shows the bits (log 36). -/
def Obligations.GoodReadsSampleBothAxes : Prop :=
  (∀ s : State, running s →
    (s.motion.sampling = true → exec .gyroSampleInstant s = .next { s with motion := { s.motion with
      reading := true, portOut := [true, false, true, false, true, false, false, false] } }) ∧
    (s.motion.sampling = false → exec .gyroSampleInstant s = .next s) ∧
    (s.motion.reading = false → exec .gyroReadTimeout s = .next s ∧
      ∀ a b c d e, exec (.gyroAnswer a b c d e) s = .next s)) ∧
  (∀ (a b c d e : PortBits) (yl yh pl ph : Byte) (g : Nat) (s : State), running s → s.motion.reading = true → a[7] = true →
    receivedAs b yl → receivedAs c yh → receivedAs d pl → receivedAs e ph → gainIs s g →
    ∃ t x y, exec (.gyroAnswer a b c d e) s = .next t ∧
      t.motion = { s.motion with x := x, y := y, lastYaw := (yh ++ yl).toInt, lastPitch := (ph ++ pl).toInt
                                 failures := 0, reading := false } ∧
      (s.motion.failures ≠ 5 → changesOnly [.motion] s t ∧
        axisSampled s.motion g (margins s).1 (yh ++ yl).toInt s.motion.x x ∧
        axisSampled s.motion g (margins s).2 (ph ++ pl).toInt s.motion.y y) ∧
      (s.motion.failures = 5 → changesOnly [.motion, .control] s t ∧ t.control = (endCause .gyroFault s).control ∧
        ∀ a b, a = (if s.motion.x.state = .hold then { s.motion.x with state := .steady, panEnterCount := 0, panExitCount := 0 }
            else s.motion.x) →
          b = (if s.motion.y.state = .hold then { s.motion.y with state := .steady, panEnterCount := 0, panExitCount := 0 }
            else s.motion.y) →
          axisSampled s.motion g (margins s).1 (yh ++ yl).toInt a x ∧ axisSampled s.motion g (margins s).2 (ph ++ pl).toInt b y))

/-- GYRO_READ_TIMEOUT, and GYRO_ANSWER of a failed read (R89). -/
def Obligations.FailedReadsAreBridgedThenHeld : Prop :=
  ∀ (g : Nat) (s : State), running s → s.motion.reading = true → gainIs s g →
    (∀ a b c d e : PortBits, a[7] = false → exec (.gyroAnswer a b c d e) s = exec .gyroReadTimeout s) ∧
    ∃ t x y, exec .gyroReadTimeout s = .next t ∧
      t.motion = { s.motion with x := x, y := y, failures := min 5 (s.motion.failures + 1), reading := false } ∧
      (s.motion.failures ≠ 4 → changesOnly [.motion] s t ∧
        axisSampled s.motion g (margins s).1 s.motion.lastYaw s.motion.x x ∧
        axisSampled s.motion g (margins s).2 s.motion.lastPitch s.motion.y y) ∧
      (s.motion.failures = 4 → changesOnly [.motion, .control] s t ∧ t.control = (startCause .gyroFault s).control ∧
        ∀ a b, a = (if s.motion.x.state = .off then s.motion.x
            else { s.motion.x with state := .hold, panEnterCount := 0, panExitCount := 0 }) →
          b = (if s.motion.y.state = .off then s.motion.y
            else { s.motion.y with state := .hold, panEnterCount := 0, panExitCount := 0 }) →
          axisSampled s.motion g (margins s).1 s.motion.lastYaw a x ∧ axisSampled s.motion g (margins s).2 s.motion.lastPitch b y)

/-- |A| ≤ A_lim and |shift| ≤ M after every sample (R97, R98). -/
def Obligations.SampledAnglesStayWithinTheMargins : Prop :=
  ∀ (c : Instr) (g : Nat) (s t : State), running s → s.motion.reading = true → gainIs s g →
    (c = .gyroReadTimeout ∨ ∃ status yl yh pl ph, c = .gyroAnswer status yl yh pl ph) → exec c s = .next t →
    (t.motion.x.state ≠ .off → t.motion.x.angle.natAbs * g ≤ (margins t).1 * 2 ^ 21 ∧ t.motion.x.shift.natAbs ≤ (margins t).1) ∧
    (t.motion.y.state ≠ .off → t.motion.y.angle.natAbs * g ≤ (margins t).2 * 2 ^ 21 ∧ t.motion.y.shift.natAbs ≤ (margins t).2)

/-- STAB_CONFIG, STAB_ENABLE and STAB_DISABLE (R99, R100, R101). -/
def Obligations.StabCommandsConfigureAndRecentre : Prop :=
  ∀ (h : EntryHead) (s : State), entryReturns s →
    (∀ (bx by' : Word16) (dx dy ks kp : Byte) (thr : Word16) (pe : Byte) (px : Word16),
      let good := -4096 ≤ bx.toInt ∧ bx.toInt ≤ 4095 ∧ -4096 ≤ by'.toInt ∧ by'.toInt ≤ 4095 ∧ dx.toNat ≤ 1 ∧ dy.toNat ≤ 1 ∧
        8 ≤ ks.toNat ∧ ks.toNat ≤ 15 ∧ 3 ≤ kp.toNat ∧ kp.toNat ≤ 7 ∧ 2 ≤ thr.toNat ∧ thr.toNat ≤ 32767 ∧ 1 ≤ pe.toNat ∧
        1 ≤ px.toNat ∧ px.toNat ≤ 4095
      (good → completesWith (.stabConfig h bx by' dx dy ks kp thr pe px) s .ok
        { afterReturn s with motion := { s.motion with
            x := { s.motion.x with bias := bx.toInt, inverted := decide (dx.toNat = 1), panEnterCount := 0, panExitCount := 0 }
            y := { s.motion.y with bias := by'.toInt, inverted := decide (dy.toNat = 1), panEnterCount := 0, panExitCount := 0 }
            kSteady := ks.toNat, kPan := kp.toNat, panThreshold := thr.toNat, panEnter := pe.toNat, panExit := px.toNat } }) ∧
      (¬good → completesWith (.stabConfig h bx by' dx dy ks kp thr pe px) s .badArg (afterReturn s))) ∧
    (∃ u, completesWith (.stabEnable h) s .ok u ∧ changesOnly [.motion] (afterReturn s) u ∧ ∃ st,
      (s.motion.sampling = true → st = (if s.motion.failures = 5 then AxisState.hold else .steady) ∧
        u.motion = { s.motion with
          x := { s.motion.x with state := st, angle := 0, shift := 0, panEnterCount := 0, panExitCount := 0 }
          y := { s.motion.y with state := st, angle := 0, shift := 0, panEnterCount := 0, panExitCount := 0 } }) ∧
      (s.motion.sampling = false → st = .steady ∧
        u.motion = { s.motion with
          x := { s.motion.x with state := st, angle := 0, shift := 0, panEnterCount := 0, panExitCount := 0 }
          y := { s.motion.y with state := st, angle := 0, shift := 0, panEnterCount := 0, panExitCount := 0 }
          sampling := true, failures := 0, lastYaw := 0, lastPitch := 0 })) ∧
    (∃ u, completesWith (.stabDisable h) s .ok (endCause .gyroFault u) ∧ changesOnly [.motion] (afterReturn s) u ∧
      u.motion = { s.motion with
        x := { s.motion.x with state := .off, angle := 0, shift := 0, panEnterCount := 0, panExitCount := 0 }
        y := { s.motion.y with state := .off, angle := 0, shift := 0, panEnterCount := 0, panExitCount := 0 }
        sampling := false, reading := false, failures := 0, lastYaw := 0, lastPitch := 0 })

/-- FOCAL_LOAD, ZOOM_CONFIG and the returns of their reads (R102, R125, R126, R210). -/
def Obligations.TablesAreReadThenReplacedWhole : Prop :=
  (∀ s : State,
    (∀ (h : EntryHead) (addr : Word32), entryReturns s →
      (addr.toNat % 128 = 0 → addr.toNat + 128 ≤ s.path.memSize →
        exec (.focalLoad h addr) s = .next { afterReturn s with control := { s.control with
          phase := .focal ⟨0x23, h.tag, h.notify⟩, readReq := some ⟨addr.toNat, 72, unissuedWrites s⟩ } }) ∧
      (addr.toNat % 128 ≠ 0 ∨ s.path.memSize < addr.toNat + 128 →
        completesWith (.focalLoad h addr) s .badArg (afterReturn s))) ∧
    (∀ (txn : Transaction) (data : List Byte), returns s ⟨txn, .focalTable⟩ → data.length = 72 →
      ((∀ i, i < 33 → field data (2 * i) 2 ≠ 0) → ∃ u, completesWith (.focalLoadReadReturn data) s .ok u ∧
        changesOnly [.motion] (afterReturn s) u ∧ u.motion = { s.motion with focal := u.motion.focal } ∧
        ∀ i (hi : i < 33), u.motion.focal[i] = field data (2 * i) 2) ∧
      ((∃ i, i < 33 ∧ field data (2 * i) 2 = 0) →
        completesWith (.focalLoadReadReturn data) s .badArg (afterReturn s)))) ∧
  (∀ s : State,
    (∀ (h : EntryHead) (addr : Word32) (seg : Word16) (e tol : Byte), entryReturns s →
      let good := addr.toNat % 128 = 0 ∧ addr.toNat + 128 ≤ s.path.memSize ∧ 16 ≤ seg.toNat ∧ seg.toNat ≤ 1024 ∧ 1 ≤ e.toNat ∧
        e.toNat ≤ 16 ∧ 4 ≤ tol.toNat
      (good → exec (.zoomConfig h addr seg e tol) s = .next { afterReturn s with control := { s.control with
        phase := .zoom ⟨0x28, h.tag, h.notify⟩ seg.toNat e.toNat tol.toNat
        readReq := some ⟨addr.toNat, 128, unissuedWrites s⟩ } }) ∧
      (¬good → completesWith (.zoomConfig h addr seg e tol) s .badArg (afterReturn s))) ∧
    (∀ (txn : Transaction) (data : List Byte) (k : Kept) (seg e tol : Nat), returns s ⟨txn, .speedTable⟩ →
      s.control.phase = .zoom k seg e tol → data.length = 128 →
      (s.zoom.servo = .speed ∨ s.zoom.servo = .goto ∨ s.zoom.servo = .homing ∨ s.zoom.running = true →
        completesWith (.zoomConfigReadReturn data) s .busy (afterReturn s)) ∧
      (s.zoom.servo = .unhomed ∨ s.zoom.servo = .idle ∨ s.zoom.servo = .fault → s.zoom.running = false →
        ((∃ l, 1 ≤ l ∧ l < 16 ∧ 3 < field data (8 * l) 1) →
          completesWith (.zoomConfigReadReturn data) s .badArg (afterReturn s)) ∧
        ((∀ l, 1 ≤ l → l < 16 → field data (8 * l) 1 ≤ 3) →
          ∃ u, completesWith (.zoomConfigReadReturn data) s .ok u ∧ changesOnly [.zoom] (afterReturn s) u ∧
            u.zoom = { s.zoom with
              speeds := u.zoom.speeds, seg := seg, e := e, tolerance := tol, configured := true, homed := false, pos := 0
              encoder := 0, hostDemand := 0, level := 0, enable := false, enableOffPending := false
              servo := if s.zoom.servo = .fault then .fault else .unhomed } ∧
            ∀ l (hl : l < 16), 1 ≤ l →
              [1, 2, 16, 128][field data (8 * l) 1]? = some (u.zoom.speeds[l]).setting.prescaler ∧
              (u.zoom.speeds[l]).setting.reload = field data (8 * l + 2) 2 ∧ (u.zoom.speeds[l]).braking = field data (8 * l + 4) 2))))

/-! ### The Zoom Drive -/

/-- LENS_TIMER_UNDERFLOW (R122 to R124, R132, R135, R136, R139, R140). CMD_DONE before ZOOM_DONE in gotoDone and homingDone is the model's
order (log 11), and the stopped timer that changes nothing its choice (log 5). -/
def Obligations.StepsMoveThePositionAndEndMoves : Prop :=
  (∀ s : State, running s →
    (s.zoom.running = false → exec .lensTimerUnderflow s = .next s) ∧
    (s.zoom.running = true → s.zoom.stopRequest = true → ∃ t, exec .lensTimerUnderflow s = .next t ∧ changesOnly [.zoom] s t ∧
      t.zoom.step = false ∧ t.zoom.running = false ∧ t.zoom.stopRequest = false ∧ t.zoom.pos = s.zoom.pos ∧
      t.zoom.servo = s.zoom.servo ∧ t.zoom.level = s.zoom.level ∧ t.zoom.dir = s.zoom.dir ∧ t.zoom.counter = s.zoom.counter ∧
      t.zoom.homed = s.zoom.homed ∧ t.zoom.move = s.zoom.move ∧ t.zoom.homingSteps = s.zoom.homingSteps ∧
      t.zoom.enable = (s.zoom.enable && !s.zoom.enableOffPending) ∧ t.zoom.enableOffPending = false) ∧
    (s.zoom.running = true → s.zoom.stopRequest = false → s.zoom.step = true →
      exec .lensTimerUnderflow s = .next { s with zoom := { s.zoom with
        step := false, active := s.zoom.stored, counter := s.zoom.stored.reload } })) ∧
  (∀ (p : Nat) (s : State), running s → s.zoom.running = true → s.zoom.stopRequest = false → s.zoom.step = false →
    (s.zoom.dir = .tele → p = s.zoom.pos + 1) → (s.zoom.dir = .wide → s.zoom.pos = p + 1) →
    let stepped := { s.zoom with step := true, active := s.zoom.stored, counter := s.zoom.stored.reload }
    let disagreement := (s.zoom.encoder.toInt * s.zoom.e - p).natAbs
    (s.zoom.servo = .speed ∨ (s.zoom.servo = .goto ∧ ∃ m, s.zoom.move = some m ∧ m.target ≠ p) →
      (s.zoom.homed = true → disagreement ≤ s.zoom.tolerance) →
      exec .lensTimerUnderflow s = .next { s with zoom :=
        if (s.zoom.dir = .tele ∧ p = 32 * s.zoom.seg) ∨ (s.zoom.dir = .wide ∧ p = 0)
        then { stepped with pos := p, level := 0, stopRequest := true } else { stepped with pos := p } }) ∧
    (∀ m, s.zoom.servo = .goto → s.zoom.move = some m → m.target = p → (s.zoom.homed = true → disagreement ≤ s.zoom.tolerance) →
      exec .lensTimerUnderflow s = .next (gotoDone m .reached p { s with zoom :=
        { stepped with pos := p, level := 0, stopRequest := true, servo := .idle, move := none } })) ∧
    (∀ z, s.zoom.servo ≠ .homing → s.zoom.homed = true → s.zoom.tolerance < disagreement →
      z = { stepped with pos := p, level := 0, stopRequest := true, servo := .fault, homed := false, hostDemand := 0
                         override := false, move := none, enableOffPending := true } →
      (s.zoom.move = none → exec .lensTimerUnderflow s = .next (startCause .zoomFault { s with zoom := z })) ∧
      (∀ m, s.zoom.move = some m →
        exec .lensTimerUnderflow s = .next (startCause .zoomFault (gotoDone m .fault p { s with zoom := z }))))) ∧
  (∀ s : State, running s → s.zoom.running = true → s.zoom.stopRequest = false → s.zoom.step = false → s.zoom.servo = .homing →
    let stepped := { s.zoom with
      step := true, active := s.zoom.stored, counter := s.zoom.stored.reload, homingSteps := s.zoom.homingSteps + 1 }
    let limit := 32 * s.zoom.seg + 32 * s.zoom.seg / 8
    (s.zoom.homingSteps + 1 < limit ∨ s.zoom.homeFilter.level = true →
      exec .lensTimerUnderflow s = .next { s with zoom := stepped }) ∧
    (∀ k, s.zoom.homingCmd = some k → limit ≤ s.zoom.homingSteps + 1 → s.zoom.homeFilter.level = false →
      exec .lensTimerUnderflow s = .next (homingDone k .fault s.zoom.pos (startCause .zoomFault { s with zoom :=
        { stepped with level := 0, stopRequest := true, servo := .fault, homingCmd := none, enableOffPending := true } }))))

/-- RAMP_TICK: the rocker, the demands of SPEED, of the grip override, of a GOTO and of a homing, and the level (R127, R128, R130, R131,
R133 to R135, R178). CMD_DONE before ZOOM_DONE at the end of the GOTO that the rocker aborts is the model's order (log 11). -/
def Obligations.RampMovesTheLevelByOne : Prop :=
  (∀ s : State, running s →
    (s.acc.link ≠ .running ∨ (∀ (i : Fin 16) r, s.acc.buffers[i] = .receive r → r.owner ≠ .gripIn) → gripContent s.acc = none) ∧
    (∀ (i : Fin 16) r, s.acc.link = .running → s.acc.buffers[i] = .receive r → r.owner = .gripIn →
      (∀ (j : Fin 16) q, s.acc.buffers[j] = .receive q → q.owner = .gripIn → j = i) →
      gripContent s.acc = if r.freshness ≤ r.staleCycles then r.content else none) ∧
    (gripContent s.acc = none → rockerDemand (rocker s.acc) = 0) ∧
    (∀ (c : LinkContent) (b : Byte) (rest : List Byte), gripContent s.acc = some c → c.data = b :: rest →
      (b.toInt.natAbs ≤ 7 → rockerDemand (rocker s.acc) = 0) ∧
      (8 ≤ b.toInt.natAbs → rockerDemand (rocker s.acc) = b.toInt.sign * (min 15 (b.toInt.natAbs / 8) : Nat))) ∧
    (∀ d : Int, s.zoom.servo = .speed → s.zoom.override = false → rockerDemand (rocker s.acc) = 0 →
      d = (if (0 < s.zoom.hostDemand ∧ s.zoom.pos = 32 * s.zoom.seg) ∨ (s.zoom.hostDemand < 0 ∧ s.zoom.pos = 0) then 0
        else s.zoom.hostDemand) →
      let way := if s.zoom.dir = .tele then (1 : Int) else -1
      (0 < s.zoom.level → (d * way ≤ 0 ∨ d.natAbs < s.zoom.level) → ∃ t, exec .rampTick s = .next t ∧ changesOnly [.zoom] s t ∧
        t.zoom.level = s.zoom.level - 1 ∧ t.zoom.dir = s.zoom.dir ∧ t.zoom.pos = s.zoom.pos ∧ t.zoom.servo = .speed ∧
        (s.zoom.level = 1 → t.zoom.stopRequest = s.zoom.running) ∧
        (∀ h : s.zoom.level - 1 < 16, s.zoom.level ≠ 1 → t.zoom.stored = (s.zoom.speeds[s.zoom.level - 1]).setting)) ∧
      (0 < s.zoom.level → 0 < d * way → s.zoom.level < d.natAbs → ∃ t, exec .rampTick s = .next t ∧ changesOnly [.zoom] s t ∧
        t.zoom.level = s.zoom.level + 1 ∧ t.zoom.dir = s.zoom.dir ∧ t.zoom.pos = s.zoom.pos ∧ t.zoom.servo = .speed ∧
        (∀ h : s.zoom.level + 1 < 16, t.zoom.stored = (s.zoom.speeds[s.zoom.level + 1]).setting)) ∧
      (0 < s.zoom.level → 0 < d * way → s.zoom.level = d.natAbs → exec .rampTick s = .next s) ∧
      (s.zoom.level = 0 → s.zoom.running = false → d ≠ 0 → exec .rampTick s = .next { s with zoom := { s.zoom with
        dir := if 0 < d then .tele else .wide, level := 1, running := true, stopRequest := false, step := false
        stored := (s.zoom.speeds[1]).setting, active := (s.zoom.speeds[1]).setting
        counter := ((s.zoom.speeds[1]).setting).reload } }) ∧
      (s.zoom.level = 0 → s.zoom.running = false → s.zoom.hostDemand = 0 →
        exec .rampTick s = .next { s with zoom := { s.zoom with servo := .idle } })) ∧
    (∀ rd : Int, rd = rockerDemand (rocker s.acc) →
      (rd ≠ 0 → s.zoom.override = false → s.zoom.servo = .idle ∨ s.zoom.servo = .speed ∨ s.zoom.servo = .goto →
        ∃ u, changesOnly [.zoom] s u ∧
          levelMoved (demandHere s.zoom rd)
            { s.zoom with override := true, hostDemand := 0, servo := .speed, move := none } u.zoom ∧
          (s.zoom.move = none → exec .rampTick s = .next u) ∧
          (∀ m, s.zoom.move = some m → exec .rampTick s = .next (gotoDone m .aborted s.zoom.pos u))) ∧
      (rd ≠ 0 → s.zoom.override = true → s.zoom.servo = .speed →
        ∃ t, exec .rampTick s = .next t ∧ changesOnly [.zoom] s t ∧ levelMoved (demandHere s.zoom rd) s.zoom t.zoom) ∧
      (rd = 0 → s.zoom.override = true → s.zoom.servo = .speed →
        (s.zoom.level = 0 → s.zoom.running = false → s.zoom.hostDemand = 0 →
          exec .rampTick s = .next { s with zoom := { s.zoom with override := false, servo := .idle } }) ∧
        (s.zoom.level ≠ 0 ∨ s.zoom.running = true ∨ s.zoom.hostDemand ≠ 0 →
          ∃ t, exec .rampTick s = .next t ∧ changesOnly [.zoom] s t ∧
            levelMoved (demandHere s.zoom s.zoom.hostDemand) { s.zoom with override := false } t.zoom)) ∧
      (s.zoom.servo = .homing → ∃ t, exec .rampTick s = .next t ∧ changesOnly [.zoom] s t ∧
        levelMoved (-4) { s.zoom with override := false } t.zoom))) ∧
  (∀ (m : GotoRecord) (s : State), running s → s.zoom.servo = .goto → s.zoom.move = some m → s.zoom.override = false →
    rockerDemand (rocker s.acc) = 0 → m.target ≠ s.zoom.pos → m.target ≤ 32 * s.zoom.seg → 1 ≤ m.maxLevel → m.maxLevel ≤ 15 →
    s.zoom.level ≤ 15 →
    let way : ZoomDir := if s.zoom.pos < m.target then .tele else .wide
    let distance := ((m.target : Int) - s.zoom.pos).natAbs
    (∀ h : s.zoom.level < 16, 0 < s.zoom.level → s.zoom.dir = way →
      (m.braking = false → (s.zoom.speeds[s.zoom.level]).braking < distance →
        ∃ t, exec .rampTick s = .next t ∧ changesOnly [.zoom] s t ∧ t.zoom.move = some m ∧ t.zoom.servo = .goto ∧
          t.zoom.level = (if s.zoom.level < m.maxLevel then s.zoom.level + 1
            else if m.maxLevel < s.zoom.level then s.zoom.level - 1 else s.zoom.level)) ∧
      (m.braking = true ∨ distance ≤ (s.zoom.speeds[s.zoom.level]).braking →
        ∃ t, exec .rampTick s = .next t ∧ changesOnly [.zoom] s t ∧ t.zoom.move = some { m with braking := true } ∧
          t.zoom.servo = .goto ∧ t.zoom.level = max 1 (s.zoom.level - 1))) ∧
    (s.zoom.level = 0 → s.zoom.running = false → ∃ t, exec .rampTick s = .next t ∧ changesOnly [.zoom] s t ∧
      t.zoom.level = 1 ∧ t.zoom.running = true ∧ t.zoom.dir = way ∧ t.zoom.servo = .goto) ∧
    (0 < s.zoom.level → s.zoom.dir ≠ way → ∃ t, exec .rampTick s = .next t ∧ changesOnly [.zoom] s t ∧
      t.zoom.level = s.zoom.level - 1 ∧ t.zoom.dir = s.zoom.dir ∧ t.zoom.move = some m))

/-- ENCODER_EDGE and HOME_RISE through the input filters, sample by sample (R132, R137, R138). The order of the notices of homingDone is
the model's (log 11). -/
def Obligations.InputFiltersAcceptThreeSamples : Prop :=
  ∀ s : State, running s →
    (∀ (f g : InputFilter) (v : Bool),
      g = (if v = f.level then ⟨f.level, 0, v⟩
        else if f.last = v ∧ f.run = 2 then ⟨v, 0, v⟩
        else ⟨f.level, if f.last = v then f.run + 1 else 1, v⟩) →
      (s.zoom.encFilter = f → v = false ∨ s.zoom.homed = false →
        exec (.encoderEdge [v]) s = .next { s with zoom := { s.zoom with encFilter := g } }) ∧
      (s.zoom.homeFilter = f → v = false ∨ s.zoom.servo ≠ .homing →
        exec (.homeRise [v]) s = .next { s with zoom := { s.zoom with homeFilter := g } })) ∧
    (s.zoom.encFilter = ⟨false, 0, false⟩ →
      (exec (.encoderEdge [true, true, false]) s = .next s) ∧
      (s.zoom.homed = false → exec (.encoderEdge [true, true, true]) s =
        .next { s with zoom := { s.zoom with encFilter := ⟨true, 0, true⟩ } }) ∧
      (s.zoom.homed = true → s.zoom.dir = .tele → s.zoom.encoder ≠ 0x7FFFFFFF → exec (.encoderEdge [true, true, true]) s =
        .next { s with zoom := { s.zoom with encFilter := ⟨true, 0, true⟩, encoder := s.zoom.encoder + 1 } }) ∧
      (s.zoom.homed = true → s.zoom.dir = .wide → s.zoom.encoder ≠ 0x80000000 → exec (.encoderEdge [true, true, true]) s =
        .next { s with zoom := { s.zoom with encFilter := ⟨true, 0, true⟩, encoder := s.zoom.encoder - 1 } })) ∧
    (s.zoom.homeFilter = ⟨false, 0, false⟩ →
      (exec (.homeRise [true, true, false]) s = .next s) ∧
      (s.zoom.servo ≠ .homing → exec (.homeRise [true, true, true]) s =
        .next { s with zoom := { s.zoom with homeFilter := ⟨true, 0, true⟩ } }) ∧
      (∀ k, s.zoom.servo = .homing → s.zoom.homingCmd = some k → exec (.homeRise [true, true, true]) s =
        .next (homingDone k .homed 0 (endCause .zoomFault { s with zoom := { s.zoom with
          homeFilter := ⟨true, 0, true⟩, pos := 0, encoder := 0, homed := true, servo := .idle, level := 0
          stopRequest := s.zoom.running, homingCmd := none } }))))

/-- ZOOM_HOME (R131, R132); with HOME active its end follows the result (R192). The order of the notices of homingDone is the model's
(log 11). -/
def Obligations.ZoomHomeIsTakenWhereConfigured : Prop :=
  ∀ (h : EntryHead) (s : State), entryReturns s →
    (s.zoom.servo = .speed ∨ s.zoom.servo = .goto ∨ s.zoom.servo = .homing →
      completesWith (.zoomHome h) s .busy (afterReturn s)) ∧
    (s.zoom.servo = .unhomed ∨ s.zoom.servo = .idle ∨ s.zoom.servo = .fault →
      (s.zoom.configured = false → completesWith (.zoomHome h) s .badState (afterReturn s)) ∧
      (s.zoom.configured = true → s.zoom.homeFilter.level = false →
        completesWith (.zoomHome h) s .accepted { afterReturn s with zoom := { s.zoom with
          homed := false, hostDemand := 0, homingSteps := 0, enable := true, enableOffPending := false, servo := .homing
          homingCmd := some ⟨0x29, h.tag, h.notify⟩ } }) ∧
      (s.zoom.configured = true → s.zoom.homeFilter.level = true →
        ∃ t, exec (.zoomHome h) s = .next (homingDone ⟨0x29, h.tag, h.notify⟩ .homed 0 (endCause .zoomFault t)) ∧
          answered .accepted { afterReturn s with zoom := { s.zoom with
            homed := true, hostDemand := 0, homingSteps := 0, enable := true, enableOffPending := false, servo := .idle
            pos := 0, encoder := 0, level := 0, stopRequest := s.zoom.running, homingCmd := none } } t))

/-- ZOOM_GOTO, ZOOM_SPEED and ZOOM_STOP (R129, R130, R133, R134, R136). The order of the tests is the model's (log 14), and so is that of
the notices of gotoDone and homingDone and their place before or after the result (log 11); that a ZOOM_SPEED after the tick that sets the
override is recorded is its reading of R130 (log 39). -/
def Obligations.ZoomMovesAreJudgedAndBegun : Prop :=
  (∀ (h : EntryHead) (target : Word16) (maxLevel : Byte) (s : State), entryReturns s →
    let c := Instr.zoomGoto h target maxLevel
    let m : GotoRecord := ⟨target.toNat, maxLevel.toNat, false, ⟨0x2A, h.tag, h.notify⟩⟩
    let moving := { s.zoom with move := some m, hostDemand := 0, servo := .goto }
    (32 * s.zoom.seg < target.toNat ∨ maxLevel.toNat = 0 ∨ 15 < maxLevel.toNat → completesWith c s .badArg (afterReturn s)) ∧
    (target.toNat ≤ 32 * s.zoom.seg → 1 ≤ maxLevel.toNat → maxLevel.toNat ≤ 15 →
      (s.zoom.servo = .unhomed ∨ s.zoom.servo = .fault → completesWith c s .notHomed (afterReturn s)) ∧
      (s.zoom.servo = .homing → completesWith c s .busy (afterReturn s)) ∧
      (s.zoom.servo = .idle ∨ s.zoom.servo = .speed ∨ s.zoom.servo = .goto →
        (s.zoom.override = true → ∃ t, exec c s = .next (gotoDone m .aborted s.zoom.pos t) ∧ answered .accepted (afterReturn s) t) ∧
        (s.zoom.override = false → s.zoom.move = none → s.zoom.pos = target.toNat →
          completesWith c s .ok (postNotice (.zoomDone false .reached s.zoom.pos (some target.toNat) h.tag)
            { afterReturn s with zoom := { s.zoom with level := 0, stopRequest := s.zoom.running, servo := .idle } })) ∧
        (s.zoom.override = false → s.zoom.pos ≠ target.toNat →
          (s.zoom.move = none → completesWith c s .accepted { afterReturn s with zoom := moving }) ∧
          (∀ old, s.zoom.move = some old →
            completesWith c s .accepted (gotoDone old .aborted s.zoom.pos { afterReturn s with zoom := moving })))))) ∧
  (∀ (h : EntryHead) (level : Byte) (s : State), entryReturns s →
    let sped := { s.zoom with hostDemand := level.toInt, servo := .speed, move := none }
    let stopped := { s.zoom with hostDemand := 0, servo := .idle, move := none, level := 0, stopRequest := s.zoom.running }
    (15 < level.toInt.natAbs → completesWith (.zoomSpeed h level) s .badArg (afterReturn s)) ∧
    (s.zoom.servo = .unhomed ∨ s.zoom.servo = .fault → completesWith (.zoomStop h) s .notHomed (afterReturn s) ∧
      (level.toInt.natAbs ≤ 15 → completesWith (.zoomSpeed h level) s .notHomed (afterReturn s))) ∧
    (s.zoom.servo = .homing → (level.toInt.natAbs ≤ 15 → completesWith (.zoomSpeed h level) s .busy (afterReturn s)) ∧
      ∀ k, s.zoom.homingCmd = some k → completesWith (.zoomStop h) s .ok (homingDone k .aborted s.zoom.pos { afterReturn s with
        zoom := { s.zoom with
          servo := .unhomed, level := 0, stopRequest := s.zoom.running, homingCmd := none
          enable := s.zoom.running && s.zoom.enable, enableOffPending := s.zoom.running } })) ∧
    (s.zoom.servo = .idle ∨ s.zoom.servo = .speed ∨ s.zoom.servo = .goto →
      (s.zoom.override = true →
        (level.toInt.natAbs ≤ 15 → completesWith (.zoomSpeed h level) s .ok
          { afterReturn s with zoom := { s.zoom with hostDemand := level.toInt } }) ∧
        completesWith (.zoomStop h) s .ok { afterReturn s with zoom := { s.zoom with hostDemand := 0 } }) ∧
      (s.zoom.override = false → s.zoom.move = none →
        (level.toInt.natAbs ≤ 15 → completesWith (.zoomSpeed h level) s .ok { afterReturn s with zoom := sped }) ∧
        completesWith (.zoomStop h) s .ok { afterReturn s with zoom := stopped }) ∧
      (∀ m, s.zoom.override = false → s.zoom.move = some m →
        (level.toInt.natAbs ≤ 15 →
          completesWith (.zoomSpeed h level) s .ok (gotoDone m .aborted s.zoom.pos { afterReturn s with zoom := sped })) ∧
        completesWith (.zoomStop h) s .ok (gotoDone m .aborted s.zoom.pos { afterReturn s with zoom := stopped }))))

/-- The zoom position stays within 0..Zmax (R135): the invariant that every step keeps. -/
def Obligations.ZoomPositionStaysInRange : Prop :=
  ∀ s t : State, zoomInRange s.zoom → step s = .next t → zoomInRange t.zoom

/-! ### The Audio Unit -/

/-- SAMPLE_PERIOD with a block in progress, or with no AUDIO region (R144, R145, R150 to R152, R157, R159). -/
def Obligations.SamplePeriodsTakeThePeriodFrame : Prop :=
  ∀ (received : BitVec 128) (base size : Nat) (s : State), running s → s.audio.windowCount < 960 →
    (audioRegion s = some (base, size) ∧ s.audio.blocks ≠ [] ∧ ∃ c, s.audio.current = some c ∧ c.index < 1024) ∨
      (s.audio.blocks = [] ∧ s.audio.current = none) →
    (s.audio.state = .off → exec (.samplePeriod received) s = .next s) ∧
    (s.audio.state ≠ .off → ∃ t, exec (.samplePeriod received) s = .next t ∧ changesOnly [.audio, .control] s t ∧
      periodTaken base received s.audio t.audio ∧ (storeSlips s.audio → t.control = (startCause .audioSlip s).control) ∧
      (¬storeSlips s.audio → t.control = s.control))

/-- SAMPLE_PERIOD that starts a block and takes its frame into it, in every role and state but OFF (R144, R145, R150 to R152, R154 to
R156): the record of the slot, the pointer and the cause of AUDIO_OVERRUN, also in STOPPING, and the AUDIO chunk that reads the slot (R34).
That block numbers, which wrap, are ordered by their signed distance from the next one, and that the distance of R156 is a signed one, is
the model's reading (log 22), and so is what counts as to be shipped (log 12). -/
def Obligations.BlocksStartInTheirSlots : Prop :=
  ∀ (received : BitVec 128) (slot base size : Nat) (s : State), running s → s.audio.state ≠ .off → audioRegion s = some (base, size) →
    s.audio.blocks ≠ [] → s.audio.windowCount < 960 → (∀ c, s.audio.current = some c → 1024 ≤ c.index) →
    slot = s.audio.nextBlock.toNat % s.audio.blocks.length →
    let begun := { s.audio with
      nextBlock := s.audio.nextBlock + 1, current := some ⟨s.audio.nextBlock, s.view.frameCount, 0, []⟩
      blocks := s.audio.blocks.set slot (.filling ⟨s.audio.nextBlock, s.view.frameCount, ⟨0, false⟩⟩) }
    let place := blockPlace begun
    let near := fun p : Word32 => decide (2 * (s.audio.nextBlock - p).toInt < s.audio.blocks.length)
    let marked := { s.clip with audioDiscontinuity := true }
    ∃ (t u : State), exec (.samplePeriod received) s = .next t ∧ changesOnly [.audio, .clip, .control] s t ∧
      periodTaken base received begun t.audio ∧
      (storeSlips s.audio → t.control = (startCause .audioSlip u).control) ∧ (¬storeSlips s.audio → t.control = u.control) ∧
      ((∀ i, s.audio.blocks[slot]? = some (.done i) →
          s.clip.audioPart = false ∨ s.clip.shipPtr = none ∨ s.clip.state = .idle ∨ s.clip.state = .armed ∨
            (∃ q, s.clip.shipPtr = some q ∧ place i.number < place q) ∨
            (s.clip.state = .stopping ∧ (s.clip.stopPos ≤ s.tap.ship ∨ s.clip.audioStop = .nothing ∨
              ∃ e, s.clip.audioStop = .upTo e ∧ place e < place i.number))) →
        ((∀ p, s.clip.shipPtr = some p → near p = false) → u = s) ∧
        (∀ p, s.clip.shipPtr = some p → near p = true → u = endCause .audioOverrun s) ∧
        (∀ b n k, s.clip.run = .audio slot b n k → t.clip = marked) ∧
        ((∀ b n k, s.clip.run ≠ .audio slot b n k) → t.clip = s.clip)) ∧
      (∀ i q, s.audio.blocks[slot]? = some (.done i) → s.clip.audioPart = true → s.clip.shipPtr = some q →
        place q ≤ place i.number →
        (s.clip.state = .recording ∨ (s.clip.state = .stopping ∧ s.tap.ship < s.clip.stopPos ∧
          ∃ e, s.clip.audioStop = .upTo e ∧ place i.number ≤ place e)) →
        ∃ p, t.clip = { marked with shipPtr := some p } ∧
          (near p = false → u = startCause .audioOverrun s) ∧ (near p = true → u = endCause .audioOverrun (startCause .audioOverrun s)) ∧
          (∀ (j : Nat) k, t.audio.blocks[j]? = some (.done k) → place p ≤ place k.number) ∧
          ((∃ (j : Nat) (k : BlockInfo), t.audio.blocks[j]? = some (.done k) ∧ k.number = p) ∨
            ((∀ (j : Nat) k, t.audio.blocks[j]? ≠ some (.done k)) ∧ p = s.audio.nextBlock)))

/-- FRAME_SYNC and MISSING_FRAME (R144, R146 to R152), each arrival also while priming and into a full store. That they change nothing in
MASTER and OFF, and a missing frame in SEEK, is the model's choice (log 5); that a short or late frame leaves the miss count as it stands is its reading (log 37). -/
def Obligations.FrameSyncsLockTheFollower : Prop :=
  (∀ (edges : Nat) (sdin : BitVec 128) (s : State), running s →
    (s.audio.role = .master ∨ s.audio.state = .off → exec (.frameSync edges sdin) s = .next s) ∧
    (s.audio.role = .follower →
      (s.audio.state = .seek →
        (s.audio.seekFresh = true ∨ s.audio.bitCount + edges ≠ 128 → exec (.frameSync edges sdin) s =
          .next { s with audio := { s.audio with syncRun := 1, seekFresh := false, bitCount := 0 } }) ∧
        (s.audio.seekFresh = false → s.audio.bitCount + edges = 128 → s.audio.syncRun ≠ 3 → exec (.frameSync edges sdin) s =
          .next { s with audio := { s.audio with syncRun := s.audio.syncRun + 1, seekFresh := false, bitCount := 0 } }) ∧
        (s.audio.seekFresh = false → s.audio.bitCount + edges = 128 → s.audio.syncRun = 3 → exec (.frameSync edges sdin) s =
          .next { s with audio := { s.audio with
            state := .locked, syncRun := 4, bitCount := 0, store := [], priming := true, missCount := 0, everLocked := true } })) ∧
      (s.audio.state = .locked ∨ s.audio.state = .holdover → s.audio.bitCount + edges = 128 → ∃ t,
        exec (.frameSync edges sdin) s = .next t ∧
        frameArrives ⟨sdin.extractLsb' 104 24, sdin.extractLsb' 72 24, sdin.extractLsb' 40 24, sdin.extractLsb' 8 24⟩ false
          { s with audio := { s.audio with state := .locked, missCount := 0, bitCount := 0 } } t) ∧
      (s.audio.state = .locked ∨ s.audio.state = .holdover → s.audio.bitCount + edges ≠ 128 →
        ∀ u : State, u = { s with audio := { s.audio with
            state := .seek, syncRun := 1, seekFresh := true, store := [], lastArrived := ⟨0, 0, 0, 0⟩
            lastDrained := ⟨0, 0, 0, 0⟩, priming := false, bitCount := 0 } } →
        exec (.frameSync edges sdin) s = .next (if s.audio.everLocked then startCause .audioUnlocked u else u)))) ∧
  (∀ s : State, running s →
    (s.audio.role = .master ∨ s.audio.state = .off ∨ s.audio.state = .seek → exec .missingFrame s = .next s) ∧
    (s.audio.role = .follower → (s.audio.state = .locked ∨ (s.audio.state = .holdover ∧ s.audio.missCount = 1)) → ∃ t,
      exec .missingFrame s = .next t ∧ frameArrives s.audio.lastArrived true { s with audio := { s.audio with
        state := .holdover, missCount := if s.audio.state = .locked then 1 else 2, bitCount := 2 } } t) ∧
    (s.audio.role = .follower → s.audio.state = .holdover → s.audio.missCount = 2 →
      ∀ u : State, u = { s with audio := { s.audio with
          state := .seek, syncRun := 0, seekFresh := true, store := [], lastArrived := ⟨0, 0, 0, 0⟩
          lastDrained := ⟨0, 0, 0, 0⟩, priming := false, missCount := 3, bitCount := 2 } } →
      exec .missingFrame s = .next (if s.audio.everLocked then startCause .audioUnlocked u else u)))

/-- METER_WINDOW_END and AUDIO_SLIP_TIMER_EXPIRY (R151, R157, R158). -/
def Obligations.MeterWindowsFormSegments : Prop :=
  ∀ s : State, running s →
    (s.audio.state ≠ .off → s.audio.windowCount = 960 → ∃ t, exec .meterWindowEnd s = .next t ∧ changesOnly [.audio] s t ∧
      t.audio = { s.audio with meters := t.audio.meters, windowCount := 0 } ∧
      ∀ i : Fin 4, (t.audio.meters[i]).peak = 0 ∧
        (t.audio.meters[i]).segment = ([8389, 26527, 83886, 132950, 265271, 529285, 838861, 1056063, 1491729, 2107123, 2976390,
          4204263, 5292854, 6663308, 7476355, 8388607].filter (· ≤ (s.audio.meters[i]).peak)).length ∧
        ((s.audio.meters[i]).held ≤ (t.audio.meters[i]).segment →
          (t.audio.meters[i]).held = (t.audio.meters[i]).segment ∧ (t.audio.meters[i]).holdCount = 0) ∧
        ((t.audio.meters[i]).segment < (s.audio.meters[i]).held → (s.audio.meters[i]).holdCount < 50 →
          (t.audio.meters[i]).held = (s.audio.meters[i]).held ∧ (t.audio.meters[i]).holdCount = (s.audio.meters[i]).holdCount + 1) ∧
        ((t.audio.meters[i]).segment < (s.audio.meters[i]).held → (s.audio.meters[i]).holdCount = 50 →
          (t.audio.meters[i]).held = (s.audio.meters[i]).held - 1 ∧
          (t.audio.meters[i]).holdCount = (if (t.audio.meters[i]).held = (t.audio.meters[i]).segment then 0 else 50))) ∧
    (s.audio.slipTimer = true → exec .audioSlipTimerExpiry s =
      .next (endCause .audioSlip { s with audio := { s.audio with slipTimer := false } }))

/-- AUDIO_CONFIG and AUDIO_OFF (R155, R159, R160). That a role code above 1 completes with BAD_ARG also where a clip with audio would give
BAD_STATE is the model's reading (log 14). That a second AUDIO_CONFIG as MASTER leaves the lines driven, and that AUDIO_OFF leaves
DONE the record of a current block whose last line is granted, is its reading too (log 34). That AUDIO_CONFIG
leaves the miss count and the bit count, and AUDIO_CONFIG as MASTER the sync run, is its reading as well (log 37). -/
def Obligations.AudioCommandsSetTheRoleAndEnd : Prop :=
  ∀ (h : EntryHead) (role enables : Byte) (s : State), entryReturns s →
    let held := s.clip.audioPart = true ∧ (s.clip.state = .armed ∨ s.clip.state = .recording ∨
      (s.clip.state = .stopping ∧ s.tap.ship < s.clip.stopPos))
    (1 < role.toNat → completesWith (.audioConfig h role enables) s .badArg (afterReturn s)) ∧
    (role.toNat ≤ 1 → held → completesWith (.audioConfig h role enables) s .badState (afterReturn s)) ∧
    (role.toNat ≤ 1 → ¬held → ∃ u, changesOnly [.audio] (afterReturn s) u ∧
      completesWith (.audioConfig h role enables) s .ok (endCause .audioSlip (endCause .audioUnlocked u)) ∧
      u.audio = { s.audio with
        role := if role.toNat = 1 then .master else .follower
        enables := enables.extractLsb' 0 4
        store := [], lastArrived := ⟨0, 0, 0, 0⟩, lastDrained := ⟨0, 0, 0, 0⟩, everLocked := false, priming := false
        slipTimer := false, syncRun := if role.toNat = 1 then s.audio.syncRun else 0, seekFresh := decide (role.toNat = 0)
        state := if role.toNat = 1 then .locked else .seek
        driving := s.audio.driving && decide (role.toNat = 1)
        meters := if s.audio.state = .off then Vector.replicate 4 ⟨0, 0, 0, 0⟩ else s.audio.meters
        windowCount := if s.audio.state = .off then 0 else s.audio.windowCount }) ∧
    (s.audio.state = .off → completesWith (.audioOff h) s .ok (afterReturn s)) ∧
    (s.audio.state ≠ .off → ∃ u, changesOnly [.audio, .clip] (afterReturn s) u ∧
      completesWith (.audioOff h) s .ok (endCause .audioOverrun (endCause .audioSlip (endCause .audioUnlocked u))) ∧
      u.clip = { s.clip with audioPart := if s.clip.state = .idle then s.clip.audioPart else false } ∧
      u.audio = { s.audio with
        state := .off, store := [], slipTimer := false, driving := false, current := none, lines := linesKept s.audio
        blocks := s.audio.blocks.map (fun
          | .filling _ => .free
          | r => r)
        meters := s.audio.meters.map fun m => { m with segment := 0, held := 0, holdCount := 0 } })

/-! ### The Accessory Link Controller -/

/-- The configuration commands of the link (R169, R171 to R174). BAD_ARG for a direction code above 2, OK for the direction NONE (code 0)
whatever the identifier and the owner, also GRIP_IN and ones that another buffer holds, BAD_ARG for stale_cycles 0 in every direction, and
no CMD_DONE where ACC_BUFFER_SET falls on a FULL ONESHOT buffer, are the model's reading (log 28), and the ABORTED CMD_DONE of a waiting start before
the OK of ACC_CONFIG_BEGIN its order (log 11). -/
def Obligations.AccessoryCommandsConfigureTheLink : Prop :=
  ∀ (h : EntryHead) (s : State), entryReturns s →
    (s.acc.link = .off → ∃ u, completesWith (.accConfigBegin h) s .ok u ∧ enteredConfig (afterReturn s) u) ∧
    (s.acc.link = .config →
      (s.acc.startWait = none → completesWith (.accConfigBegin h) s .ok (afterReturn s) ∧
        completesWith (.accConfigEnd h) s .accepted
          { afterReturn s with acc := { s.acc with startWait := some ⟨0x3C, h.tag, h.notify⟩ } }) ∧
      (∀ k, s.acc.startWait = some k → completesWith (.accConfigEnd h) s .busy (afterReturn s) ∧
        completesWith (.accConfigBegin h) s .ok
          (commandDone k .aborted { afterReturn s with acc := { s.acc with startWait := none } }))) ∧
    (s.acc.link = .running →
      (s.acc.stopWait = none → completesWith (.accConfigBegin h) s .accepted
        { afterReturn s with acc := { s.acc with stopWait := some ⟨0x38, h.tag, h.notify⟩ } }) ∧
      (s.acc.stopWait ≠ none → completesWith (.accConfigBegin h) s .busy (afterReturn s))) ∧
    (s.acc.link ≠ .config → completesWith (.accConfigEnd h) s .badState (afterReturn s)) ∧
    (∀ period q ae ac am re rc rm index direction identifier owner mode stale : Byte,
      (s.acc.link ≠ .config ∨ s.acc.startWait ≠ none →
        completesWith (.accLinkSet h period q) s .badState (afterReturn s) ∧
        completesWith (.accFilterSet h ae ac am re rc rm) s .badState (afterReturn s) ∧
        completesWith (.accBufferSet h index direction identifier owner mode stale) s .badState (afterReturn s)) ∧
      (s.acc.link = .config → s.acc.startWait = none →
        let fits := fun n : Nat => n ≤ 8 ∧ ∀ i : Fin 16, i.val < n → s.acc.buffers[i] = .unconfigured
        (periodOf period = none ∨ (q ≠ 0xFF ∧ ¬ fits q.toNat) →
          completesWith (.accLinkSet h period q) s .badArg (afterReturn s)) ∧
        (∀ ms, (period.toNat, ms) ∈ [(0, 2), (1, 4), (2, 5), (3, 8), (4, 10), (255, 4)] → (q ≠ 0xFF → fits q.toNat) →
          completesWith (.accLinkSet h period q) s .ok
            { afterReturn s with acc := { s.acc with periodMs := ms, q := if q = 0xFF then 0 else q.toNat } }) ∧
        ((15 < ac.toNat ∨ 15 < am.toNat ∨ 15 < rc.toNat ∨ 15 < rm.toNat) →
          completesWith (.accFilterSet h ae ac am re rc rm) s .badArg (afterReturn s)) ∧
        (ac.toNat ≤ 15 → am.toNat ≤ 15 → rc.toNat ≤ 15 → rm.toNat ≤ 15 →
          completesWith (.accFilterSet h ae ac am re rc rm) s .ok { afterReturn s with acc := { s.acc with
            filter := ⟨ae != 0, ac.extractLsb' 0 4, am.extractLsb' 0 4, re != 0, rc.extractLsb' 0 4, rm.extractLsb' 0 4⟩ } }) ∧
        (index.toNat < s.acc.q ∨ 15 < index.toNat →
          completesWith (.accBufferSet h index direction identifier owner mode stale) s .badArg (afterReturn s)) ∧
        (stale = 0 → completesWith (.accBufferSet h index direction identifier owner mode stale) s .badArg (afterReturn s)) ∧
        (∀ i : Fin 16, index.toNat = i.val → s.acc.q ≤ i.val → stale ≠ 0 →
          let n : Nat := if stale = 0xFF then 25 else stale.toNat
          let taken := fun b : LinkBuffer =>
            { (if (s.acc.buffers[i]).owner = some .gripIn then endCause .gripStale (afterReturn s) else afterReturn s) with
              acc := { s.acc with buffers := s.acc.buffers.set i b } }
          (direction = 0 → completesWith (.accBufferSet h index direction identifier owner mode stale) s .ok (taken .unconfigured)) ∧
          (2 < direction.toNat ∨ (direction = 1 ∧ 2 ≤ owner.toNat) ∨ (direction = 2 ∧ (owner = 1 ∨ (owner = 0 ∧ 1 < mode.toNat))) ∨
              (direction ≠ 0 ∧ (15 < identifier.toNat ∨ 4 < owner.toNat ∨
                (owner ≠ 0 ∧ ∃ j : Fin 16, j ≠ i ∧ (s.acc.buffers[j]).owner ≠ none ∧ (s.acc.buffers[j]).owner = ownerOf owner))) →
            completesWith (.accBufferSet h index direction identifier owner mode stale) s .badArg (afterReturn s)) ∧
          (identifier.toNat ≤ 15 →
            (direction = 1 ∨ direction = 2 →
              (∃ j : Fin 16, j ≠ i ∧ (s.acc.buffers[j]).identifier = some (identifier.extractLsb' 0 4)) →
              completesWith (.accBufferSet h index direction identifier owner mode stale) s .badArg (afterReturn s)) ∧
            ((∀ j : Fin 16, j ≠ i → (s.acc.buffers[j]).identifier ≠ some (identifier.extractLsb' 0 4)) →
              (owner = 0 → direction = 1 → completesWith (.accBufferSet h index direction identifier owner mode stale) s .ok
                (taken (.receive ⟨identifier.extractLsb' 0 4, .host, n, none, 255, none⟩))) ∧
              (owner = 0 → direction = 2 → mode.toNat ≤ 1 →
                completesWith (.accBufferSet h index direction identifier owner mode stale) s .ok
                  (taken (.transmit ⟨identifier.extractLsb' 0 4, .host, mode == 1, none, none⟩))) ∧
              (owner = 1 → direction = 1 → (∀ j : Fin 16, j ≠ i → (s.acc.buffers[j]).owner ≠ some .gripIn) →
                completesWith (.accBufferSet h index direction identifier owner mode stale) s .ok
                  (taken (.receive ⟨identifier.extractLsb' 0 4, .gripIn, n, none, 255, none⟩))) ∧
              (∀ o, (owner.toNat, o) ∈ [(2, BufferOwner.tallyOut), (3, .meterOut), (4, .lensOut)] → direction = 2 →
                (∀ j : Fin 16, j ≠ i → (s.acc.buffers[j]).owner ≠ some o) →
                completesWith (.accBufferSet h index direction identifier owner mode stale) s .ok
                  (taken (.transmit ⟨identifier.extractLsb' 0 4, o, false, none, none⟩))))))))

/-- ACC_SEND, ACC_SLOT_START and ACC_TRANSMIT_DONE, and the levels of a message on the line (R165, R181, R182). The ABORTED
CMD_DONE of the replaced send before the ACCEPTED of the new one is the model's order (log 11). That a slot start outside RUNNING, and
ACC_TRANSMIT_DONE with no message on the line, change nothing is its choice (log 5). -/
def Obligations.SendsGoOutInTheirSlot : Prop :=
  (∀ (h : EntryHead) (index length : Byte) (data : List Byte) (s : State), entryReturns s → data.length = 12 →
    (15 < index.toNat ∨ 12 < length.toNat → completesWith (.accSend h index length data) s .badArg (afterReturn s)) ∧
    (∀ i : Fin 16, index.toNat = i.val → length.toNat ≤ 12 →
      ((∀ x, s.acc.buffers[i] = .transmit x → x.owner ≠ .host) →
        completesWith (.accSend h index length data) s .badArg (afterReturn s)) ∧
      (∀ x, s.acc.buffers[i] = .transmit x → x.owner = .host →
        let full := fun (w : Option Kept) => { afterReturn s with acc := { s.acc with
          buffers := s.acc.buffers.set i (.transmit { x with content := some ⟨data.take length.toNat⟩, waitingSend := w }) } }
        let waits := full (some ⟨0x3D, h.tag, h.notify⟩)
        (x.oneshot = false → completesWith (.accSend h index length data) s .ok (full x.waitingSend)) ∧
        (x.oneshot = true →
          (x.content = none ∨ x.waitingSend = none → completesWith (.accSend h index length data) s .accepted waits) ∧
          (∀ k, x.content ≠ none → x.waitingSend = some k →
            completesWith (.accSend h index length data) s .accepted (commandDone k .aborted waits)))))) ∧
  (∀ (n : BitVec 4) (s : State), running s →
    (s.acc.link ≠ .running → exec (.accSlotStart n) s = .next s) ∧
    (s.acc.link = .running →
      ((∀ i : Fin 16, ∀ x c, s.acc.buffers[i] = .transmit x → x.identifier = n → x.content ≠ some c) →
        exec (.accSlotStart n) s = .next { s with acc := { s.acc with line := .released } }) ∧
      (∀ i x c, s.acc.bufferFor n = some i → s.acc.buffers[i] = .transmit x → x.content = some c →
        let body := ([n.zeroExtend 8, BitVec.ofNat 8 c.data.length] : List Byte) ++ c.data
        exec (.accSlotStart n) s = .next { s with acc := { s.acc with
          line := .message n (body ++ [crc8 body]) (if x.oneshot then x.waitingSend else none)
          buffers := s.acc.buffers.set i
            (.transmit (if x.oneshot then { x with content := none, waitingSend := none } else x)) } }))) ∧
  (∀ s : State, running s →
    (∀ n bytes, s.acc.line = .message n bytes none →
      exec .accTransmitDone s = .next { s with acc := { s.acc with line := .released } }) ∧
    (∀ n bytes k, s.acc.line = .message n bytes (some k) →
      exec .accTransmitDone s = .next (commandDone k .ok { s with acc := { s.acc with line := .released } })) ∧
    (s.acc.line = .released ∨ s.acc.line = .mark → exec .accTransmitDone s = .next s)) ∧
  (∀ (n : BitVec 4) (bytes : List Byte) (send : Option Kept),
    (LineDrive.message n bytes send).levels = bytes.flatMap fun b =>
      [false, b.getLsbD 0, b.getLsbD 1, b.getLsbD 2, b.getLsbD 3, b.getLsbD 4, b.getLsbD 5, b.getLsbD 6, b.getLsbD 7, true])

/-- CYCLE_INSTANT (R169 to R171, R180, R183). The effects of the entry to CONFIG before the CMD_DONE of ACC_CONFIG_BEGIN are the model's
order (log 11). -/
def Obligations.CycleInstantsStartCyclesOrEnterConfig : Prop :=
  ∀ s : State, running s →
    (s.acc.link = .off ∨ (s.acc.link = .config ∧ s.acc.startWait = none) → exec .cycleInstant s = .next s) ∧
    (s.acc.link = .running → s.acc.stopWait = none → ∃ t, exec .cycleInstant s = .next t ∧ cycleStarted s t) ∧
    (∀ k, s.acc.link = .config → s.acc.startWait = some k →
      ∃ u, exec .cycleInstant s = .next (commandDone k .ok u) ∧ cycleStarted s u) ∧
    (∀ k, s.acc.link = .running → s.acc.stopWait = some k →
      ∃ u, exec .cycleInstant s = .next (commandDone k .ok u) ∧ enteredConfig s u ∧
        ∀ (i : Fin 16) (x : TransmitBuffer) (w : Kept), s.acc.buffers[i] = .transmit x → x.owner = .host → x.oneshot = true →
          x.content ≠ none → x.waitingSend = some w →
          (∀ (j : Fin 16) (y : TransmitBuffer), j ≠ i → s.acc.buffers[j] = .transmit y → y.owner = .host → y.oneshot = true →
            y.content = none ∨ y.waitingSend = none) →
          u.control = (endCause .accLinkError (commandDone w .aborted (endCause .gripStale (endCause .accQueueOverrun s)))).control) ∧
    (∀ (i : Fin 16) (r : ReceiveBuffer), s.acc.link = .running → s.acc.stopWait = none → s.acc.buffers[i] = .receive r →
      r.owner = .host → r.freshness ≤ r.staleCycles → r.staleCycles < min 255 (r.freshness + 1) →
      (∀ (j : Fin 16) (q : ReceiveBuffer), j ≠ i → s.acc.buffers[j] = .receive q →
        q.staleCycles < q.freshness ∨ min 255 (q.freshness + 1) ≤ q.staleCycles) →
      ∃ t, exec .cycleInstant s = .next t ∧ t.control = (postNotice (.accMsg i.val r.identifier true [])
        (if s.acc.errors <<< 1 = 0 then endCause .accLinkError s else s)).control)

/-- ACC_MESSAGE_RECEIVE and ACC_SLOT_END (R166 to R168, R174, R175, R178, R180), and what a press edge does (R29). ACC_SLOT_END as the end
of a slot within its message, the second message without effect and the queue message written at once are the model's reading (log 28),
and so are the clip number of the REFUSED notice (log 21), the order of block numbers at the start and stop of a clip (log 22)
and STARTED and STOPPED after CARD_STATE (log 11); the unchanged state outside RUNNING is its choice (log 5). -/
def Obligations.MessagesAreJudgedAndRouted : Prop :=
  (∀ (n : BitVec 4) (m : LinkMessage) (s : State), running s → m.wellFormed = true →
    let shut := s.acc.link ≠ .running ∨ (∃ (i : Fin 16) (x : TransmitBuffer), s.acc.buffers[i] = .transmit x ∧ x.identifier = n) ∨
      s.acc.heard.getLsbD n.toNat = true
    let judged := { s with acc := { s.acc with heard := s.acc.heard ||| (1 <<< n.toNat) } }
    let good := m.length.toNat ≤ 12 ∧ crc8 (m.identifier :: m.length :: m.data) = m.crc ∧ m.identifier = n.zeroExtend 8
    let failed := fun t : State =>
      changesOnly [.acc, .control] s t ∧ t.acc = { judged.acc with errors := s.acc.errors ||| 1 } ∧
        (s.acc.errors = 0 → causePresent t .accLinkError = true) ∧ (s.acc.errors ≠ 0 → t.control = s.control)
    let passes := s.acc.filter.acceptEnable = true ∧
      n &&& s.acc.filter.acceptMask = s.acc.filter.acceptCode &&& s.acc.filter.acceptMask ∧
      ¬(s.acc.filter.rejectEnable = true ∧ n &&& s.acc.filter.rejectMask = s.acc.filter.rejectCode &&& s.acc.filter.rejectMask)
    ((∃ (i : Fin 16) (x : TransmitBuffer), s.acc.bufferFor n = some i ∧ s.acc.buffers[i] = .transmit x) ∨ s.acc.link ≠ .running ∨
        s.acc.heard.getLsbD n.toNat = true →
      exec (.accMessageReceive n m) s = .next s ∧ exec (.accSlotEnd n) s = .next s) ∧
    (¬ shut →
      (∃ t, exec (.accSlotEnd n) s = .next t ∧ failed t) ∧
      (¬ good → ∃ t, exec (.accMessageReceive n m) s = .next t ∧ failed t) ∧
      (good →
        (∀ (i : Fin 16) (r : ReceiveBuffer), s.acc.bufferFor n = some i → s.acc.buffers[i] = .receive r →
          let kept := fun notified : Option LinkContent => { judged with acc := { judged.acc with
            buffers := s.acc.buffers.set i (.receive { r with content := some ⟨m.data⟩, freshness := 0, notified := notified }) } }
          let edge := r.freshness ≤ r.staleCycles ∧ recBit r.content = false ∧ recBit (some ⟨m.data⟩) = true
          (r.owner = .host → r.notified = some ⟨m.data⟩ → exec (.accMessageReceive n m) s = .next (kept r.notified)) ∧
          (r.owner = .host → r.notified ≠ some ⟨m.data⟩ → exec (.accMessageReceive n m) s =
            .next (postNotice (.accMsg i.val r.identifier false m.data) (kept (some ⟨m.data⟩)))) ∧
          (r.owner = .gripIn → r.staleCycles < r.freshness →
            exec (.accMessageReceive n m) s = .next (endCause .gripStale (kept r.notified))) ∧
          (r.owner = .gripIn → r.freshness ≤ r.staleCycles → ¬ edge → exec (.accMessageReceive n m) s = .next (kept r.notified)) ∧
          (r.owner = .gripIn → edge → exec (.accMessageReceive n m) s = .next (gripPress (kept r.notified)))) ∧
        ((∀ i : Fin 16, (s.acc.buffers[i]).identifier ≠ some n) →
          (s.acc.q = 0 ∨ ¬ passes → exec (.accMessageReceive n m) s = .next judged) ∧
          (passes → 1 ≤ s.acc.q → s.acc.q ≤ s.acc.queue.length → exec (.accMessageReceive n m) s =
            .next (startCause .accQueueOverrun judged)) ∧
          (passes → s.acc.queue.length < s.acc.q → 64 ≤ unread s → exec (.accMessageReceive n m) s =
            .next { judged with acc := { judged.acc with queue := s.acc.queue ++ [⟨n, m.data⟩] } }) ∧
          (passes → 1 ≤ s.acc.q → s.acc.queue = [] → s.control.pendingNotices = [] → unread s < 64 →
            ∃ t, exec (.accMessageReceive n m) s = .next t ∧ changesOnly [.acc, .control] s t ∧ t.acc = judged.acc ∧
              t.control.reportProducer = s.control.reportProducer + 1))))) ∧
  (∀ s : State,
    let number := s.clip.lastClip + 1
    let refused := fun r : Result => gripPress s = postNotice (.recState .refused .idle (some r) s.clip.mode number 0) s
    (s.clip.gripRec = false ∨ s.clip.state = .stopping → gripPress s = s) ∧
    (s.clip.gripRec = true →
      (s.clip.state = .idle →
        (¬recordable s → refused .badState) ∧
        (recordable s → s.clip.pages ≠ [] → refused .busy) ∧
        (recordable s → s.clip.pages = [] → ¬firstReady s → refused .noMedia) ∧
        (recordable s → s.clip.pages = [] → firstReady s →
          ∃ v, gripPress s = postNotice (.recState .started v.clip.state none s.clip.mode number 0) v ∧ startsClip number s v)) ∧
      (s.clip.state = .armed → ∃ v, stopsArmed s v ∧
        gripPress s = postNotice (.recState .stopped .idle none s.clip.mode s.clip.clipNumber 0) v) ∧
      (s.clip.state = .recording → s.tap.ship < s.tap.cursor →
        ∃ a, audioStopFixed s a ∧ gripPress s = stopTaken none a s) ∧
      (s.clip.state = .recording → s.tap.cursor ≤ s.tap.ship → s.tap.held = none →
        ∃ a, audioStopFixed s a ∧ gripPress s = endCause .streamOverrun (stopTaken none a s))))

/-! ### The Clip Assembler -/

/-- REC_CONFIG, REC_START and REC_STOP, with the beginning of a clip and the place of its audio (R15, R22 to R27, R154). STARTED and STOPPED
after the CARD_STATE notices of the cards are the model's order (log 11), and the order of block numbers by their signed distance
from the next one is its reading (log 22). -/
def Obligations.RecCommandsBeginAndStopClips : Prop :=
  ∀ (h : EntryHead) (s : State), entryReturns s →
    (∀ (mode gripRec : Byte) (chunkMax chunkMin : Word32),
      let mx : Nat := if chunkMax = 0xFFFFFFFF then 262144 else chunkMax.toNat
      let mn : Nat := if chunkMin = 0xFFFFFFFF then 65536 else chunkMin.toNat
      let good := 65536 ≤ mx ∧ mx ≤ 1048576 ∧ mx % 4096 = 0 ∧ 16384 ≤ mn ∧ mn ≤ mx
      (s.clip.state ≠ .idle → completesWith (.recConfig h mode gripRec chunkMax chunkMin) s .badState (afterReturn s)) ∧
      (s.clip.state = .idle → ((4 < mode.toNat ∧ mode ≠ 0xFF) ∨ ¬ good) →
        completesWith (.recConfig h mode gripRec chunkMax chunkMin) s .badArg (afterReturn s)) ∧
      (∀ m, s.clip.state = .idle → good →
        (mode.toNat, m) ∈ [(0, Mode.singleA), (1, .singleB), (2, .relayAB), (3, .relayBA), (4, .mirror), (255, .singleA)] →
        completesWith (.recConfig h mode gripRec chunkMax chunkMin) s .ok { afterReturn s with clip := { s.clip with
          mode := m, chunkMax := mx, chunkMin := mn, gripRec := gripRec != 0 && gripRec != 0xFF } })) ∧
    (∀ clip : Word16,
      (s.clip.state ≠ .idle ∨ ¬recordable s → completesWith (.recStart h clip) s .badState (afterReturn s)) ∧
      (s.clip.state = .idle → recordable s →
        (s.clip.pages ≠ [] → completesWith (.recStart h clip) s .busy (afterReturn s)) ∧
        (s.clip.pages = [] → ¬firstReady s → completesWith (.recStart h clip) s .noMedia (afterReturn s)) ∧
        (s.clip.pages = [] → firstReady s →
          ∃ v, completesWith (.recStart h clip) s .ok
              (postNotice (.recState .started v.clip.state none s.clip.mode clip 0) v) ∧
            startsClip clip (afterReturn s) v))) ∧
    (s.clip.state = .idle ∨ s.clip.state = .stopping → completesWith (.recStop h) s .badState (afterReturn s)) ∧
    (s.clip.state = .armed →
      ∃ v, completesWith (.recStop h) s .ok (postNotice (.recState .stopped .idle none s.clip.mode s.clip.clipNumber 0) v) ∧
        stopsArmed (afterReturn s) v) ∧
    (s.clip.state = .recording →
      (s.tap.ship < s.tap.cursor → ∃ a, audioStopFixed s a ∧
        completesWith (.recStop h) s .accepted (stopTaken (some ⟨0x12, h.tag, h.notify⟩) a (afterReturn s))) ∧
      (s.tap.cursor ≤ s.tap.ship → s.tap.held = none → ∃ a, audioStopFixed s a ∧
        completesWith (.recStop h) s .accepted
          (endCause .streamOverrun (stopTaken (some ⟨0x12, h.tag, h.notify⟩) a (afterReturn s)))))

/-- CHUNK_CHOICE (R30 to R35, R38, R39, R41, R42). That the end of the card is tested at the boundary before the choice is the model's
reading (log 19), and so are the order of block numbers in the test against the stop block and the distance of R156 as a signed value, by
which a pointer one beyond a current block that is DONE already ends the cause (log 22), and the INDEX chunk that a CHUNK_CHOICE lays
of 255 entries also where the clip could close (log 32). That nothing changes away from a boundary is its choice (log 5). -/
def Obligations.BoundariesChooseIndexAudioThenVideo : Prop :=
  (∀ (c : Clip) (kind flags : Byte) (len locator first : Nat) (stamp : Word32) (body : List Byte),
    body = [0xA7, 0xC1, 0xB3, 0xD5, kind, flags ||| (if c.targets.a && c.targets.b then 8 else 0)] ++ littleEndian 2 c.clipNumber.toNat
      ++ littleEndian 4 c.chunkSeq.toNat ++ littleEndian 4 len ++ littleEndian 8 locator ++ littleEndian 4 stamp.toNat
      ++ littleEndian 2 first →
    chunkHeader c kind flags len locator stamp first = body ++ littleEndian 2 (crc16 body).toNat) ∧
  (∀ s : State, running s → ¬ chunkBoundary s → exec .chunkChoice s = .next s) ∧
  (∀ s : State, chunkBoundary s → s.clip.readReq = none →
    let videoTaken := fun (l : Nat) (t : State) =>
      ∃ r, streamRegion s = some r ∧ changesOnly [.clip, .tap] s t ∧ t.tap = { s.tap with discontinuity := false } ∧
        t.clip = { lay { s.clip with
            lay := [⟨true, chunkHeader s.clip 2 (if s.tap.discontinuity then 1 else 0) l s.tap.ship s.clip.videoStamp 0⟩]
            chunkSeq := s.clip.chunkSeq + 1 } with
          run := .video s.tap.ship s.tap.ship (s.tap.ship + l), readReq := t.clip.readReq } ∧
        ∃ q, t.clip.readReq = some q ∧ q.addr = (r.base + s.tap.ship % r.size) / 8 * 8
    (roomUnbounded s →
      (255 ≤ s.clip.index.length → exec .chunkChoice s = .next { s with clip := lay { s.clip with
        lay := [⟨true, chunkHeader s.clip 4 0 (16 * s.clip.index.length) 0 ((s.clip.index.getLast?.map Entry.frame).getD 0) 0
          ++ s.clip.index.flatMap (indexEntryBytes s.clip.clipStart)⟩]
        chunkSeq := s.clip.chunkSeq + 1, index := [] } }) ∧
      (∀ p i base size, s.clip.index.length < 255 → s.clip.audioPart = true → s.clip.shipPtr = some p →
        doneBlock s.audio p = some i → audioRegion s = some (base, size) →
        (s.clip.state = .stopping → ∃ b, s.clip.audioStop = .upTo b ∧ blockPlace s.audio p ≤ blockPlace s.audio b) →
        ∃ t, exec .chunkChoice s = .next t ∧ changesOnly [.clip, .control] s t ∧
          t.clip = { lay { s.clip with
              lay := [⟨true, chunkHeader s.clip 3 ((if s.clip.audioDiscontinuity then 1 else 0)
                ||| (if i.flags.degraded || i.flags.muted != 0 then 2 else 0)) 12288 p.toNat i.stamp 0⟩]
              chunkSeq := s.clip.chunkSeq + 1 } with
            run := .audio (p.toNat % s.audio.blocks.length) (base + 12288 * (p.toNat % s.audio.blocks.length)) 0 0
            shipPtr := some (p + 1), audioDiscontinuity := false
            readReq := some ⟨base + 12288 * (p.toNat % s.audio.blocks.length), 128, unissuedWrites s⟩ } ∧
          let near := fun c : CurrentBlock => 2 * (c.number - (p + 1)).toInt < s.audio.blocks.length
          (∀ c, s.audio.current = some c → near c → t.control = (endCause .audioOverrun s).control) ∧
          ((∀ c, s.audio.current = some c → ¬near c) → t.control = s.control)) ∧
      (s.clip.index.length < 255 → noAudioDue s → ∀ b l, backlogIs s b → videoLengthIs s l →
        ((b = 0 ∨ (b < s.clip.chunkMin ∧ s.clip.state ≠ .stopping)) → exec .chunkChoice s = .next s) ∧
        (∀ r, streamRegion s = some r → 0 < l → (s.clip.chunkMin ≤ b ∨ s.clip.state = .stopping) →
          ∃ t, exec .chunkChoice s = .next t ∧ videoTaken l t))) ∧
    (∀ slot m, roomIs s slot m →
      (∀ b l r, s.clip.index.length < 255 → noAudioDue s → backlogIs s b → videoLengthIs s l → streamRegion s = some r →
        (s.clip.chunkMin ≤ b ∨ s.clip.state = .stopping) → 32 < m → m < 32 + l →
        ∃ t, exec .chunkChoice s = .next t ∧ videoTaken (m - 32) t) ∧
      (m = 0 →
        let other := if slot = .a then CardSlot.b else .a
        let otherReady := (s.card other).state = .ready ∧ (s.card other).chain = .set ∧ (s.card other).request = none
        (s.clip.mode = .relayAB ∨ s.clip.mode = .relayBA → otherReady → openPage s.clip = none →
          ∃ t, exec .chunkChoice s = .next t ∧ changesOnly [.clip, .card other, .control] s t ∧
            t.card other = { s.card other with state := .active } ∧
            t.clip = { s.clip with targets := CardSet.only other, relayHead := true }) ∧
        (s.clip.mode = .singleA ∨ s.clip.mode = .singleB ∨ s.clip.mode = .mirror ∨
            ((s.clip.mode = .relayAB ∨ s.clip.mode = .relayBA) ∧ ¬ otherReady) →
          ∃ t, exec .chunkChoice s = .next t ∧ t.clip.state = .idle ∧ t.clip.index = [] ∧ t.clip.readReq = none ∧
            causePresent t .mediaExhausted = true ∧ abortReported s t ∧
            changesOnly [.clip, .tap, .path, .card .a, .card .b, .control] s t))))

/-- VIDEO_PAYLOAD_READ_RETURN and AUDIO_PAYLOAD_READ_RETURN (R5, R33, R34), in RECORDING and in STOPPING up to the end of assembly, and the
re-test of a held write at the advance of ship (R12, R14, R15). That a hold in which a REC_STOP was taken is kept where R12 alone would
release it is the model's reading of R15 (log 31); that every entry passed is moved, also above 255 entries of the Clip Index, its choice
(log 32). -/
def Obligations.PayloadReturnsAreLaidAndShipped : Prop :=
  ∀ (data : List Byte) (s : State),
    (∀ x start stop skip next last, returns s ⟨x, .video start stop skip⟩ → data.length = x.len →
      s.clip.run = .video next start last →
      let laid := lay { s.clip with
        lay := s.clip.lay ++ [⟨false, (data.drop skip).take (stop - start)⟩]
        run := if stop < last then .video next stop last else .none }
      let moved := s.tap.entries.filter fun e => e.pos < stop
      let indexed := { laid with
        index := s.clip.index ++ moved
        videoStamp := (moved.getLast?.map Entry.frame).getD s.clip.videoStamp }
      let shipped := { s.tap with ship := stop, floor := stop, entries := s.tap.entries.filter fun e => stop ≤ e.pos }
      let live := s.clip.state = .recording ∨ (s.clip.state = .stopping ∧ s.tap.ship < s.clip.stopPos)
      let goesOn := s.clip.state = .recording ∨ stop < s.clip.stopPos
      (¬live ∨ stop ≤ s.tap.ship → exec (.videoPayloadReadReturn data) s = .next { afterReturn s with clip := laid }) ∧
      (live → s.tap.ship < stop → s.tap.held = none → ∃ t, exec (.videoPayloadReadReturn data) s = .next t ∧
        changesOnly [.clip, .tap, .control] (afterReturn s) t ∧ t.tap = shipped ∧ t.clip = indexed ∧
        t.control = { s.control with conditions := t.control.conditions } ∧
        (∀ c, c ≠ .streamOverrun → condState t c = condState s c) ∧
        (∀ r, streamRegion s = some r → 2 * (s.tap.cursor - stop) < r.size → causePresent t .streamOverrun = false) ∧
        (¬goesOn → causePresent t .streamOverrun = false)) ∧
      (∀ w r, live → s.tap.ship < stop → s.tap.held = some w → streamRegion s = some r →
        let fits := w.newCursor - stop ≤ r.size
        (goesOn → ¬fits ∨ s.tap.stopHold = true → ∃ t, exec (.videoPayloadReadReturn data) s = .next t ∧
          changesOnly [.clip, .tap, .control] (afterReturn s) t ∧ t.tap = shipped ∧ t.clip = indexed) ∧
        (goesOn ∧ fits ∧ s.tap.stopHold = false ∨ ¬goesOn → ∃ t, exec (.videoPayloadReadReturn data) s = .next t ∧
          changesOnly [.clip, .tap, .path, .control] (afterReturn s) t ∧ t.clip = indexed ∧
          t.path = { (afterReturn s).path with
            queue := s.path.queue.map fun e => { e with progress := if e.progress = .held then .waiting else e.progress } } ∧
          t.tap.held = none ∧ t.tap.stopHold = false ∧ t.tap.cursor = w.newCursor ∧ t.tap.ship = t.tap.floor ∧
          t.tap.floor = (if s.clip.state = .recording ∨ stop < s.clip.stopPos then stop
            else max stop (w.newCursor - r.prerecordBytes)) ∧
          t.tap.entries = s.tap.entries.filter (fun e => t.tap.floor ≤ e.pos) ∧
          (¬goesOn → causePresent t .streamOverrun = false)))) ∧
    (∀ x slot base next returned, returns s ⟨x, .audioPayload⟩ → data.length = x.len → s.clip.run = .audio slot base next returned →
      exec (.audioPayloadReadReturn data) s = .next { afterReturn s with clip := lay { s.clip with
        lay := s.clip.lay ++ [⟨false, data⟩]
        run := if returned + 1 < 96 then .audio slot base next (returned + 1) else .none } })

/-- PAGE_OPEN, CLIP_CLOSE and RECORDING_STOPPED (R28, R36, R37, R39). STOPPED before the CMD_DONE of REC_STOP is the model's order (log 11),
a block that the table no longer holds as shipped its reading (log 12), and so are the order of block numbers (log 22) and that CLIP_CLOSE lays
the closing INDEX chunk also with 255 entries or more (log 32); the unchanged state of rows out of place is its choice (log 5), and so are the
audio ship pointer that names no block and the clear audio discontinuity mark at STOPPED (log 32). -/
def Obligations.PagesOpenAndClipsClose : Prop :=
  (∀ (c : Clip) (p : PageRecord), openPage c = some p → p.content.length ≤ 4096 →
    ∃ q, (lay c).pages = c.pages.dropLast ++ [q] ∧
      q.content ++ (lay c).lay.flatMap LayRun.bytes = p.content ++ c.lay.flatMap LayRun.bytes ∧
      q.content.length = min 4096 (p.content.length + (c.lay.flatMap LayRun.bytes).length) ∧
      (q.sealed = true ↔ q.content.length = 4096) ∧ q.target = p.target ∧ q.clip = p.clip ∧
      (lay c).chunkSeq = c.chunkSeq ∧ (lay c).state = c.state) ∧
  (∀ s : State, running s →
    (openPage s.clip ≠ none ∨ 8 ≤ s.clip.pages.length ∨ s.clip.state = .idle ∨ s.clip.state = .armed →
      exec .pageOpen s = .next s) ∧
    (s.clip.state = .recording ∨ s.clip.state = .stopping → openPage s.clip = none → s.clip.pages.length < 8 →
      s.clip.relayHead = true ∨ s.clip.lay ≠ [] ∨ s.clip.run ≠ .none ∨ (s.clip.closed = false ∧ roomUnbounded s) →
      let page : PageRecord := ⟨s.clip.clipNumber, s.clip.targets, ⟨false, false⟩, ⟨false, false⟩, 4096, false, []⟩
      let head := chunkHeader s.clip 1 4 32 0 s.clip.startFrame 64 ++ littleEndian 2 s.clip.clipNumber.toNat
        ++ [s.clip.mode.code, s.clip.targets.role] ++ littleEndian 4 s.clip.startFrame.toNat ++ littleEndian 8 s.clip.preRecord
        ++ littleEndian 2 64 ++ List.replicate 14 (0 : Byte)
      exec .pageOpen s = .next (presentClipRead { s with clip := lay { s.clip with
        pages := s.clip.pages ++ [page], relayHead := false
        lay := if s.clip.relayHead then ⟨true, head⟩ :: s.clip.lay else s.clip.lay
        chunkSeq := if s.clip.relayHead then s.clip.chunkSeq + 1 else s.clip.chunkSeq } }))) ∧
  (∀ s : State, running s →
    ((s.clip.state ≠ .stopping ∨ s.tap.ship < s.clip.stopPos) → exec .clipClose s = .next s) ∧
    (chunkBoundary s → s.clip.state = .stopping → s.clip.stopPos ≤ s.tap.ship → roomUnbounded s →
      (s.clip.audioPart = false ∨ s.clip.audioStop = .nothing ∨ (∃ b p, s.clip.audioStop = .upTo b ∧ s.clip.shipPtr = some p ∧
        ∀ i, BlockRecord.done i ∈ s.audio.blocks ∨ BlockRecord.filling i ∈ s.audio.blocks →
          ¬(blockPlace s.audio p ≤ blockPlace s.audio i.number ∧ blockPlace s.audio i.number ≤ blockPlace s.audio b))) →
      let n := (4096 - (openUsed s.clip + 32 + 16 * s.clip.index.length) % 4096) % 4096
      let chunk : LayRun := ⟨true, chunkHeader s.clip 4 0 (16 * s.clip.index.length) 0
        ((s.clip.index.getLast?.map Entry.frame).getD 0) 0 ++ s.clip.index.flatMap (indexEntryBytes s.clip.clipStart)⟩
      let pad : LayRun := ⟨true, chunkHeader { s.clip with chunkSeq := s.clip.chunkSeq + 1 } 5 0 (n - 32) 0 0 0
        ++ List.replicate (n - 32) (0 : Byte)⟩
      exec .clipClose s = .next { s with clip := { lay { s.clip with
          index := []
          lay := if n = 0 then [chunk] else if n < 32 then [chunk, ⟨false, List.replicate n (0 : Byte)⟩] else [chunk, pad]
          chunkSeq := if n < 32 then s.clip.chunkSeq + 1 else s.clip.chunkSeq + 2 } with closed := true } })) ∧
  (∀ s : State, running s →
    (s.clip.state ≠ .stopping ∨ s.clip.closed = false ∨ s.clip.pages ≠ [] → exec .recordingStopped s = .next s) ∧
    (s.clip.state = .stopping → s.clip.closed = true → s.clip.lay = [] → s.clip.pages = [] →
      ∃ u, changesOnly [.clip, .card .a, .card .b, .control] s u ∧
        u.clip = { s.clip with
          state := .idle, stopCmd := none, closed := false, shipPtr := none, audioDiscontinuity := false } ∧
        (∀ slot, cardMoved s u slot (if (s.card slot).state = .active then .ready else (s.card slot).state)) ∧
        let v := postNotice (.recState .stopped .idle none s.clip.mode s.clip.clipNumber s.clip.chunkSeq) u
        exec .recordingStopped s = .next (match s.clip.stopCmd with
          | some k => commandDone k .ok v
          | none => v)))

/-! ### The Card Controllers -/

/-- The card commands (R52, R65, R66, R67). The slot code of SLEEP, WAKE and EJECT is the model's (log 13), and so is that SLEEP abandons an
UNLOCK whose STATUS has not come (log 24); the ABORTED CMD_DONE of an earlier CHAIN before the ACCEPTED of the new one is the model's
order (log 11). -/
def Obligations.CardCommandsAreJudgedByCardState : Prop :=
  ∀ (h : EntryHead) (code : Byte) (group : Word32) (s : State), entryReturns s →
    (1 < code.toNat → completesWith (.cardChain h code group) s .badArg (afterReturn s) ∧
      completesWith (.cardSleep h code) s .badArg (afterReturn s) ∧ completesWith (.cardWake h code) s .badArg (afterReturn s) ∧
      completesWith (.cardEject h code) s .badArg (afterReturn s)) ∧
    (group.toNat % 32 ≠ 0 → completesWith (.cardChain h code group) s .badArg (afterReturn s)) ∧
    (∀ x, (code.toNat, x) ∈ [(0, CardSlot.a), (1, CardSlot.b)] →
      let c := s.card x
      let set := fun d : Card => (afterReturn s).setCard x d
      (c.request ≠ none →
        (group.toNat % 32 = 0 → completesWith (.cardChain h code group) s .busy (afterReturn s)) ∧
        completesWith (.cardSleep h code) s .busy (afterReturn s) ∧ completesWith (.cardEject h code) s .busy (afterReturn s)) ∧
      (c.state ≠ .asleep → completesWith (.cardWake h code) s .badState (afterReturn s)) ∧
      (c.state = .asleep → c.phase = .wake → completesWith (.cardWake h code) s .busy (afterReturn s) ∧
        (c.request = none → completesWith (.cardEject h code) s .busy (afterReturn s))) ∧
      (c.state = .asleep → c.phase ≠ .wake → completesWith (.cardWake h code) s .accepted (set { c with
        phase := .wake, wakeCmd := some ⟨0x1A, h.tag, h.notify⟩, issuedOps := [.wake], statusOut := false })) ∧
      (c.request = none →
        (c.state = .active ∨ c.state = .absent ∨ c.state = .probing ∨ c.state = .asleep ∨ (c.state = .failed ∧ c.identified = false) →
          group.toNat % 32 = 0 → completesWith (.cardChain h code group) s .badState (afterReturn s)) ∧
        (c.state ≠ .ready → c.state ≠ .full → completesWith (.cardSleep h code) s .badState (afterReturn s)) ∧
        (c.state = .absent ∨ c.state = .probing → completesWith (.cardEject h code) s .badState (afterReturn s)) ∧
        (c.state = .active → completesWith (.cardEject h code) s .busy (afterReturn s)) ∧
        (c.state = .ready ∨ c.state = .full ∨ c.state = .writeProtected ∨ (c.state = .failed ∧ c.identified = true) →
          group.toNat % 32 = 0 →
          ∃ u, completesWith (.cardChain h code group) s .accepted u ∧ changesOnly [.card x, .control, .path] (afterReturn s) u ∧
            (u.card x).state = c.state ∧ (u.card x).chain = .loading ∧ (u.card x).chainCmd = some ⟨0x18, h.tag, h.notify⟩ ∧
            (u.card x).fetchReq = some ⟨group.toNat, 32, unissuedWrites s⟩ ∧ (u.card x).nextGroup = group.toNat + 32 ∧
            (u.card x).linkRun = 0 ∧ (u.card x).lookahead = .unresolved ∧ (u.card x).badAus = c.badAus ∧
            u.control = (match c.chainCmd with
              | some k => (commandDone k .aborted (afterReturn s)).control
              | none => s.control) ∧
            u.path = { (afterReturn s).path with inFlight := u.path.inFlight } ∧
            (∀ i ∈ u.path.inFlight, i.dest ≠ .card x)) ∧
        (c.state = .ready ∨ c.state = .full →
          (c.erase = none → ∃ u, completesWith (.cardSleep h code) s .ok u ∧ changesOnly [.card x, .control] (afterReturn s) u ∧
            u.card x = { c with
              state := .asleep, phase := .idle, statusOut := false, issuedOps := [.sleep]
              sleepOrigin := if c.state = .ready then .ready else .full }) ∧
          (∀ e, c.erase = some e → e.held = false → completesWith (.cardSleep h code) s .accepted
            (set { c with request := some (.sleep ⟨0x19, h.tag, h.notify⟩) }))) ∧
        (c.state = .asleep → c.phase ≠ .wake → ∃ u, completesWith (.cardEject h code) s .ok u ∧ (u.card x).state = .asleep ∧
          (u.card x).chain = .none ∧ (u.card x).sleepOrigin = .none ∧ changesOnly [.card x, .control, .path] (afterReturn s) u) ∧
        (c.state = .ready ∨ c.state = .full ∨ c.state = .failed ∨ c.state = .writeProtected →
          (c.erase = none → ∃ u, completesWith (.cardEject h code) s .ok u ∧ (u.card x).state = .asleep ∧
            (u.card x).chain = .none ∧ (u.card x).sleepOrigin = .none ∧ (u.card x).issuedOps = [.sleep] ∧
            (c.state = .failed → causePresent u (slotFault x) = false) ∧
            changesOnly [.card x, .control, .path] (afterReturn s) u) ∧
          (c.erase ≠ none → ∃ u, completesWith (.cardEject h code) s .accepted u ∧ (u.card x).state = c.state ∧
            (u.card x).chain = .none ∧ (u.card x).request = some (.eject ⟨0x1B, h.tag, h.notify⟩) ∧
            changesOnly [.card x, .control, .path] (afterReturn s) u))))

/-- CARD_DETECT_ACTIVE, CARD_SETTLE_EXPIRY, CARD_IDENT_RETRY, CARD_IDENT_RESPONSE, CARD_IDENT_TIMEOUT and CARD_REMOVAL (R46 to R51); for an
ACTIVE card, its FAILED entry at the removal (R40 to R42, R50), whose effect on the clip LostAndEndedCardsMoveOrEndTheClip says mode by
mode. That rows of a slot out of their phase change nothing is the model's choice (log 5), and so is the AU register that the ABSENT notice
carries (log 33); that notice after the clearing of the identity is its order (log 11). -/
def Obligations.InsertedCardsAreProbed : Prop :=
  ∀ (x : CardSlot) (s : State), running s →
    let c := s.card x
    (c.detect = true → exec (.cardDetectActive x) s = .next s) ∧
    (c.detect = false → exec (.cardDetectActive x) s =
      .next (s.setCard x { c with detect := true, settling := c.state == .absent })) ∧
    (c.settling = false ∨ c.detect = false → exec (.cardSettleExpiry x) s = .next s) ∧
    (c.settling = true → c.detect = true → c.state = .absent → exec (.cardSettleExpiry x) s =
      .next (postNotice (.cardState x .probing .absent c.au c.pageIndex none) (s.setCard x { c with
        state := .probing, settling := false, identified := false, auCount := 0, serial := 0, cardProtect := false, chain := .none
        phase := .ident, issuedOps := [.ident], statusOut := false }))) ∧
    (c.phase ≠ .ident → exec (.cardIdentRetry x) s = .next s ∧ exec (.cardIdentTimeout x) s = .next s ∧
      ∀ response p, exec (.cardIdentResponse x response p) s = .next s) ∧
    (c.phase = .ident →
      exec (.cardIdentRetry x) s = .next (s.setCard x { c with issuedOps := [.ident], statusOut := false }) ∧
      (∃ t, exec (.cardIdentTimeout x) s = .next t ∧ cardFailed s t x) ∧
      (∀ p, exec (.cardIdentResponse x [] p) s = .next s) ∧
      (∀ (rest : List Byte) (p : Bool) (n : Word16) (own : Byte) (serial : Word64),
        rest = littleEndian 2 n.toNat ++ [own] ++ littleEndian 8 serial.toNat → c.state = .probing →
        let known := { c with
          identified := true, auCount := n, serial := serial, cardProtect := own.getLsbD 0, phase := .idle, protectInput := p }
        let now : CardState := if p || own.getLsbD 0 then .writeProtected else .ready
        (16 ≤ n.toNat → exec (.cardIdentResponse x (0x5A :: rest) p) s =
          .next (postNotice (.cardState x now .probing c.au c.pageIndex (some (n, serial)))
            (s.setCard x { known with state := now }))) ∧
        (n.toNat < 16 → ∃ t, exec (.cardIdentResponse x (0x5A :: rest) p) s = .next t ∧ cardFailed s t x ∧
          (t.card x).serial = serial ∧ (t.card x).identified = true))) ∧
    (c.detect = false → exec (.cardRemoval x) s = .next s) ∧
    (c.detect = true → c.state = .absent →
      exec (.cardRemoval x) s = .next (s.setCard x { c with detect := false, settling := false })) ∧
    (c.detect = true → c.state ≠ .absent → ∃ t, exec (.cardRemoval x) s = .next t ∧
      (t.card x).state = .absent ∧ (t.card x).detect = false ∧ (t.card x).identified = false ∧ (t.card x).chain = .none ∧
      (t.card x).chainCmd = none ∧ (t.card x).erase = none ∧ (t.card x).request = none ∧ (t.card x).wakeCmd = none ∧
      (t.card x).sleepOrigin = .none ∧ (t.card x).phase = .idle ∧ (t.card x).statusOut = false ∧ (t.card x).fetchReq = none ∧
      (∀ i ∈ t.path.inFlight, i.dest ≠ .card x) ∧ (c.state = .failed → causePresent t (slotFault x) = false) ∧
      (c.state ≠ .active → changesOnly [.card x, .control, .path] s t) ∧ (c.state = .active → activeCardRemoved x s t) ∧
      noticePosted (.cardState x .absent (if c.state = .active then .failed else c.state) c.au c.pageIndex
        (if c.state = .probing then some (0, 0) else none)) s t ∧
      (waitsCoded x s → ∀ k,
        c.chainCmd = some k ∨ c.request = some (.sleep k) ∨ c.request = some (.eject k) ∨ c.wakeCmd = some k →
        donePosted k .aborted s t) ∧
      changesOnly [.card .a, .card .b, .control, .path, .clip, .tap] s t)

/-- CARD_STATUS_POLL and CARD_STATUS_RESPONSE (R45, R57, R59 to R63, R66), with the rollover after page 1,023 and after a bad current AU
(R55, R56). The elapsed clock is the model's (log 10), and so are ERASE_HOLD at a poll, its new try, and HELD still seen after
ERASE_CONTINUE (log 23), the AU to erase judged afresh after UNLOCK (log 24), CARD_STATE before the
CMD_DONE of a wake (log 11) and the unchanged state of rows that nothing awaits (log 5). The page index 1,024 and the waiting rollover
after a bad current AU with an UNRESOLVED lookahead, and its 1,024 at END, are the model's reading (log 25); that a rollover continues the
held erase of the AU it makes current whatever the role of the erase, and that a FULL card keeps its AU number, its reading and its choice
(log 33); that bytes after the flags of a STATUS response are not read is its choice too (log 38). -/
def Obligations.OperationsArePolledToTheirEnds : Prop :=
  ∀ (x : CardSlot) (dt : Nat) (s : State), running s →
    let c := s.card x
    let polled := c.phase = .pageWrite ∨ c.phase = .wake ∨ c.phase = .drainPage ∨ c.phase = .drainWake ∨
      (c.phase = .idle ∧ ∃ e, c.erase = some e ∧ e.held = false)
    let later := advanceTime dt s
    let hold := ∃ e, c.erase = some e ∧ e.held = false ∧ c.phase = .idle ∧ c.state = .active ∧ some e.au ≠ c.au ∧
      6 ≤ pagesAwaiting s x ∧ c.holdRefused = false ∧ (∀ t, c.lastContinue = some t → t + 1000 ≤ s.now + dt)
    (later.now = s.now + dt ∧ (∀ e, c.erase = some e →
      (later.card x).erase = some { e with used := if e.held then e.used else e.used + dt })) ∧
    (c.statusOut = true ∨ ¬ polled → exec (.cardStatusPoll x dt) s = .next s) ∧
    (c.statusOut = false → polled → ¬ hold → exec (.cardStatusPoll x dt) s = .next (later.setCard x
      { later.card x with issuedOps := [.status], statusOut := true, holdRefused := false })) ∧
    (c.statusOut = false → hold → exec (.cardStatusPoll x dt) s = .next (later.setCard x
      { later.card x with issuedOps := [.eraseHold, .status], statusOut := true, phase := .holdCheck, holdRefused := false })) ∧
    (∀ (response : List Byte) (p : Bool),
      let f := statusFlags response
      let b := statusTaken x p dt s
      let d := b.card x
      (c.statusOut = false → exec (.cardStatusResponse x response p dt) s = .next s) ∧
      (response = [] → f = 1) ∧ (∀ g rest, response = 0x5A :: g :: rest → f = g) ∧
      (c.statusOut = true →
        (c.phase = .unlockPage → f.getLsbD 1 = true → ∀ n page, c.au = some n → s.clip.pages.find? (awaits x) = some page →
          exec (.cardStatusResponse x response p dt) s = .next (b.setCard x
            { d with phase := .pageWrite, issuedOps := [.pageWrite n c.pageIndex page.content] })) ∧
        (∀ role n, c.phase = .unlockErase role → f.getLsbD 1 = true → currentDue c n →
          exec (.cardStatusResponse x response p dt) s = .next (b.setCard x
            { d with phase := .idle, issuedOps := [.auErase n], erase := some ⟨n, .current, false, 0⟩, eraseState := .erasing })) ∧
        (∀ role m, c.phase = .unlockErase role → f.getLsbD 1 = true → lookaheadDue c m →
          exec (.cardStatusResponse x response p dt) s = .next (b.setCard x
            { d with phase := .idle, issuedOps := [.auErase m], erase := some ⟨m, .lookahead, false, 0⟩
                     lookahead := .au m .erasing })) ∧
        (f.getLsbD 1 = false → c.phase = .unlockPage ∨ (∃ role, c.phase = .unlockErase role) →
          ∃ t, exec (.cardStatusResponse x response p dt) s = .next t ∧
            (p = true → c.erase = none → (t.card x).state = .writeProtected ∧ (t.card x).chain = c.chain ∧
              (t.card x).lookahead = c.lookahead ∧ (t.card x).phase = .idle) ∧
            (p = false → cardFailed s t x)) ∧
        (c.phase = .pageWrite →
          (f.getLsbD 0 = true → exec (.cardStatusResponse x response p dt) s = .next b) ∧
          (f.getLsbD 0 = false → f.getLsbD 3 = true → ∃ t, exec (.cardStatusResponse x response p dt) s = .next t ∧
            cardFailed s t x) ∧
          (∀ pre page post, f.getLsbD 0 = false → f.getLsbD 3 = false → s.clip.state ≠ .idle →
            s.clip.pages = pre ++ page :: post → (∀ q ∈ pre, awaits x q = false) → awaits x page = true →
            (∀ q ∈ s.clip.pages, pageDone q = false) →
            let done := { page with written := page.written.add x }
            let pages := pre ++ (if pageDone done then post else done :: post)
            let reported := fun e : Card => exec (.cardStatusResponse x response p dt) s =
              .next { b.setCard x e with clip := { s.clip with pages := pages } }
            let turned := { d with phase := .idle, pageIndex := 1024 }
            (c.pageIndex ≠ 1023 → c.erase = none → reported { d with phase := .idle, pageIndex := c.pageIndex + 1 }) ∧
            (∀ e, c.pageIndex ≠ 1023 → c.erase = some e → e.held = true → c.state = .active →
              (2 < (pages.filter (awaits x)).length → reported { d with phase := .idle, pageIndex := c.pageIndex + 1 }) ∧
              ((pages.filter (awaits x)).length ≤ 2 → reported { d with
                phase := .continueCheck, pageIndex := c.pageIndex + 1, issuedOps := [.eraseContinue, .status], statusOut := true
                lastContinue := some (s.now + dt) })) ∧
            (∀ e r, c.pageIndex = 1023 → c.erase = some e → e.held = true → c.state = .active → c.lookahead = .au e.au r → c.chain = .set →
              ∃ t, exec (.cardStatusResponse x response p dt) s = .next t ∧ (t.card x).au = some e.au ∧ (t.card x).pageIndex = 0 ∧
                (t.card x).phase = .continueCheck ∧ (t.card x).issuedOps = [.eraseContinue, .status] ∧ (t.card x).statusOut = true ∧
                (t.card x).lastContinue = some (s.now + dt) ∧
                (t.card x).erase = some { e with role := if e.role = .lookahead then .current else e.role }) ∧
            (c.pageIndex = 1023 → c.erase = none →
              (c.lookahead = .unresolved → reported { turned with rolloverWait := true }) ∧
              (∀ n e, c.lookahead = .au n e → c.chain = .set → c.badEnd = false → c.groupIndex = c.group.length → reported { turned with
                au := some n, pageIndex := 0, eraseState := e, rolloverWait := false, lookahead := .unresolved, walk := .lookahead
                fetchReq := some ⟨c.nextGroup, 32, unissuedWrites s⟩, groupAddr := c.nextGroup, nextGroup := c.nextGroup + 32
                group := [], groupIndex := 0 }) ∧
              (∀ n e, c.lookahead = .au n e → c.chain = .set → ∃ t, exec (.cardStatusResponse x response p dt) s = .next t ∧
                changesOnly [.card x, .control, .clip] b t ∧ t.clip = { s.clip with pages := pages } ∧ (t.card x).au = some n ∧
                (t.card x).pageIndex = 0 ∧ (t.card x).eraseState = e ∧ (t.card x).rolloverWait = false ∧ (t.card x).state = c.state) ∧
              (c.lookahead = .theEnd → ∃ t, exec (.cardStatusResponse x response p dt) s = .next t ∧ (t.card x).state = .full ∧
                (t.card x).pageIndex = 1024 ∧ (t.card x).au = c.au ∧ (t.card x).rolloverWait = false)))) ∧
        (∀ e, c.phase = .idle → c.erase = some e → e.held = false →
          (f.getLsbD 0 = true → c.state ≠ .active → exec (.cardStatusResponse x response p dt) s = .next b) ∧
          (f.getLsbD 0 = false → f.getLsbD 2 = false → f.getLsbD 3 = false → c.state ≠ .probing → c.request = none →
            (e.role = .current → exec (.cardStatusResponse x response p dt) s =
              .next (b.setCard x { d with erase := none, eraseState := .erased })) ∧
            (e.role = .lookahead → exec (.cardStatusResponse x response p dt) s =
              .next (b.setCard x { d with erase := none, lookahead := .au e.au .erased })) ∧
            (e.role = .orphan → exec (.cardStatusResponse x response p dt) s = .next (b.setCard x { d with erase := none }))) ∧
          (f.getLsbD 0 = false → f.getLsbD 2 = false → f.getLsbD 3 = true → c.state ≠ .probing → c.request = none →
            e.role = .lookahead → 64 ≤ unread s → ∃ t, exec (.cardStatusResponse x response p dt) s = .next t ∧
              (t.card x).erase = none ∧ (t.card x).badAus = (if c.badAus = 0xFFFF then c.badAus else c.badAus + 1) ∧
              (t.card x).au = c.au ∧ (t.card x).pageIndex = c.pageIndex) ∧
          (f.getLsbD 0 = false → f.getLsbD 2 = false → f.getLsbD 3 = true → c.state ≠ .probing → c.request = none →
            e.role = .current → 64 ≤ unread s → ∃ t, exec (.cardStatusResponse x response p dt) s = .next t ∧
              (t.card x).erase = none ∧ (t.card x).badAus = (if c.badAus = 0xFFFF then c.badAus else c.badAus + 1) ∧
              (∃ q ∈ t.control.pendingNotices, q.notice = .auBad x e.au) ∧
              (∀ n r, c.lookahead = .au n r → c.chain = .set →
                (t.card x).au = some n ∧ (t.card x).pageIndex = 0 ∧ (t.card x).eraseState = r ∧ (t.card x).state = c.state) ∧
              (c.lookahead = .theEnd → (t.card x).state = .full ∧ (t.card x).pageIndex = 1024) ∧
              (c.lookahead = .unresolved →
                (t.card x).rolloverWait = true ∧ (t.card x).pageIndex = 1024 ∧ (t.card x).au = c.au))) ∧
        (∀ e, c.phase = .holdCheck → c.erase = some e → some e.au ≠ c.au → f.getLsbD 2 = true → c.state = .active →
          c.request = none →
          exec (.cardStatusResponse x response p dt) s = .next (b.setCard x { d with
            phase := .idle, erase := d.erase.map fun r => { r with held := true } })) ∧
        (c.phase = .holdCheck → f.getLsbD 2 = false → f.getLsbD 0 = true →
          exec (.cardStatusResponse x response p dt) s = .next (b.setCard x { d with phase := .idle, holdRefused := true })) ∧
        (∀ e, c.phase = .continueCheck → c.erase = some e →
          (f.getLsbD 0 = true ∨ f.getLsbD 2 = true → exec (.cardStatusResponse x response p dt) s = .next (b.setCard x
            { d with phase := .idle, erase := d.erase.map fun r => { r with held := false } })) ∧
          (f.getLsbD 0 = false → f.getLsbD 2 = false → f.getLsbD 3 = false → c.state ≠ .probing → c.request = none →
            let ended := { d with phase := .idle, erase := none }
            (e.role = .current → exec (.cardStatusResponse x response p dt) s = .next (b.setCard x { ended with eraseState := .erased })) ∧
            (e.role = .lookahead → exec (.cardStatusResponse x response p dt) s =
              .next (b.setCard x { ended with lookahead := .au e.au .erased })) ∧
            (e.role = .orphan → exec (.cardStatusResponse x response p dt) s = .next (b.setCard x ended)))) ∧
        (c.phase = .wake →
          (f.getLsbD 0 = true → exec (.cardStatusResponse x response p dt) s = .next b) ∧
          (f.getLsbD 0 = false → ∀ k, c.wakeCmd = some k → c.state = .asleep →
            let awake := fun (new : CardState) (e : Card) => exec (.cardStatusResponse x response p dt) s =
              .next (commandDone k .ok (postNotice (.cardState x new .asleep c.au c.pageIndex none)
                (b.setCard x { e with state := new, wakeCmd := none })))
            (c.sleepOrigin = .ready → awake .ready { d with phase := .idle }) ∧
            (c.sleepOrigin = .full → awake .full { d with phase := .idle }) ∧
            (c.sleepOrigin = .none → awake .probing { d with phase := .ident, issuedOps := [.ident] })))))

/-- CARD_PAGE_WRITE_TIMEOUT, CARD_ERASE_TIMEOUT and CARD_WAKE_TIMEOUT (R64 to R67, R69). That a timeout with no such operation outstanding
changes nothing is the model's choice (log 5), and so is that a card FAILED already, whose erase of an earlier chain times out, loses a new
chain that is LOADING (log 33); the drain is its reading (log 26), and the CMD_DONE after the CARD_STATE and FAULT notices its
order (log 11). -/
def Obligations.TimeoutsFailTheCard : Prop :=
  ∀ (x : CardSlot) (s : State), running s →
    let c := s.card x
    let probed := fun d : Card => { d with phase := .ident, issuedOps := [.ident], statusOut := false }
    (c.phase ≠ .pageWrite → c.phase ≠ .drainPage → exec (.cardPageWriteTimeout x) s = .next s) ∧
    (c.phase = .pageWrite → ∃ t, exec (.cardPageWriteTimeout x) s = .next t ∧ cardFailed s t x ∧
      (c.state ≠ .active → changesOnly [.card x, .control, .path] s t)) ∧
    (c.phase = .drainPage → c.erase = none → exec (.cardPageWriteTimeout x) s = .next (s.setCard x (probed c))) ∧
    (c.phase ≠ .wake → c.phase ≠ .drainWake → exec (.cardWakeTimeout x) s = .next s) ∧
    (∀ k, c.phase = .wake → c.state = .asleep → c.wakeCmd = some k → ∃ u,
      exec (.cardWakeTimeout x) s = .next (commandDone k .aborted u) ∧ cardFailed s u x ∧ (u.card x).wakeCmd = none ∧
        changesOnly [.card x, .control, .path] s u) ∧
    (c.phase = .drainWake → c.erase = none → exec (.cardWakeTimeout x) s = .next (s.setCard x (probed c))) ∧
    ((∀ e, c.erase = some e → e.held = true) → exec (.cardEraseTimeout x) s = .next s) ∧
    (∀ e, c.erase = some e → e.held = false →
      (c.state ≠ .probing → c.request = none → ∃ t, exec (.cardEraseTimeout x) s = .next t ∧ cardFailed s t x ∧
        (t.card x).erase = none) ∧
      (∀ k, c.state ≠ .probing → c.request = some (.sleep k) → ∃ u, exec (.cardEraseTimeout x) s = .next (commandDone k .aborted u) ∧
        cardFailed s u x ∧ (u.card x).erase = none ∧ (u.card x).request = none) ∧
      (∀ k, c.state ≠ .probing → c.request = some (.eject k) → ∃ u, exec (.cardEraseTimeout x) s = .next (commandDone k .ok u) ∧
        changesOnly [.card x, .control] s u ∧ (c.state = .failed → causePresent u (slotFault x) = false) ∧
        u.card x = { c with
          state := .asleep, sleepOrigin := .none, erase := none, request := none, phase := .idle, statusOut := false, holdRefused := false
          issuedOps := [.sleep] }) ∧
      (c.state = .probing → exec (.cardEraseTimeout x) s =
        .next (s.setCard x { probed c with erase := none, holdRefused := false })))

/-- CARD_DESCRIPTOR_FETCH_DONE (R52 to R55). That a return which belongs to the other slot changes nothing is the model's choice
(log 5), and so are the lookahead END after an empty chain and the lookahead of a SET chain resolved on a card that is ASLEEP by then
(log 33). -/
def Obligations.ChainsAreWalkedGroupByGroup : Prop :=
  ∀ (x : CardSlot) (data : List Byte) (p : Bool) (i : Transaction) (s : State), returns s ⟨i, .card x⟩ → data.length = 32 →
    let c := { s.card x with protectInput := p, group := descriptorsOf data, groupIndex := 0 }
    let kind := fun n : Nat => (byteAt data (8 * n + 4)).toNat
    let value := fun n : Nat => field data (8 * n) 4
    let erase := fun n : Nat => if (byteAt data (8 * n + 5)).getLsbD 0 then EraseState.erased else .needed
    let start := afterReturn s
    (∀ y, y ≠ x → exec (.cardDescriptorFetchDone y data p) s = .next s) ∧
    (∀ k, c.badEnd = false → c.walk = .first → c.chain = .loading → c.chainCmd = some k →
      c.state = .ready ∨ c.state = .full ∨ c.state = .failed →
      (kind 0 = 1 → kind 1 = 1 → value 0 < c.auCount.toNat → value 1 < c.auCount.toNat →
        ∃ t, exec (.cardDescriptorFetchDone x data p) s = .next t ∧ changesOnly [.card x, .control] start t ∧
          t.card x = { c with
            au := some (BitVec.ofNat 16 (value 0)), pageIndex := 0, eraseState := erase 0, walk := .none, groupIndex := 2, linkRun := 0
            lookahead := .au (BitVec.ofNat 16 (value 1)) (erase 1), chain := .set, chainCmd := none, state := .ready } ∧
          (c.state = .ready → t.control = (commandDone k .ok start).control) ∧
          (c.state = .failed → causePresent t (slotFault x) = false)) ∧
      (kind 0 = 3 → ∃ t, exec (.cardDescriptorFetchDone x data p) s = .next t ∧ changesOnly [.card x, .control] start t ∧
        t.card x = { c with
          chain := .none, chainCmd := none, walk := .none, lookahead := .theEnd
          state := if c.state = .ready then .full else c.state } ∧
        (c.state ≠ .ready → t.control = (commandDone k .badArg start).control))) ∧
    (∀ k, c.badEnd = false → c.walk = .first → c.chain = .loading → c.chainCmd = some k → c.state = .writeProtected →
      kind 0 = 1 → kind 1 = 1 → value 0 < c.auCount.toNat → value 1 < c.auCount.toNat →
      ∃ t, exec (.cardDescriptorFetchDone x data p) s = .next t ∧ changesOnly [.card x, .control] start t ∧
        (t.card x).state = (if p = true ∨ c.cardProtect = true then .writeProtected else .ready) ∧ (t.card x).chain = .set ∧
        (t.card x).au = some (BitVec.ofNat 16 (value 0)) ∧ (t.card x).eraseState = erase 0) ∧
    (c.badEnd = false → c.walk = .lookahead → c.chain = .set →
      let bad := ∃ t, exec (.cardDescriptorFetchDone x data p) s = .next (postNotice (.chainBad x c.groupAddr) t) ∧
        changesOnly [.card x] start t ∧ (t.card x).lookahead = .theEnd ∧ (t.card x).walk = .none ∧ (t.card x).badEnd = true ∧
        (t.card x).state = c.state
      (kind 0 = 1 → value 0 < c.auCount.toNat → exec (.cardDescriptorFetchDone x data p) s =
        .next (start.setCard x { c with
          lookahead := .au (BitVec.ofNat 16 (value 0)) (erase 0), walk := .none, groupIndex := 1, linkRun := 0 })) ∧
      (kind 0 = 3 → exec (.cardDescriptorFetchDone x data p) s = .next (start.setCard x { c with lookahead := .theEnd, walk := .none })) ∧
      (kind 0 = 2 → c.linkRun < 3 → exec (.cardDescriptorFetchDone x data p) s = .next (start.setCard x { c with
        linkRun := c.linkRun + 1, fetchReq := some ⟨value 0 / 32 * 32, 32, unissuedWrites s⟩, groupAddr := value 0 / 32 * 32
        nextGroup := value 0 / 32 * 32 + 32, group := [], groupIndex := 0 })) ∧
      (kind 0 = 2 → c.linkRun = 3 → bad) ∧ (kind 0 = 1 → c.auCount.toNat ≤ value 0 → bad) ∧ (kind 0 = 0 ∨ 3 < kind 0 → bad))

/-- CARD_ERASE_START, CARD_PAGE_WRITE_START and CARD_ROLLOVER (R56 to R58, R62). That nothing changes where no erase, page write or rollover
is due is the model's choice (log 5). -/
def Obligations.ErasesWritesAndRolloversStartWhenDue : Prop :=
  ∀ (x : CardSlot) (s : State), running s →
    let c := s.card x
    let free := c.phase = .idle ∧ c.statusOut = false
    let unlocked := fun ph : CardPhase => s.setCard x { c with phase := ph, issuedOps := [.unlock, .status], statusOut := true }
    let due := (∃ n, currentDue c n) ∨ ∃ m, lookaheadDue c m
    let write := c.state = .active ∧ c.eraseState = .erased ∧ (∀ e, c.erase = some e → e.held = true ∧ some e.au ≠ c.au) ∧ c.rolloverWait = false ∧
      c.au ≠ none ∧ c.pageIndex < 1024 ∧ ¬ due ∧ free ∧ ∃ q ∈ s.clip.pages, awaits x q = true
    (∀ n, currentDue c n → free → exec (.cardEraseStart x) s = .next (unlocked (.unlockErase .current))) ∧
    (∀ m, lookaheadDue c m → free → exec (.cardEraseStart x) s = .next (unlocked (.unlockErase .lookahead))) ∧
    (¬ due ∨ ¬ free → exec (.cardEraseStart x) s = .next s) ∧
    (write → exec (.cardPageWriteStart x) s = .next (unlocked .unlockPage)) ∧
    (¬ write → exec (.cardPageWriteStart x) s = .next s) ∧
    (c.rolloverWait = false ∨ c.lookahead = .unresolved → exec (.cardRollover x) s = .next s) ∧
    (c.rolloverWait = true → c.state = .ready ∨ c.state = .active →
      (∀ n e, c.lookahead = .au n e → c.chain = .set → ∃ t, exec (.cardRollover x) s = .next t ∧
        changesOnly [.card x, .control] s t ∧ (t.card x).au = some n ∧ (t.card x).pageIndex = 0 ∧ (t.card x).eraseState = e ∧
        (t.card x).rolloverWait = false ∧ (t.card x).state = c.state ∧ (t.card x).chain = .set) ∧
      (c.lookahead = .theEnd → ∃ t, exec (.cardRollover x) s = .next t ∧ (t.card x).state = .full ∧
        (t.card x).rolloverWait = false ∧ (t.card x).pageIndex = c.pageIndex ∧ (t.card x).chain = c.chain ∧
        changesOnly [.card .a, .card .b, .control, .path, .clip, .tap] s t))

/-- The loss of a card that a clip is on, by the timeout of its page write or by removal, the FULL or removed card of an armed recording,
and the fill of the room at the end of a card (R26, R36 to R42, R49, R56). The offset of a head page ahead of an open page without header
is the model's choice (log 32), and so are the FULL card in ARMED and the fill where an AU skipped as bad took the room (logs 32 and 33).
Its reading are also the relay head withdrawn at a re-targeting and the end of the card right after the fill (log 19), the page in flight
re-targeted with the others and the pages of a card that the clip is no longer on (log 20), and the order of block numbers in the test
against the stop block (log 22). That a re-targeted page loses the failed mark of the card that takes it is the model's choice (log 32). -/
def Obligations.LostAndEndedCardsMoveOrEndTheClip : Prop :=
  ∀ (x : CardSlot) (s : State), running s →
    let other := if x = .a then CardSlot.b else .a
    let otherReady := (s.card other).state = .ready ∧ (s.card other).chain = .set ∧ (s.card other).request = none
    let relay := s.clip.mode = .relayAB ∨ s.clip.mode = .relayBA
    let single := s.clip.mode = .singleA ∨ s.clip.mode = .singleB
    let onward := { s.clip with targets := CardSet.only other }
    let goesOn := fun t : State => t.card other = { s.card other with state := .active } ∧
      noticePosted (.cardState other .active .ready (s.card other).au (s.card other).pageIndex none) s t
    let removed := fun (row : Instr) (st : CardState) =>
      row = .cardRemoval x ∧ st = .absent ∧ (s.card x).detect = true
    let aborted := fun (row : Instr) (t : State) => t.clip.state = .idle ∧ t.clip.pages = [] ∧ causePresent t .mediaExhausted = true ∧
      noticePosted (.recState .aborted .idle none s.clip.mode s.clip.clipNumber s.clip.chunkSeq) s t ∧
      ((row = .cardRemoval x → waitsCoded x s) → abortReported s t)
    (∀ row st, ((row = .cardPageWriteTimeout x ∧ st = .failed ∧ (s.card x).phase = .pageWrite) ∨ removed row st) →
      (s.card x).state = .active →
      let lost := fun p : PageRecord => { p with failed := p.failed.add x }
      let moved := fun p : PageRecord => if p.target.has x && !p.written.has x
        then { p with target := CardSet.only other, failed := (p.failed.add x).remove other } else lost p
      let head := fun first : Nat => (⟨s.clip.clipNumber, CardSet.only other, ⟨false, false⟩, ⟨false, false⟩, 0, true,
        chunkHeader onward 1 4 32 0 s.clip.startFrame first ++ littleEndian 2 s.clip.clipNumber.toNat
          ++ [s.clip.mode.code, (CardSet.only other).role] ++ littleEndian 4 s.clip.startFrame.toNat
          ++ littleEndian 8 s.clip.preRecord ++ littleEndian 2 first ++ List.replicate 14 (0 : Byte)
          ++ chunkHeader { onward with chunkSeq := s.clip.chunkSeq + 1 } 5 0 4000 0 0 0 ++ List.replicate 4000 (0 : Byte)⟩ : PageRecord)
      let left := fun l : List PageRecord => l.filter fun p => !pageDone p
      let moves := fun pages : List PageRecord => ∃ t, exec row s = .next t ∧ (t.card x).state = st ∧
        changesOnly [.clip, .card .a, .card .b, .control, .path] s t ∧ goesOn t ∧
        t.clip = { onward with pages := pages, chunkSeq := s.clip.chunkSeq + 2, relayHead := false }
      (s.clip.state = .recording ∨ s.clip.state = .stopping → s.clip.targets.has x = true →
        (s.clip.closed = false ∨ s.clip.pages ≠ [] ∨ s.clip.lay ≠ []) →
        (relay → otherReady →
          (∀ pre p post, s.clip.pages = pre ++ p :: post → p.target.has x = true → p.written.has x = false →
            (∀ q ∈ pre, q.target.has x = false ∨ q.written.has x = true) →
            moves (left (pre.map lost ++ head p.firstHeader :: (p :: post).map moved))) ∧
          ((∀ q ∈ s.clip.pages, q.target.has x = false ∨ q.written.has x = true) →
            moves (left (s.clip.pages.map lost ++ [head 4096])))) ∧
        (s.clip.mode = .mirror → s.clip.targets = ⟨true, true⟩ → ∃ t, exec row s = .next t ∧ (t.card x).state = st ∧
          changesOnly [.clip, .card x, .control, .path] s t ∧ t.clip = { onward with pages := left (s.clip.pages.map lost) }) ∧
        ((single ∧ s.clip.targets = CardSet.only x) ∨ (relay ∧ ¬otherReady) ∨ (s.clip.mode = .mirror ∧ s.clip.targets = CardSet.only x) →
          (s.card other).state ≠ .active →
          ∃ t, exec row s = .next t ∧ (t.card x).state = st ∧ aborted row t ∧ t.clip.index = [] ∧ t.clip.run = .none ∧
            t.clip.readReq = none ∧ causePresent t .streamOverrun = false)) ∧
      (s.clip.state = .idle ∨ ((s.clip.state = .recording ∨ s.clip.state = .stopping) ∧ s.clip.targets.has x = false) →
        ∃ t, exec row s = .next t ∧ (t.card x).state = st ∧ t.clip = { s.clip with pages := left (s.clip.pages.map lost) })) ∧
    (∀ row st, ((row = .cardRollover x ∧ st = .full ∧ (s.card x).rolloverWait = true ∧ (s.card x).lookahead = .theEnd) ∨
        removed row st) →
      s.clip.state = .armed → s.clip.targets.has x = true → s.clip.pages = [] → (s.card x).state = .active →
      (s.clip.mode = .mirror → s.clip.targets = ⟨true, true⟩ → ∃ t, exec row s = .next t ∧ (t.card x).state = st ∧
        t.clip = onward ∧ t.card other = s.card other) ∧
      (relay → otherReady → ∃ t, exec row s = .next t ∧ (t.card x).state = st ∧ t.clip = onward ∧ goesOn t) ∧
      (single ∨ (relay ∧ ¬otherReady) ∨ (s.clip.mode = .mirror ∧ s.clip.targets = CardSet.only x) →
        ∃ t, exec row s = .next t ∧ (t.card x).state = st ∧ aborted row t)) ∧
    (chunkBoundary s →
      let queued := (s.clip.pages.filter fun p => p.target.has x && !p.written.has x && !p.failed.has x).length
      let unfit := fun m : Nat =>
        (255 ≤ s.clip.index.length ∧ m < 32 + 16 * s.clip.index.length) ∨
        (s.clip.index.length < 255 ∧ m < 32 + 12288 ∧ s.clip.audioPart = true ∧ ∃ n i, s.clip.shipPtr = some n ∧
          doneBlock s.audio n = some i ∧
          (s.clip.state = .stopping → ∃ b, s.clip.audioStop = .upTo b ∧ blockPlace s.audio n ≤ blockPlace s.audio b)) ∨
        (s.clip.index.length < 255 ∧ m ≤ 32 ∧ noAudioDue s ∧ ∃ b l, backlogIs s b ∧ videoLengthIs s l ∧ 0 < l ∧
          (s.clip.chunkMin ≤ b ∨ s.clip.state = .stopping))
      (∀ m p, openPage s.clip = some p → p.content.length + m = 4096 → 0 < m → relay → otherReady →
        (roomIs s x m ∧ unfit m) ∨ (s.clip.targets = CardSet.only x ∧ (s.card x).lookahead = .theEnd ∧
          4096 * (1024 - (s.card x).pageIndex) + m ≤ 4096 * queued) →
        ∃ t, exec .chunkChoice s = .next t ∧ changesOnly [.clip, .card other, .control] s t ∧
          t.card other = { s.card other with state := .active } ∧
          t.clip = { onward with
            relayHead := true
            chunkSeq := if m < 32 then s.clip.chunkSeq else s.clip.chunkSeq + 1
            pages := s.clip.pages.dropLast ++ [{ p with
              sealed := true
              firstHeader := if 32 ≤ m ∧ p.firstHeader = 4096 then p.content.length else p.firstHeader
              content := p.content ++ (if m < 32 then List.replicate m (0 : Byte)
                else chunkHeader s.clip 5 0 (m - 32) 0 0 0 ++ List.replicate (m - 32) (0 : Byte)) }] }) ∧
      (s.clip.mode = .mirror → s.clip.targets = ⟨true, true⟩ → openPage s.clip = none → (s.card x).lookahead = .theEnd →
        1024 - (s.card x).pageIndex ≤ queued → (∃ n e, (s.card other).lookahead = .au n e) →
        exec .chunkChoice s = .next { s with clip := onward }))

/-! ### The whole part -/

/-- SOFT_RESET (R203 and the chapters' reset rules), with the payload reads and descriptor fetches in flight discarded (R43, R69, R72), and
the sampling state of the Motion Unit reset (R105). That every waiting audio line is withdrawn is the model's reading (log 34), and so is
the abandoned STATUS of an UNLOCK (log 26). -/
def Obligations.SoftResetReturnsEveryBlock : Prop :=
  ∀ (h : EntryHead) (s : State), entryReturns s →
    ∃ u, exec (.softReset h) s = .next (requestStatus (finishCommand .ok u)) ∧ u.now = s.now ∧ u.pending = s.pending ∧
      u.tap = State.reset.tap ∧
      u.clip = { State.reset.clip with
        mode := s.clip.mode, chunkMax := s.clip.chunkMax, chunkMin := s.clip.chunkMin, gripRec := s.clip.gripRec
        clipNumber := s.clip.clipNumber, lastClip := s.clip.lastClip } ∧
      (∀ x, cardCleared (u.card x) ∧ (u.card x).detect = (s.card x).detect ∧ (u.card x).settling = (s.card x).settling ∧
        ((s.card x).state = .absent → (u.card x).state = .absent) ∧
        ((s.card x).state = .asleep → (s.card x).phase ≠ .wake → (u.card x).state = .asleep) ∧
        ((s.card x).state ≠ .absent → (s.card x).state ≠ .asleep → (u.card x).state = .probing ∧
          ((s.card x).phase = .idle → (s.card x).erase = none → (u.card x).phase = .ident ∧ (u.card x).issuedOps = [.ident]) ∧
          ((s.card x).phase = .pageWrite → (u.card x).phase = .drainPage)) ∧
        ((s.card x).state = .asleep → (s.card x).phase = .wake →
          (u.card x).state = .probing ∧ (u.card x).phase = .drainWake)) ∧
      u.motion = State.reset.motion ∧ u.acc = State.reset.acc ∧
      u.view = { s.view with aliasWrites := 0 } ∧
      u.zoom = { s.zoom with
        servo := .unhomed, homed := false, pos := 0, level := 0, hostDemand := 0, homingSteps := 0, encoder := 0, override := false
        move := none, homingCmd := none, stopRequest := s.zoom.running
        enable := s.zoom.running && s.zoom.enable, enableOffPending := s.zoom.running } ∧
      u.audio = { State.reset.audio with
        role := s.audio.role, enables := s.audio.enables, blocks := List.replicate s.audio.blocks.length .free } ∧
      u.control = { s.control with pendingNotices := [], conditions := Vector.replicate 14 .clear } ∧
      u.path = { s.path with queue := u.path.queue, inFlight := u.path.inFlight } ∧
      u.path.inFlight = (afterReturn s).path.inFlight.map (fun i => match i.dest with
        | .video _ _ _ => ⟨i.txn, .ignored⟩
        | .audioPayload => ⟨i.txn, .ignored⟩
        | .card _ => ⟨i.txn, .ignored⟩
        | _ => i) ∧
      u.path.queue = s.path.queue.map (fun e => if e.progress = .held then { e with progress := .waiting } else e)

/-- Two invariants that every step keeps. The in-order queue, the host grants in a row, the Entry List, the elastic store, the receive
queue and the unread notices stay within their stated capacities, with one pending notice of a kind and source (R19, R70, R83, R150, R175,
R195). And the laws of the stream and of the slots hold at all times: floor is ship and at or below cursor, cursor is at most floor plus
the size of the STREAM region, the entries rise and lie in [floor, cursor), and at most one slot is FILLING (R3, R4, R19, R109), with what
they rest on in a step (R1, R2, R11, R23, R27, R33). The Clip Index, which may pass 255 entries (log 32), and the Page Queue, which head
pages may raise above 8 (R40), are not among the lists. -/
def Obligations.ListsKeepWithinTheirPlaces : Prop :=
  (∀ s t : State, placesKept s → step s = .next t → placesKept t) ∧ (∀ s t : State, streamKept s → step s = .next t → streamKept t)

/-- The start of the invariants of RegionsStayDisjoint, ZoomPositionStaysInRange and ListsKeepWithinTheirPlaces. -/
def Obligations.InvariantsHoldAtReset : Prop :=
  regionsDisjoint State.reset ∧ zoomInRange State.reset.zoom ∧ placesKept State.reset ∧ streamKept State.reset
end

