-- ==== Sys2Proof/Laws/State.lean ====
section
/-! SUPPORT. One lemma for each field of the state after each setter. -/

namespace Sys2Proof.Machine

variable (s : State)

@[simp] theorem State.setPath_path (v : Path) : (s.setPath v).path = v := rfl
@[simp] theorem State.setPath_tap (v : Path) : (s.setPath v).tap = s.tap := rfl
@[simp] theorem State.setPath_clip (v : Path) : (s.setPath v).clip = s.clip := rfl
@[simp] theorem State.setPath_cardA (v : Path) : (s.setPath v).cardA = s.cardA := rfl
@[simp] theorem State.setPath_cardB (v : Path) : (s.setPath v).cardB = s.cardB := rfl
@[simp] theorem State.setPath_motion (v : Path) : (s.setPath v).motion = s.motion := rfl
@[simp] theorem State.setPath_view (v : Path) : (s.setPath v).view = s.view := rfl
@[simp] theorem State.setPath_zoom (v : Path) : (s.setPath v).zoom = s.zoom := rfl
@[simp] theorem State.setPath_audio (v : Path) : (s.setPath v).audio = s.audio := rfl
@[simp] theorem State.setPath_acc (v : Path) : (s.setPath v).acc = s.acc := rfl
@[simp] theorem State.setPath_control (v : Path) : (s.setPath v).control = s.control := rfl
@[simp] theorem State.setPath_now (v : Path) : (s.setPath v).now = s.now := rfl
@[simp] theorem State.setPath_pending (v : Path) : (s.setPath v).pending = s.pending := rfl
@[simp] theorem State.setPath_card (v : Path) (x : CardSlot) : (s.setPath v).card x = s.card x := by cases x <;> rfl

@[simp] theorem State.setTap_path (v : Tap) : (s.setTap v).path = s.path := rfl
@[simp] theorem State.setTap_tap (v : Tap) : (s.setTap v).tap = v := rfl
@[simp] theorem State.setTap_clip (v : Tap) : (s.setTap v).clip = s.clip := rfl
@[simp] theorem State.setTap_cardA (v : Tap) : (s.setTap v).cardA = s.cardA := rfl
@[simp] theorem State.setTap_cardB (v : Tap) : (s.setTap v).cardB = s.cardB := rfl
@[simp] theorem State.setTap_motion (v : Tap) : (s.setTap v).motion = s.motion := rfl
@[simp] theorem State.setTap_view (v : Tap) : (s.setTap v).view = s.view := rfl
@[simp] theorem State.setTap_zoom (v : Tap) : (s.setTap v).zoom = s.zoom := rfl
@[simp] theorem State.setTap_audio (v : Tap) : (s.setTap v).audio = s.audio := rfl
@[simp] theorem State.setTap_acc (v : Tap) : (s.setTap v).acc = s.acc := rfl
@[simp] theorem State.setTap_control (v : Tap) : (s.setTap v).control = s.control := rfl
@[simp] theorem State.setTap_now (v : Tap) : (s.setTap v).now = s.now := rfl
@[simp] theorem State.setTap_pending (v : Tap) : (s.setTap v).pending = s.pending := rfl
@[simp] theorem State.setTap_card (v : Tap) (x : CardSlot) : (s.setTap v).card x = s.card x := by cases x <;> rfl

@[simp] theorem State.setClip_path (v : Clip) : (s.setClip v).path = s.path := rfl
@[simp] theorem State.setClip_tap (v : Clip) : (s.setClip v).tap = s.tap := rfl
@[simp] theorem State.setClip_clip (v : Clip) : (s.setClip v).clip = v := rfl
@[simp] theorem State.setClip_cardA (v : Clip) : (s.setClip v).cardA = s.cardA := rfl
@[simp] theorem State.setClip_cardB (v : Clip) : (s.setClip v).cardB = s.cardB := rfl
@[simp] theorem State.setClip_motion (v : Clip) : (s.setClip v).motion = s.motion := rfl
@[simp] theorem State.setClip_view (v : Clip) : (s.setClip v).view = s.view := rfl
@[simp] theorem State.setClip_zoom (v : Clip) : (s.setClip v).zoom = s.zoom := rfl
@[simp] theorem State.setClip_audio (v : Clip) : (s.setClip v).audio = s.audio := rfl
@[simp] theorem State.setClip_acc (v : Clip) : (s.setClip v).acc = s.acc := rfl
@[simp] theorem State.setClip_control (v : Clip) : (s.setClip v).control = s.control := rfl
@[simp] theorem State.setClip_now (v : Clip) : (s.setClip v).now = s.now := rfl
@[simp] theorem State.setClip_pending (v : Clip) : (s.setClip v).pending = s.pending := rfl
@[simp] theorem State.setClip_card (v : Clip) (x : CardSlot) : (s.setClip v).card x = s.card x := by cases x <;> rfl

@[simp] theorem State.setMotion_path (v : Motion) : (s.setMotion v).path = s.path := rfl
@[simp] theorem State.setMotion_tap (v : Motion) : (s.setMotion v).tap = s.tap := rfl
@[simp] theorem State.setMotion_clip (v : Motion) : (s.setMotion v).clip = s.clip := rfl
@[simp] theorem State.setMotion_cardA (v : Motion) : (s.setMotion v).cardA = s.cardA := rfl
@[simp] theorem State.setMotion_cardB (v : Motion) : (s.setMotion v).cardB = s.cardB := rfl
@[simp] theorem State.setMotion_motion (v : Motion) : (s.setMotion v).motion = v := rfl
@[simp] theorem State.setMotion_view (v : Motion) : (s.setMotion v).view = s.view := rfl
@[simp] theorem State.setMotion_zoom (v : Motion) : (s.setMotion v).zoom = s.zoom := rfl
@[simp] theorem State.setMotion_audio (v : Motion) : (s.setMotion v).audio = s.audio := rfl
@[simp] theorem State.setMotion_acc (v : Motion) : (s.setMotion v).acc = s.acc := rfl
@[simp] theorem State.setMotion_control (v : Motion) : (s.setMotion v).control = s.control := rfl
@[simp] theorem State.setMotion_now (v : Motion) : (s.setMotion v).now = s.now := rfl
@[simp] theorem State.setMotion_pending (v : Motion) : (s.setMotion v).pending = s.pending := rfl
@[simp] theorem State.setMotion_card (v : Motion) (x : CardSlot) : (s.setMotion v).card x = s.card x := by cases x <;> rfl

@[simp] theorem State.setView_path (v : View) : (s.setView v).path = s.path := rfl
@[simp] theorem State.setView_tap (v : View) : (s.setView v).tap = s.tap := rfl
@[simp] theorem State.setView_clip (v : View) : (s.setView v).clip = s.clip := rfl
@[simp] theorem State.setView_cardA (v : View) : (s.setView v).cardA = s.cardA := rfl
@[simp] theorem State.setView_cardB (v : View) : (s.setView v).cardB = s.cardB := rfl
@[simp] theorem State.setView_motion (v : View) : (s.setView v).motion = s.motion := rfl
@[simp] theorem State.setView_view (v : View) : (s.setView v).view = v := rfl
@[simp] theorem State.setView_zoom (v : View) : (s.setView v).zoom = s.zoom := rfl
@[simp] theorem State.setView_audio (v : View) : (s.setView v).audio = s.audio := rfl
@[simp] theorem State.setView_acc (v : View) : (s.setView v).acc = s.acc := rfl
@[simp] theorem State.setView_control (v : View) : (s.setView v).control = s.control := rfl
@[simp] theorem State.setView_now (v : View) : (s.setView v).now = s.now := rfl
@[simp] theorem State.setView_pending (v : View) : (s.setView v).pending = s.pending := rfl
@[simp] theorem State.setView_card (v : View) (x : CardSlot) : (s.setView v).card x = s.card x := by cases x <;> rfl

@[simp] theorem State.setZoom_path (v : Zoom) : (s.setZoom v).path = s.path := rfl
@[simp] theorem State.setZoom_tap (v : Zoom) : (s.setZoom v).tap = s.tap := rfl
@[simp] theorem State.setZoom_clip (v : Zoom) : (s.setZoom v).clip = s.clip := rfl
@[simp] theorem State.setZoom_cardA (v : Zoom) : (s.setZoom v).cardA = s.cardA := rfl
@[simp] theorem State.setZoom_cardB (v : Zoom) : (s.setZoom v).cardB = s.cardB := rfl
@[simp] theorem State.setZoom_motion (v : Zoom) : (s.setZoom v).motion = s.motion := rfl
@[simp] theorem State.setZoom_view (v : Zoom) : (s.setZoom v).view = s.view := rfl
@[simp] theorem State.setZoom_zoom (v : Zoom) : (s.setZoom v).zoom = v := rfl
@[simp] theorem State.setZoom_audio (v : Zoom) : (s.setZoom v).audio = s.audio := rfl
@[simp] theorem State.setZoom_acc (v : Zoom) : (s.setZoom v).acc = s.acc := rfl
@[simp] theorem State.setZoom_control (v : Zoom) : (s.setZoom v).control = s.control := rfl
@[simp] theorem State.setZoom_now (v : Zoom) : (s.setZoom v).now = s.now := rfl
@[simp] theorem State.setZoom_pending (v : Zoom) : (s.setZoom v).pending = s.pending := rfl
@[simp] theorem State.setZoom_card (v : Zoom) (x : CardSlot) : (s.setZoom v).card x = s.card x := by cases x <;> rfl

@[simp] theorem State.setAudio_path (v : Audio) : (s.setAudio v).path = s.path := rfl
@[simp] theorem State.setAudio_tap (v : Audio) : (s.setAudio v).tap = s.tap := rfl
@[simp] theorem State.setAudio_clip (v : Audio) : (s.setAudio v).clip = s.clip := rfl
@[simp] theorem State.setAudio_cardA (v : Audio) : (s.setAudio v).cardA = s.cardA := rfl
@[simp] theorem State.setAudio_cardB (v : Audio) : (s.setAudio v).cardB = s.cardB := rfl
@[simp] theorem State.setAudio_motion (v : Audio) : (s.setAudio v).motion = s.motion := rfl
@[simp] theorem State.setAudio_view (v : Audio) : (s.setAudio v).view = s.view := rfl
@[simp] theorem State.setAudio_zoom (v : Audio) : (s.setAudio v).zoom = s.zoom := rfl
@[simp] theorem State.setAudio_audio (v : Audio) : (s.setAudio v).audio = v := rfl
@[simp] theorem State.setAudio_acc (v : Audio) : (s.setAudio v).acc = s.acc := rfl
@[simp] theorem State.setAudio_control (v : Audio) : (s.setAudio v).control = s.control := rfl
@[simp] theorem State.setAudio_now (v : Audio) : (s.setAudio v).now = s.now := rfl
@[simp] theorem State.setAudio_pending (v : Audio) : (s.setAudio v).pending = s.pending := rfl
@[simp] theorem State.setAudio_card (v : Audio) (x : CardSlot) : (s.setAudio v).card x = s.card x := by cases x <;> rfl

@[simp] theorem State.setAcc_path (v : Acc) : (s.setAcc v).path = s.path := rfl
@[simp] theorem State.setAcc_tap (v : Acc) : (s.setAcc v).tap = s.tap := rfl
@[simp] theorem State.setAcc_clip (v : Acc) : (s.setAcc v).clip = s.clip := rfl
@[simp] theorem State.setAcc_cardA (v : Acc) : (s.setAcc v).cardA = s.cardA := rfl
@[simp] theorem State.setAcc_cardB (v : Acc) : (s.setAcc v).cardB = s.cardB := rfl
@[simp] theorem State.setAcc_motion (v : Acc) : (s.setAcc v).motion = s.motion := rfl
@[simp] theorem State.setAcc_view (v : Acc) : (s.setAcc v).view = s.view := rfl
@[simp] theorem State.setAcc_zoom (v : Acc) : (s.setAcc v).zoom = s.zoom := rfl
@[simp] theorem State.setAcc_audio (v : Acc) : (s.setAcc v).audio = s.audio := rfl
@[simp] theorem State.setAcc_acc (v : Acc) : (s.setAcc v).acc = v := rfl
@[simp] theorem State.setAcc_control (v : Acc) : (s.setAcc v).control = s.control := rfl
@[simp] theorem State.setAcc_now (v : Acc) : (s.setAcc v).now = s.now := rfl
@[simp] theorem State.setAcc_pending (v : Acc) : (s.setAcc v).pending = s.pending := rfl
@[simp] theorem State.setAcc_card (v : Acc) (x : CardSlot) : (s.setAcc v).card x = s.card x := by cases x <;> rfl

@[simp] theorem State.setControl_path (v : Control) : (s.setControl v).path = s.path := rfl
@[simp] theorem State.setControl_tap (v : Control) : (s.setControl v).tap = s.tap := rfl
@[simp] theorem State.setControl_clip (v : Control) : (s.setControl v).clip = s.clip := rfl
@[simp] theorem State.setControl_cardA (v : Control) : (s.setControl v).cardA = s.cardA := rfl
@[simp] theorem State.setControl_cardB (v : Control) : (s.setControl v).cardB = s.cardB := rfl
@[simp] theorem State.setControl_motion (v : Control) : (s.setControl v).motion = s.motion := rfl
@[simp] theorem State.setControl_view (v : Control) : (s.setControl v).view = s.view := rfl
@[simp] theorem State.setControl_zoom (v : Control) : (s.setControl v).zoom = s.zoom := rfl
@[simp] theorem State.setControl_audio (v : Control) : (s.setControl v).audio = s.audio := rfl
@[simp] theorem State.setControl_acc (v : Control) : (s.setControl v).acc = s.acc := rfl
@[simp] theorem State.setControl_control (v : Control) : (s.setControl v).control = v := rfl
@[simp] theorem State.setControl_now (v : Control) : (s.setControl v).now = s.now := rfl
@[simp] theorem State.setControl_pending (v : Control) : (s.setControl v).pending = s.pending := rfl
@[simp] theorem State.setControl_card (v : Control) (x : CardSlot) : (s.setControl v).card x = s.card x := by cases x <;> rfl

@[simp] theorem State.setNow_path (v : Nat) : (s.setNow v).path = s.path := rfl
@[simp] theorem State.setNow_tap (v : Nat) : (s.setNow v).tap = s.tap := rfl
@[simp] theorem State.setNow_clip (v : Nat) : (s.setNow v).clip = s.clip := rfl
@[simp] theorem State.setNow_cardA (v : Nat) : (s.setNow v).cardA = s.cardA := rfl
@[simp] theorem State.setNow_cardB (v : Nat) : (s.setNow v).cardB = s.cardB := rfl
@[simp] theorem State.setNow_motion (v : Nat) : (s.setNow v).motion = s.motion := rfl
@[simp] theorem State.setNow_view (v : Nat) : (s.setNow v).view = s.view := rfl
@[simp] theorem State.setNow_zoom (v : Nat) : (s.setNow v).zoom = s.zoom := rfl
@[simp] theorem State.setNow_audio (v : Nat) : (s.setNow v).audio = s.audio := rfl
@[simp] theorem State.setNow_acc (v : Nat) : (s.setNow v).acc = s.acc := rfl
@[simp] theorem State.setNow_control (v : Nat) : (s.setNow v).control = s.control := rfl
@[simp] theorem State.setNow_now (v : Nat) : (s.setNow v).now = v := rfl
@[simp] theorem State.setNow_pending (v : Nat) : (s.setNow v).pending = s.pending := rfl
@[simp] theorem State.setNow_card (v : Nat) (x : CardSlot) : (s.setNow v).card x = s.card x := by cases x <;> rfl

@[simp] theorem State.setPending_path (v : List Instr) : (s.setPending v).path = s.path := rfl
@[simp] theorem State.setPending_tap (v : List Instr) : (s.setPending v).tap = s.tap := rfl
@[simp] theorem State.setPending_clip (v : List Instr) : (s.setPending v).clip = s.clip := rfl
@[simp] theorem State.setPending_cardA (v : List Instr) : (s.setPending v).cardA = s.cardA := rfl
@[simp] theorem State.setPending_cardB (v : List Instr) : (s.setPending v).cardB = s.cardB := rfl
@[simp] theorem State.setPending_motion (v : List Instr) : (s.setPending v).motion = s.motion := rfl
@[simp] theorem State.setPending_view (v : List Instr) : (s.setPending v).view = s.view := rfl
@[simp] theorem State.setPending_zoom (v : List Instr) : (s.setPending v).zoom = s.zoom := rfl
@[simp] theorem State.setPending_audio (v : List Instr) : (s.setPending v).audio = s.audio := rfl
@[simp] theorem State.setPending_acc (v : List Instr) : (s.setPending v).acc = s.acc := rfl
@[simp] theorem State.setPending_control (v : List Instr) : (s.setPending v).control = s.control := rfl
@[simp] theorem State.setPending_now (v : List Instr) : (s.setPending v).now = s.now := rfl
@[simp] theorem State.setPending_pending (v : List Instr) : (s.setPending v).pending = v := rfl
@[simp] theorem State.setPending_card (v : List Instr) (x : CardSlot) : (s.setPending v).card x = s.card x := by cases x <;> rfl

@[simp] theorem State.setCard_path (x : CardSlot) (v : Card) : (s.setCard x v).path = s.path := by cases x <;> rfl
@[simp] theorem State.setCard_tap (x : CardSlot) (v : Card) : (s.setCard x v).tap = s.tap := by cases x <;> rfl
@[simp] theorem State.setCard_clip (x : CardSlot) (v : Card) : (s.setCard x v).clip = s.clip := by cases x <;> rfl
@[simp] theorem State.setCard_motion (x : CardSlot) (v : Card) : (s.setCard x v).motion = s.motion := by cases x <;> rfl
@[simp] theorem State.setCard_view (x : CardSlot) (v : Card) : (s.setCard x v).view = s.view := by cases x <;> rfl
@[simp] theorem State.setCard_zoom (x : CardSlot) (v : Card) : (s.setCard x v).zoom = s.zoom := by cases x <;> rfl
@[simp] theorem State.setCard_audio (x : CardSlot) (v : Card) : (s.setCard x v).audio = s.audio := by cases x <;> rfl
@[simp] theorem State.setCard_acc (x : CardSlot) (v : Card) : (s.setCard x v).acc = s.acc := by cases x <;> rfl
@[simp] theorem State.setCard_control (x : CardSlot) (v : Card) : (s.setCard x v).control = s.control := by cases x <;> rfl
@[simp] theorem State.setCard_now (x : CardSlot) (v : Card) : (s.setCard x v).now = s.now := by cases x <;> rfl
@[simp] theorem State.setCard_pending (x : CardSlot) (v : Card) : (s.setCard x v).pending = s.pending := by cases x <;> rfl
@[simp] theorem State.setCard_card (x : CardSlot) (v : Card) : (s.setCard x v).card x = v := by cases x <;> rfl
theorem State.setCard_card_other (x y : CardSlot) (v : Card) (h : x ≠ y) : (s.setCard x v).card y = s.card y := by
  cases x <;> cases y <;> first | rfl | exact absurd rfl h

end Sys2Proof.Machine
end

