-- ==== Sys2Proof/Laws/Ops.lean ====
section
/-! SUPPORT. What the shared operations leave alone, field by field, and the envelope of a command: the lemmas that proofs cite
instead of unfolding an operation. -/

namespace Sys2Proof.Machine

variable (s : State)

/-! ### Frames of the shared operations -/

@[simp] theorem presentWrite_path (w : ReportWrite) : (presentWrite w s).path = s.path := rfl
@[simp] theorem presentWrite_tap (w : ReportWrite) : (presentWrite w s).tap = s.tap := rfl
@[simp] theorem presentWrite_clip (w : ReportWrite) : (presentWrite w s).clip = s.clip := rfl
@[simp] theorem presentWrite_cardA (w : ReportWrite) : (presentWrite w s).cardA = s.cardA := rfl
@[simp] theorem presentWrite_cardB (w : ReportWrite) : (presentWrite w s).cardB = s.cardB := rfl
@[simp] theorem presentWrite_motion (w : ReportWrite) : (presentWrite w s).motion = s.motion := rfl
@[simp] theorem presentWrite_view (w : ReportWrite) : (presentWrite w s).view = s.view := rfl
@[simp] theorem presentWrite_zoom (w : ReportWrite) : (presentWrite w s).zoom = s.zoom := rfl
@[simp] theorem presentWrite_audio (w : ReportWrite) : (presentWrite w s).audio = s.audio := rfl
@[simp] theorem presentWrite_acc (w : ReportWrite) : (presentWrite w s).acc = s.acc := rfl
@[simp] theorem presentWrite_now (w : ReportWrite) : (presentWrite w s).now = s.now := rfl
@[simp] theorem presentWrite_pending (w : ReportWrite) : (presentWrite w s).pending = s.pending := rfl
@[simp] theorem presentWrite_card (w : ReportWrite) (x : CardSlot) : (presentWrite w s).card x = s.card x := by cases x <;> simp [State.card]

@[simp] theorem setCondState_path (c : Condition) (v : CondState) : (setCondState s c v).path = s.path := rfl
@[simp] theorem setCondState_tap (c : Condition) (v : CondState) : (setCondState s c v).tap = s.tap := rfl
@[simp] theorem setCondState_clip (c : Condition) (v : CondState) : (setCondState s c v).clip = s.clip := rfl
@[simp] theorem setCondState_cardA (c : Condition) (v : CondState) : (setCondState s c v).cardA = s.cardA := rfl
@[simp] theorem setCondState_cardB (c : Condition) (v : CondState) : (setCondState s c v).cardB = s.cardB := rfl
@[simp] theorem setCondState_motion (c : Condition) (v : CondState) : (setCondState s c v).motion = s.motion := rfl
@[simp] theorem setCondState_view (c : Condition) (v : CondState) : (setCondState s c v).view = s.view := rfl
@[simp] theorem setCondState_zoom (c : Condition) (v : CondState) : (setCondState s c v).zoom = s.zoom := rfl
@[simp] theorem setCondState_audio (c : Condition) (v : CondState) : (setCondState s c v).audio = s.audio := rfl
@[simp] theorem setCondState_acc (c : Condition) (v : CondState) : (setCondState s c v).acc = s.acc := rfl
@[simp] theorem setCondState_now (c : Condition) (v : CondState) : (setCondState s c v).now = s.now := rfl
@[simp] theorem setCondState_pending (c : Condition) (v : CondState) : (setCondState s c v).pending = s.pending := rfl
@[simp] theorem setCondState_card (c : Condition) (v : CondState) (x : CardSlot) : (setCondState s c v).card x = s.card x := by cases x <;> simp [State.card]

@[simp] theorem setTapCount_path (v : Word16) (src : TapSource) : (setTapCount s v src).path = s.path := by cases src <;> rfl
@[simp] theorem setTapCount_clip (v : Word16) (src : TapSource) : (setTapCount s v src).clip = s.clip := by cases src <;> rfl
@[simp] theorem setTapCount_cardA (v : Word16) (src : TapSource) : (setTapCount s v src).cardA = s.cardA := by cases src <;> rfl
@[simp] theorem setTapCount_cardB (v : Word16) (src : TapSource) : (setTapCount s v src).cardB = s.cardB := by cases src <;> rfl
@[simp] theorem setTapCount_motion (v : Word16) (src : TapSource) : (setTapCount s v src).motion = s.motion := by cases src <;> rfl
@[simp] theorem setTapCount_zoom (v : Word16) (src : TapSource) : (setTapCount s v src).zoom = s.zoom := by cases src <;> rfl
@[simp] theorem setTapCount_audio (v : Word16) (src : TapSource) : (setTapCount s v src).audio = s.audio := by cases src <;> rfl
@[simp] theorem setTapCount_acc (v : Word16) (src : TapSource) : (setTapCount s v src).acc = s.acc := by cases src <;> rfl
@[simp] theorem setTapCount_control (v : Word16) (src : TapSource) : (setTapCount s v src).control = s.control := by cases src <;> rfl
@[simp] theorem setTapCount_now (v : Word16) (src : TapSource) : (setTapCount s v src).now = s.now := by cases src <;> rfl
@[simp] theorem setTapCount_pending (v : Word16) (src : TapSource) : (setTapCount s v src).pending = s.pending := by cases src <;> rfl
@[simp] theorem setTapCount_card (v : Word16) (src : TapSource) (x : CardSlot) : (setTapCount s v src).card x = s.card x := by cases x <;> simp [State.card]

@[simp] theorem writeRing_path (bytes : List Byte) : (writeRing bytes s).path = s.path := by simp [writeRing]
@[simp] theorem writeRing_tap (bytes : List Byte) : (writeRing bytes s).tap = s.tap := by simp [writeRing]
@[simp] theorem writeRing_clip (bytes : List Byte) : (writeRing bytes s).clip = s.clip := by simp [writeRing]
@[simp] theorem writeRing_cardA (bytes : List Byte) : (writeRing bytes s).cardA = s.cardA := by simp [writeRing]
@[simp] theorem writeRing_cardB (bytes : List Byte) : (writeRing bytes s).cardB = s.cardB := by simp [writeRing]
@[simp] theorem writeRing_motion (bytes : List Byte) : (writeRing bytes s).motion = s.motion := by simp [writeRing]
@[simp] theorem writeRing_view (bytes : List Byte) : (writeRing bytes s).view = s.view := by simp [writeRing]
@[simp] theorem writeRing_zoom (bytes : List Byte) : (writeRing bytes s).zoom = s.zoom := by simp [writeRing]
@[simp] theorem writeRing_audio (bytes : List Byte) : (writeRing bytes s).audio = s.audio := by simp [writeRing]
@[simp] theorem writeRing_acc (bytes : List Byte) : (writeRing bytes s).acc = s.acc := by simp [writeRing]
@[simp] theorem writeRing_now (bytes : List Byte) : (writeRing bytes s).now = s.now := by simp [writeRing]
@[simp] theorem writeRing_pending (bytes : List Byte) : (writeRing bytes s).pending = s.pending := by simp [writeRing]
@[simp] theorem writeRing_card (bytes : List Byte) (x : CardSlot) : (writeRing bytes s).card x = s.card x := by cases x <;> simp [State.card]

@[simp] theorem clearNoticeCount_path (n : Notice) : (clearNoticeCount n s).path = s.path := by
  unfold clearNoticeCount; split <;> simp
@[simp] theorem clearNoticeCount_clip (n : Notice) : (clearNoticeCount n s).clip = s.clip := by
  unfold clearNoticeCount; split <;> simp
@[simp] theorem clearNoticeCount_motion (n : Notice) : (clearNoticeCount n s).motion = s.motion := by
  unfold clearNoticeCount; split <;> simp
@[simp] theorem clearNoticeCount_zoom (n : Notice) : (clearNoticeCount n s).zoom = s.zoom := by
  unfold clearNoticeCount; split <;> simp
@[simp] theorem clearNoticeCount_audio (n : Notice) : (clearNoticeCount n s).audio = s.audio := by
  unfold clearNoticeCount; split <;> simp
@[simp] theorem clearNoticeCount_acc (n : Notice) : (clearNoticeCount n s).acc = s.acc := by
  unfold clearNoticeCount; split <;> simp
@[simp] theorem clearNoticeCount_control (n : Notice) : (clearNoticeCount n s).control = s.control := by
  unfold clearNoticeCount; split <;> simp
@[simp] theorem clearNoticeCount_now (n : Notice) : (clearNoticeCount n s).now = s.now := by
  unfold clearNoticeCount; split <;> simp
@[simp] theorem clearNoticeCount_pending (n : Notice) : (clearNoticeCount n s).pending = s.pending := by
  unfold clearNoticeCount; split <;> simp

@[simp] theorem writeNotice_path (p : StampedNotice) : (writeNotice p s).path = s.path := by simp [writeNotice]
@[simp] theorem writeNotice_clip (p : StampedNotice) : (writeNotice p s).clip = s.clip := by simp [writeNotice]
@[simp] theorem writeNotice_motion (p : StampedNotice) : (writeNotice p s).motion = s.motion := by simp [writeNotice]
@[simp] theorem writeNotice_zoom (p : StampedNotice) : (writeNotice p s).zoom = s.zoom := by simp [writeNotice]
@[simp] theorem writeNotice_audio (p : StampedNotice) : (writeNotice p s).audio = s.audio := by simp [writeNotice]
@[simp] theorem writeNotice_acc (p : StampedNotice) : (writeNotice p s).acc = s.acc := by simp [writeNotice]
@[simp] theorem writeNotice_now (p : StampedNotice) : (writeNotice p s).now = s.now := by simp [writeNotice]
@[simp] theorem writeNotice_pending (p : StampedNotice) : (writeNotice p s).pending = s.pending := by simp [writeNotice]

@[simp] theorem postNotice_path (n : Notice) : (postNotice n s).path = s.path := by
  unfold postNotice; dsimp only; split <;> simp
@[simp] theorem postNotice_clip (n : Notice) : (postNotice n s).clip = s.clip := by
  unfold postNotice; dsimp only; split <;> simp
@[simp] theorem postNotice_motion (n : Notice) : (postNotice n s).motion = s.motion := by
  unfold postNotice; dsimp only; split <;> simp
@[simp] theorem postNotice_zoom (n : Notice) : (postNotice n s).zoom = s.zoom := by
  unfold postNotice; dsimp only; split <;> simp
@[simp] theorem postNotice_audio (n : Notice) : (postNotice n s).audio = s.audio := by
  unfold postNotice; dsimp only; split <;> simp
@[simp] theorem postNotice_acc (n : Notice) : (postNotice n s).acc = s.acc := by
  unfold postNotice; dsimp only; split <;> simp
@[simp] theorem postNotice_now (n : Notice) : (postNotice n s).now = s.now := by
  unfold postNotice; dsimp only; split <;> simp
@[simp] theorem postNotice_pending (n : Notice) : (postNotice n s).pending = s.pending := by
  unfold postNotice; dsimp only; split <;> simp

@[simp] theorem startCause_path (c : Condition) : (startCause c s).path = s.path := by
  unfold startCause; dsimp only; split
  · rfl
  · split <;> simp
@[simp] theorem startCause_clip (c : Condition) : (startCause c s).clip = s.clip := by
  unfold startCause; dsimp only; split
  · rfl
  · split <;> simp
@[simp] theorem startCause_motion (c : Condition) : (startCause c s).motion = s.motion := by
  unfold startCause; dsimp only; split
  · rfl
  · split <;> simp
@[simp] theorem startCause_zoom (c : Condition) : (startCause c s).zoom = s.zoom := by
  unfold startCause; dsimp only; split
  · rfl
  · split <;> simp
@[simp] theorem startCause_audio (c : Condition) : (startCause c s).audio = s.audio := by
  unfold startCause; dsimp only; split
  · rfl
  · split <;> simp
@[simp] theorem startCause_acc (c : Condition) : (startCause c s).acc = s.acc := by
  unfold startCause; dsimp only; split
  · rfl
  · split <;> simp
@[simp] theorem startCause_now (c : Condition) : (startCause c s).now = s.now := by
  unfold startCause; dsimp only; split
  · rfl
  · split <;> simp
@[simp] theorem startCause_pending (c : Condition) : (startCause c s).pending = s.pending := by
  unfold startCause; dsimp only; split
  · rfl
  · split <;> simp

@[simp] theorem endCause_path (c : Condition) : (endCause c s).path = s.path := by simp [endCause]
@[simp] theorem endCause_tap (c : Condition) : (endCause c s).tap = s.tap := by simp [endCause]
@[simp] theorem endCause_clip (c : Condition) : (endCause c s).clip = s.clip := by simp [endCause]
@[simp] theorem endCause_cardA (c : Condition) : (endCause c s).cardA = s.cardA := by simp [endCause]
@[simp] theorem endCause_cardB (c : Condition) : (endCause c s).cardB = s.cardB := by simp [endCause]
@[simp] theorem endCause_motion (c : Condition) : (endCause c s).motion = s.motion := by simp [endCause]
@[simp] theorem endCause_view (c : Condition) : (endCause c s).view = s.view := by simp [endCause]
@[simp] theorem endCause_zoom (c : Condition) : (endCause c s).zoom = s.zoom := by simp [endCause]
@[simp] theorem endCause_audio (c : Condition) : (endCause c s).audio = s.audio := by simp [endCause]
@[simp] theorem endCause_acc (c : Condition) : (endCause c s).acc = s.acc := by simp [endCause]
@[simp] theorem endCause_now (c : Condition) : (endCause c s).now = s.now := by simp [endCause]
@[simp] theorem endCause_pending (c : Condition) : (endCause c s).pending = s.pending := by simp [endCause]
@[simp] theorem endCause_card (c : Condition) (x : CardSlot) : (endCause c s).card x = s.card x := by cases x <;> simp [State.card]

@[simp] theorem takeSnapshot_path : (takeSnapshot s).path = s.path := rfl
@[simp] theorem takeSnapshot_tap : (takeSnapshot s).tap = s.tap := rfl
@[simp] theorem takeSnapshot_clip : (takeSnapshot s).clip = s.clip := rfl
@[simp] theorem takeSnapshot_cardA : (takeSnapshot s).cardA = s.cardA := rfl
@[simp] theorem takeSnapshot_cardB : (takeSnapshot s).cardB = s.cardB := rfl
@[simp] theorem takeSnapshot_motion : (takeSnapshot s).motion = s.motion := rfl
@[simp] theorem takeSnapshot_view : (takeSnapshot s).view = s.view := rfl
@[simp] theorem takeSnapshot_zoom : (takeSnapshot s).zoom = s.zoom := rfl
@[simp] theorem takeSnapshot_audio : (takeSnapshot s).audio = s.audio := rfl
@[simp] theorem takeSnapshot_acc : (takeSnapshot s).acc = s.acc := rfl
@[simp] theorem takeSnapshot_now : (takeSnapshot s).now = s.now := rfl
@[simp] theorem takeSnapshot_pending : (takeSnapshot s).pending = s.pending := rfl
@[simp] theorem takeSnapshot_card (x : CardSlot) : (takeSnapshot s).card x = s.card x := by cases x <;> simp [State.card]

@[simp] theorem requestStatus_path : (requestStatus s).path = s.path := by
  unfold requestStatus; split <;> simp
@[simp] theorem requestStatus_tap : (requestStatus s).tap = s.tap := by
  unfold requestStatus; split <;> simp
@[simp] theorem requestStatus_clip : (requestStatus s).clip = s.clip := by
  unfold requestStatus; split <;> simp
@[simp] theorem requestStatus_cardA : (requestStatus s).cardA = s.cardA := by
  unfold requestStatus; split <;> simp
@[simp] theorem requestStatus_cardB : (requestStatus s).cardB = s.cardB := by
  unfold requestStatus; split <;> simp
@[simp] theorem requestStatus_motion : (requestStatus s).motion = s.motion := by
  unfold requestStatus; split <;> simp
@[simp] theorem requestStatus_view : (requestStatus s).view = s.view := by
  unfold requestStatus; split <;> simp
@[simp] theorem requestStatus_zoom : (requestStatus s).zoom = s.zoom := by
  unfold requestStatus; split <;> simp
@[simp] theorem requestStatus_audio : (requestStatus s).audio = s.audio := by
  unfold requestStatus; split <;> simp
@[simp] theorem requestStatus_acc : (requestStatus s).acc = s.acc := by
  unfold requestStatus; split <;> simp
@[simp] theorem requestStatus_now : (requestStatus s).now = s.now := by
  unfold requestStatus; split <;> simp
@[simp] theorem requestStatus_pending : (requestStatus s).pending = s.pending := by
  unfold requestStatus; split <;> simp
@[simp] theorem requestStatus_card (x : CardSlot) : (requestStatus s).card x = s.card x := by cases x <;> simp [State.card]

@[simp] theorem presentEntryRead_path : (presentEntryRead s).path = s.path := by
  unfold presentEntryRead; split <;> simp
@[simp] theorem presentEntryRead_tap : (presentEntryRead s).tap = s.tap := by
  unfold presentEntryRead; split <;> simp
@[simp] theorem presentEntryRead_clip : (presentEntryRead s).clip = s.clip := by
  unfold presentEntryRead; split <;> simp
@[simp] theorem presentEntryRead_cardA : (presentEntryRead s).cardA = s.cardA := by
  unfold presentEntryRead; split <;> simp
@[simp] theorem presentEntryRead_cardB : (presentEntryRead s).cardB = s.cardB := by
  unfold presentEntryRead; split <;> simp
@[simp] theorem presentEntryRead_motion : (presentEntryRead s).motion = s.motion := by
  unfold presentEntryRead; split <;> simp
@[simp] theorem presentEntryRead_view : (presentEntryRead s).view = s.view := by
  unfold presentEntryRead; split <;> simp
@[simp] theorem presentEntryRead_zoom : (presentEntryRead s).zoom = s.zoom := by
  unfold presentEntryRead; split <;> simp
@[simp] theorem presentEntryRead_audio : (presentEntryRead s).audio = s.audio := by
  unfold presentEntryRead; split <;> simp
@[simp] theorem presentEntryRead_acc : (presentEntryRead s).acc = s.acc := by
  unfold presentEntryRead; split <;> simp
@[simp] theorem presentEntryRead_now : (presentEntryRead s).now = s.now := by
  unfold presentEntryRead; split <;> simp
@[simp] theorem presentEntryRead_pending : (presentEntryRead s).pending = s.pending := by
  unfold presentEntryRead; split <;> simp
@[simp] theorem presentEntryRead_card (x : CardSlot) : (presentEntryRead s).card x = s.card x := by cases x <;> simp [State.card]

@[simp] theorem finishCommand_path (r : Result) : (finishCommand r s).path = s.path := by simp [finishCommand]
@[simp] theorem finishCommand_tap (r : Result) : (finishCommand r s).tap = s.tap := by simp [finishCommand]
@[simp] theorem finishCommand_clip (r : Result) : (finishCommand r s).clip = s.clip := by simp [finishCommand]
@[simp] theorem finishCommand_cardA (r : Result) : (finishCommand r s).cardA = s.cardA := by simp [finishCommand]
@[simp] theorem finishCommand_cardB (r : Result) : (finishCommand r s).cardB = s.cardB := by simp [finishCommand]
@[simp] theorem finishCommand_motion (r : Result) : (finishCommand r s).motion = s.motion := by simp [finishCommand]
@[simp] theorem finishCommand_view (r : Result) : (finishCommand r s).view = s.view := by simp [finishCommand]
@[simp] theorem finishCommand_zoom (r : Result) : (finishCommand r s).zoom = s.zoom := by simp [finishCommand]
@[simp] theorem finishCommand_audio (r : Result) : (finishCommand r s).audio = s.audio := by simp [finishCommand]
@[simp] theorem finishCommand_acc (r : Result) : (finishCommand r s).acc = s.acc := by simp [finishCommand]
@[simp] theorem finishCommand_now (r : Result) : (finishCommand r s).now = s.now := by simp [finishCommand]
@[simp] theorem finishCommand_pending (r : Result) : (finishCommand r s).pending = s.pending := by simp [finishCommand]
@[simp] theorem finishCommand_card (r : Result) (x : CardSlot) : (finishCommand r s).card x = s.card x := by cases x <;> simp [State.card]

@[simp] theorem abandonReads_tap (lost : Destination → Bool) : (abandonReads s lost).tap = s.tap := rfl
@[simp] theorem abandonReads_clip (lost : Destination → Bool) : (abandonReads s lost).clip = s.clip := rfl
@[simp] theorem abandonReads_cardA (lost : Destination → Bool) : (abandonReads s lost).cardA = s.cardA := rfl
@[simp] theorem abandonReads_cardB (lost : Destination → Bool) : (abandonReads s lost).cardB = s.cardB := rfl
@[simp] theorem abandonReads_motion (lost : Destination → Bool) : (abandonReads s lost).motion = s.motion := rfl
@[simp] theorem abandonReads_view (lost : Destination → Bool) : (abandonReads s lost).view = s.view := rfl
@[simp] theorem abandonReads_zoom (lost : Destination → Bool) : (abandonReads s lost).zoom = s.zoom := rfl
@[simp] theorem abandonReads_audio (lost : Destination → Bool) : (abandonReads s lost).audio = s.audio := rfl
@[simp] theorem abandonReads_acc (lost : Destination → Bool) : (abandonReads s lost).acc = s.acc := rfl
@[simp] theorem abandonReads_control (lost : Destination → Bool) : (abandonReads s lost).control = s.control := rfl
@[simp] theorem abandonReads_now (lost : Destination → Bool) : (abandonReads s lost).now = s.now := rfl
@[simp] theorem abandonReads_pending (lost : Destination → Bool) : (abandonReads s lost).pending = s.pending := rfl
@[simp] theorem abandonReads_card (lost : Destination → Bool) (x : CardSlot) : (abandonReads s lost).card x = s.card x := by cases x <;> simp [State.card]

@[simp] theorem tapEvent_path (src : TapSource) (offset skipped : Nat) : (tapEvent src offset skipped s).path = s.path := by simp [tapEvent]
@[simp] theorem tapEvent_clip (src : TapSource) (offset skipped : Nat) : (tapEvent src offset skipped s).clip = s.clip := by simp [tapEvent]
@[simp] theorem tapEvent_motion (src : TapSource) (offset skipped : Nat) : (tapEvent src offset skipped s).motion = s.motion := by simp [tapEvent]
@[simp] theorem tapEvent_zoom (src : TapSource) (offset skipped : Nat) : (tapEvent src offset skipped s).zoom = s.zoom := by simp [tapEvent]
@[simp] theorem tapEvent_audio (src : TapSource) (offset skipped : Nat) : (tapEvent src offset skipped s).audio = s.audio := by simp [tapEvent]
@[simp] theorem tapEvent_acc (src : TapSource) (offset skipped : Nat) : (tapEvent src offset skipped s).acc = s.acc := by simp [tapEvent]
@[simp] theorem tapEvent_now (src : TapSource) (offset skipped : Nat) : (tapEvent src offset skipped s).now = s.now := by simp [tapEvent]
@[simp] theorem tapEvent_pending (src : TapSource) (offset skipped : Nat) : (tapEvent src offset skipped s).pending = s.pending := by simp [tapEvent]

@[simp] theorem forwardHeld_tap : (forwardHeld s).tap = s.tap := rfl
@[simp] theorem forwardHeld_clip : (forwardHeld s).clip = s.clip := rfl
@[simp] theorem forwardHeld_cardA : (forwardHeld s).cardA = s.cardA := rfl
@[simp] theorem forwardHeld_cardB : (forwardHeld s).cardB = s.cardB := rfl
@[simp] theorem forwardHeld_motion : (forwardHeld s).motion = s.motion := rfl
@[simp] theorem forwardHeld_view : (forwardHeld s).view = s.view := rfl
@[simp] theorem forwardHeld_zoom : (forwardHeld s).zoom = s.zoom := rfl
@[simp] theorem forwardHeld_audio : (forwardHeld s).audio = s.audio := rfl
@[simp] theorem forwardHeld_acc : (forwardHeld s).acc = s.acc := rfl
@[simp] theorem forwardHeld_control : (forwardHeld s).control = s.control := rfl
@[simp] theorem forwardHeld_now : (forwardHeld s).now = s.now := rfl
@[simp] theorem forwardHeld_pending : (forwardHeld s).pending = s.pending := rfl
@[simp] theorem forwardHeld_card (x : CardSlot) : (forwardHeld s).card x = s.card x := by cases x <;> simp [State.card]

@[simp] theorem enqueue_tap (t : Transaction) (pieces : List Piece) (progress : Progress) (snooped : Bool) : (enqueue t pieces progress snooped s).tap = s.tap := rfl
@[simp] theorem enqueue_clip (t : Transaction) (pieces : List Piece) (progress : Progress) (snooped : Bool) : (enqueue t pieces progress snooped s).clip = s.clip := rfl
@[simp] theorem enqueue_cardA (t : Transaction) (pieces : List Piece) (progress : Progress) (snooped : Bool) : (enqueue t pieces progress snooped s).cardA = s.cardA := rfl
@[simp] theorem enqueue_cardB (t : Transaction) (pieces : List Piece) (progress : Progress) (snooped : Bool) : (enqueue t pieces progress snooped s).cardB = s.cardB := rfl
@[simp] theorem enqueue_motion (t : Transaction) (pieces : List Piece) (progress : Progress) (snooped : Bool) : (enqueue t pieces progress snooped s).motion = s.motion := rfl
@[simp] theorem enqueue_view (t : Transaction) (pieces : List Piece) (progress : Progress) (snooped : Bool) : (enqueue t pieces progress snooped s).view = s.view := rfl
@[simp] theorem enqueue_zoom (t : Transaction) (pieces : List Piece) (progress : Progress) (snooped : Bool) : (enqueue t pieces progress snooped s).zoom = s.zoom := rfl
@[simp] theorem enqueue_audio (t : Transaction) (pieces : List Piece) (progress : Progress) (snooped : Bool) : (enqueue t pieces progress snooped s).audio = s.audio := rfl
@[simp] theorem enqueue_acc (t : Transaction) (pieces : List Piece) (progress : Progress) (snooped : Bool) : (enqueue t pieces progress snooped s).acc = s.acc := rfl
@[simp] theorem enqueue_control (t : Transaction) (pieces : List Piece) (progress : Progress) (snooped : Bool) : (enqueue t pieces progress snooped s).control = s.control := rfl
@[simp] theorem enqueue_now (t : Transaction) (pieces : List Piece) (progress : Progress) (snooped : Bool) : (enqueue t pieces progress snooped s).now = s.now := rfl
@[simp] theorem enqueue_pending (t : Transaction) (pieces : List Piece) (progress : Progress) (snooped : Bool) : (enqueue t pieces progress snooped s).pending = s.pending := rfl
@[simp] theorem enqueue_card (t : Transaction) (pieces : List Piece) (progress : Progress) (snooped : Bool) (x : CardSlot) : (enqueue t pieces progress snooped s).card x = s.card x := by cases x <;> simp [State.card]

@[simp] theorem issueDown_tap (t : Transaction) (d : Destination) : (issueDown t d s).tap = s.tap := rfl
@[simp] theorem issueDown_clip (t : Transaction) (d : Destination) : (issueDown t d s).clip = s.clip := rfl
@[simp] theorem issueDown_cardA (t : Transaction) (d : Destination) : (issueDown t d s).cardA = s.cardA := rfl
@[simp] theorem issueDown_cardB (t : Transaction) (d : Destination) : (issueDown t d s).cardB = s.cardB := rfl
@[simp] theorem issueDown_motion (t : Transaction) (d : Destination) : (issueDown t d s).motion = s.motion := rfl
@[simp] theorem issueDown_view (t : Transaction) (d : Destination) : (issueDown t d s).view = s.view := rfl
@[simp] theorem issueDown_zoom (t : Transaction) (d : Destination) : (issueDown t d s).zoom = s.zoom := rfl
@[simp] theorem issueDown_audio (t : Transaction) (d : Destination) : (issueDown t d s).audio = s.audio := rfl
@[simp] theorem issueDown_acc (t : Transaction) (d : Destination) : (issueDown t d s).acc = s.acc := rfl
@[simp] theorem issueDown_control (t : Transaction) (d : Destination) : (issueDown t d s).control = s.control := rfl
@[simp] theorem issueDown_now (t : Transaction) (d : Destination) : (issueDown t d s).now = s.now := rfl
@[simp] theorem issueDown_pending (t : Transaction) (d : Destination) : (issueDown t d s).pending = s.pending := rfl
@[simp] theorem issueDown_card (t : Transaction) (d : Destination) (x : CardSlot) : (issueDown t d s).card x = s.card x := by cases x <;> simp [State.card]

@[simp] theorem updateEntry_tap (serial : Nat) (f : QueueEntry → QueueEntry) : (updateEntry serial f s).tap = s.tap := rfl
@[simp] theorem updateEntry_clip (serial : Nat) (f : QueueEntry → QueueEntry) : (updateEntry serial f s).clip = s.clip := rfl
@[simp] theorem updateEntry_cardA (serial : Nat) (f : QueueEntry → QueueEntry) : (updateEntry serial f s).cardA = s.cardA := rfl
@[simp] theorem updateEntry_cardB (serial : Nat) (f : QueueEntry → QueueEntry) : (updateEntry serial f s).cardB = s.cardB := rfl
@[simp] theorem updateEntry_motion (serial : Nat) (f : QueueEntry → QueueEntry) : (updateEntry serial f s).motion = s.motion := rfl
@[simp] theorem updateEntry_view (serial : Nat) (f : QueueEntry → QueueEntry) : (updateEntry serial f s).view = s.view := rfl
@[simp] theorem updateEntry_zoom (serial : Nat) (f : QueueEntry → QueueEntry) : (updateEntry serial f s).zoom = s.zoom := rfl
@[simp] theorem updateEntry_audio (serial : Nat) (f : QueueEntry → QueueEntry) : (updateEntry serial f s).audio = s.audio := rfl
@[simp] theorem updateEntry_acc (serial : Nat) (f : QueueEntry → QueueEntry) : (updateEntry serial f s).acc = s.acc := rfl
@[simp] theorem updateEntry_control (serial : Nat) (f : QueueEntry → QueueEntry) : (updateEntry serial f s).control = s.control := rfl
@[simp] theorem updateEntry_now (serial : Nat) (f : QueueEntry → QueueEntry) : (updateEntry serial f s).now = s.now := rfl
@[simp] theorem updateEntry_pending (serial : Nat) (f : QueueEntry → QueueEntry) : (updateEntry serial f s).pending = s.pending := rfl
@[simp] theorem updateEntry_card (serial : Nat) (f : QueueEntry → QueueEntry) (x : CardSlot) : (updateEntry serial f s).card x = s.card x := by cases x <;> simp [State.card]

@[simp] theorem setHostGrants_tap (n : Nat) : (setHostGrants n s).tap = s.tap := rfl
@[simp] theorem setHostGrants_clip (n : Nat) : (setHostGrants n s).clip = s.clip := rfl
@[simp] theorem setHostGrants_cardA (n : Nat) : (setHostGrants n s).cardA = s.cardA := rfl
@[simp] theorem setHostGrants_cardB (n : Nat) : (setHostGrants n s).cardB = s.cardB := rfl
@[simp] theorem setHostGrants_motion (n : Nat) : (setHostGrants n s).motion = s.motion := rfl
@[simp] theorem setHostGrants_view (n : Nat) : (setHostGrants n s).view = s.view := rfl
@[simp] theorem setHostGrants_zoom (n : Nat) : (setHostGrants n s).zoom = s.zoom := rfl
@[simp] theorem setHostGrants_audio (n : Nat) : (setHostGrants n s).audio = s.audio := rfl
@[simp] theorem setHostGrants_acc (n : Nat) : (setHostGrants n s).acc = s.acc := rfl
@[simp] theorem setHostGrants_control (n : Nat) : (setHostGrants n s).control = s.control := rfl
@[simp] theorem setHostGrants_now (n : Nat) : (setHostGrants n s).now = s.now := rfl
@[simp] theorem setHostGrants_pending (n : Nat) : (setHostGrants n s).pending = s.pending := rfl
@[simp] theorem setHostGrants_card (n : Nat) (x : CardSlot) : (setHostGrants n s).card x = s.card x := by cases x <;> simp [State.card]

/-! ### Completions and the envelope of a command -/

/-- The next completion of the port, where something waits for it. -/
theorem nextCompletion_of_head {s : State} {i : Issued}
    (h : (s.path.inFlight.dropWhile fun j => j.dest == .ignored).head? = some i) :
    nextCompletion s = some (i, afterReturn s) := by
  unfold nextCompletion afterReturn
  cases hl : s.path.inFlight.dropWhile fun j => j.dest == .ignored with
  | nil => rw [hl] at h; cases h
  | cons a l => rw [hl] at h; cases h; rfl

theorem nextCompletion_of_returns {s : State} {i : Issued} (h : returns s i) : nextCompletion s = some (i, afterReturn s) :=
  nextCompletion_of_head h.2

theorem act_of_running {s : State} (f : State → State) (h : running s) : act f s = .next (f s) := by
  unfold act; rw [h]; rfl

theorem takeEntry_of_entryReturns {s : State} (h : entryReturns s) : takeEntry s = some (afterReturn s) := by
  obtain ⟨txn, hr⟩ := h
  unfold takeEntry
  rw [nextCompletion_of_returns hr, hr.1]
  rfl

theorem runCommand_of_entryReturns {s : State} (body : State → State × Result) (h : entryReturns s) :
    runCommand s body = finishCommand (body (afterReturn s)).2 (body (afterReturn s)).1 := by
  unfold runCommand
  rw [takeEntry_of_entryReturns h]

/-- The two writes of an answer in the form of the claims (R191). -/
theorem consumerWordWrite_eq (s : State) (v : Word16) : consumerWordWrite s v = consumerWrite s v := by
  simp only [consumerWordWrite, consumerWrite, beatLanes, littleEndian, allLanes]
  have h0 : BitVec.ofNat 8 v.toNat = v.extractLsb' 0 8 := by
    apply BitVec.eq_of_toNat_eq; simp
  have h1 : BitVec.ofNat 8 (v.toNat / 256) = v.extractLsb' 8 8 := by
    apply BitVec.eq_of_toNat_eq; simp [Nat.shiftRight_eq_div_pow]
  have h2 : v.toNat / 256 / 256 = 0 := by have := v.isLt; omega
  simp [h0, h1, h2]

theorem resultWrite_eq (s : State) (r : Result) :
    (⟨controlPage s + 64 * (s.control.consumer.toNat % 16), beatLanes 5 [r.code], .plain⟩ : ReportWrite) = resultWrite s r := by
  simp [resultWrite, beatLanes, allLanes]

/-- An answer does what R191 says and nothing else. -/
theorem finishCommand_answered (s : State) (r : Result) : answered r s (finishCommand r s) := by
  constructor
  · intro p hp
    cases p <;> simp [Part.same] at hp ⊢
  · unfold finishCommand
    simp only [presentWrite, resultWrite_eq, consumerWordWrite_eq]
    unfold presentEntryRead
    by_cases hc : s.control.consumer + 1 = s.control.effectiveProducer
    · have hc' : s.control.consumer + 1#16 = s.control.effectiveProducer := hc
      simp [hc', controlPage, consumerWrite]
    · have hc' : ¬s.control.consumer + 1#16 = s.control.effectiveProducer := hc
      simp [hc', controlPage, consumerWrite, presentRead, unissuedWrites]

/-- A command row, once its entry is returned: its own effect and then its answer (R190, R191). -/
theorem completesWith_of_runCommand {c : Instr} {s : State} {body : State → State × Result} (h : entryReturns s)
    (he : exec c s = .next (runCommand s body)) :
    completesWith c s (body (afterReturn s)).2 (body (afterReturn s)).1 :=
  ⟨_, by rw [he, runCommand_of_entryReturns body h], finishCommand_answered _ _⟩

@[simp] theorem afterReturn_control (s : State) : (afterReturn s).control = s.control := rfl
@[simp] theorem afterReturn_card (s : State) (x : CardSlot) : (afterReturn s).card x = s.card x := by cases x <;> rfl

theorem changesOnly_refl (ps : List Part) (s : State) : changesOnly ps s s := by
  intro p _; cases p <;> rfl

/-! ### Bytes of the motion port (R213) -/

/-- `portByte` puts the first bit received at the most significant place. -/
theorem receivedAs_portByte (v : PortBits) : receivedAs v (portByte v) := by
  have h : ∀ a b c d e f g i : Bool, ∀ j : Fin 8,
      (portByte #v[a, b, c, d, e, f, g, i]).getLsbD (7 - j.val) = #v[a, b, c, d, e, f, g, i][j] := by decide +kernel
  obtain ⟨⟨l⟩, hl⟩ := v
  match l, hl with
  | [a, b, c, d, e, f, g, i], _ => exact h a b c d e f g i

/-- Bits that come in as a byte are read as that byte. -/
theorem portByte_eq (v : PortBits) (b : Byte) (h : receivedAs v b) : portByte v = b := by
  refine BitVec.eq_of_getLsbD_eq fun i hi => ?_
  have k := (receivedAs_portByte v ⟨7 - i, by omega⟩).trans (h ⟨7 - i, by omega⟩).symm
  simpa [show 7 - (7 - i) = i by omega] using k
end Sys2Proof.Machine
end

