-- ==== Sys2Proof/Laws/Blocks.lean ====
section
/-! SUPPORT. What the operations of the Stream Tap, the Clip Assembler and the Card Controllers leave alone, field by field, and the
law of the report ring, and the merge of an index word. -/

namespace Sys2Proof.Machine

variable (s : State)

@[simp] theorem startCause_tap (c : Condition) : (startCause c s).tap = s.tap := by
  unfold startCause postNotice writeNotice clearNoticeCount; (try dsimp only); (repeat' split) <;> simp
@[simp] theorem startCause_view (c : Condition) : (startCause c s).view = s.view := by
  unfold startCause postNotice writeNotice clearNoticeCount; (try dsimp only); (repeat' split) <;> simp
@[simp] theorem startCause_cardA (c : Condition) : (startCause c s).cardA = s.cardA := by
  unfold startCause postNotice writeNotice clearNoticeCount; (try dsimp only); (repeat' split) <;> simp
@[simp] theorem startCause_cardB (c : Condition) : (startCause c s).cardB = s.cardB := by
  unfold startCause postNotice writeNotice clearNoticeCount; (try dsimp only); (repeat' split) <;> simp
@[simp] theorem startCause_card (c : Condition) (y : CardSlot) : (startCause c s).card y = s.card y := by
  cases y <;> simp [State.card]

/-! ### Reports -/

@[simp] theorem report_path (r : Report) : (report s r).path = s.path := by cases r <;> simp [report]
@[simp] theorem report_clip (r : Report) : (report s r).clip = s.clip := by cases r <;> simp [report]
@[simp] theorem report_motion (r : Report) : (report s r).motion = s.motion := by cases r <;> simp [report]
@[simp] theorem report_zoom (r : Report) : (report s r).zoom = s.zoom := by cases r <;> simp [report]
@[simp] theorem report_audio (r : Report) : (report s r).audio = s.audio := by cases r <;> simp [report]
@[simp] theorem report_acc (r : Report) : (report s r).acc = s.acc := by cases r <;> simp [report]
@[simp] theorem report_now (r : Report) : (report s r).now = s.now := by cases r <;> simp [report]
@[simp] theorem report_pending (r : Report) : (report s r).pending = s.pending := by cases r <;> simp [report]

@[simp] theorem reports_path (rs : List Report) : (reports rs s).path = s.path := by
  unfold reports; induction rs generalizing s with
  | nil => rfl
  | cons r rs ih => rw [List.foldl_cons, ih, report_path]
@[simp] theorem reports_clip (rs : List Report) : (reports rs s).clip = s.clip := by
  unfold reports; induction rs generalizing s with
  | nil => rfl
  | cons r rs ih => rw [List.foldl_cons, ih, report_clip]
@[simp] theorem reports_motion (rs : List Report) : (reports rs s).motion = s.motion := by
  unfold reports; induction rs generalizing s with
  | nil => rfl
  | cons r rs ih => rw [List.foldl_cons, ih, report_motion]
@[simp] theorem reports_zoom (rs : List Report) : (reports rs s).zoom = s.zoom := by
  unfold reports; induction rs generalizing s with
  | nil => rfl
  | cons r rs ih => rw [List.foldl_cons, ih, report_zoom]
@[simp] theorem reports_audio (rs : List Report) : (reports rs s).audio = s.audio := by
  unfold reports; induction rs generalizing s with
  | nil => rfl
  | cons r rs ih => rw [List.foldl_cons, ih, report_audio]
@[simp] theorem reports_acc (rs : List Report) : (reports rs s).acc = s.acc := by
  unfold reports; induction rs generalizing s with
  | nil => rfl
  | cons r rs ih => rw [List.foldl_cons, ih, report_acc]
@[simp] theorem reports_now (rs : List Report) : (reports rs s).now = s.now := by
  unfold reports; induction rs generalizing s with
  | nil => rfl
  | cons r rs ih => rw [List.foldl_cons, ih, report_now]
@[simp] theorem reports_pending (rs : List Report) : (reports rs s).pending = s.pending := by
  unfold reports; induction rs generalizing s with
  | nil => rfl
  | cons r rs ih => rw [List.foldl_cons, ih, report_pending]

/-! ### Stream Tap -/

@[simp] theorem tapEvent_cardA (src : TapSource) (offset skipped : Nat) : (tapEvent src offset skipped s).cardA = s.cardA := by
  unfold tapEvent postNotice writeNotice clearNoticeCount; (try dsimp only); (repeat' split) <;> simp
@[simp] theorem tapEvent_cardB (src : TapSource) (offset skipped : Nat) : (tapEvent src offset skipped s).cardB = s.cardB := by
  unfold tapEvent postNotice writeNotice clearNoticeCount; (try dsimp only); (repeat' split) <;> simp
@[simp] theorem tapEvent_card (src : TapSource) (offset skipped : Nat) (y : CardSlot) :
    (tapEvent src offset skipped s).card y = s.card y := by cases y <;> simp [State.card]

@[simp] theorem recomputeFloor_path : (recomputeFloor s).path = s.path := by unfold recomputeFloor; (repeat' split) <;> rfl
@[simp] theorem recomputeFloor_clip : (recomputeFloor s).clip = s.clip := by unfold recomputeFloor; (repeat' split) <;> rfl
@[simp] theorem recomputeFloor_cardA : (recomputeFloor s).cardA = s.cardA := by unfold recomputeFloor; (repeat' split) <;> rfl
@[simp] theorem recomputeFloor_cardB : (recomputeFloor s).cardB = s.cardB := by unfold recomputeFloor; (repeat' split) <;> rfl
@[simp] theorem recomputeFloor_motion : (recomputeFloor s).motion = s.motion := by unfold recomputeFloor; (repeat' split) <;> rfl
@[simp] theorem recomputeFloor_view : (recomputeFloor s).view = s.view := by unfold recomputeFloor; (repeat' split) <;> rfl
@[simp] theorem recomputeFloor_zoom : (recomputeFloor s).zoom = s.zoom := by unfold recomputeFloor; (repeat' split) <;> rfl
@[simp] theorem recomputeFloor_audio : (recomputeFloor s).audio = s.audio := by unfold recomputeFloor; (repeat' split) <;> rfl
@[simp] theorem recomputeFloor_acc : (recomputeFloor s).acc = s.acc := by unfold recomputeFloor; (repeat' split) <;> rfl
@[simp] theorem recomputeFloor_control : (recomputeFloor s).control = s.control := by unfold recomputeFloor; (repeat' split) <;> rfl
@[simp] theorem recomputeFloor_now : (recomputeFloor s).now = s.now := by unfold recomputeFloor; (repeat' split) <;> rfl
@[simp] theorem recomputeFloor_pending : (recomputeFloor s).pending = s.pending := by unfold recomputeFloor; (repeat' split) <;> rfl
@[simp] theorem recomputeFloor_card (y : CardSlot) : (recomputeFloor s).card y = s.card y := by cases y <;> simp [State.card]

@[simp] theorem overrunEndTest_path : (overrunEndTest s).path = s.path := by unfold overrunEndTest; (repeat' split) <;> rfl
@[simp] theorem overrunEndTest_tap : (overrunEndTest s).tap = s.tap := by unfold overrunEndTest; (repeat' split) <;> rfl
@[simp] theorem overrunEndTest_clip : (overrunEndTest s).clip = s.clip := by unfold overrunEndTest; (repeat' split) <;> rfl
@[simp] theorem overrunEndTest_cardA : (overrunEndTest s).cardA = s.cardA := by unfold overrunEndTest; (repeat' split) <;> rfl
@[simp] theorem overrunEndTest_cardB : (overrunEndTest s).cardB = s.cardB := by unfold overrunEndTest; (repeat' split) <;> rfl
@[simp] theorem overrunEndTest_motion : (overrunEndTest s).motion = s.motion := by unfold overrunEndTest; (repeat' split) <;> rfl
@[simp] theorem overrunEndTest_view : (overrunEndTest s).view = s.view := by unfold overrunEndTest; (repeat' split) <;> rfl
@[simp] theorem overrunEndTest_zoom : (overrunEndTest s).zoom = s.zoom := by unfold overrunEndTest; (repeat' split) <;> rfl
@[simp] theorem overrunEndTest_audio : (overrunEndTest s).audio = s.audio := by unfold overrunEndTest; (repeat' split) <;> rfl
@[simp] theorem overrunEndTest_acc : (overrunEndTest s).acc = s.acc := by unfold overrunEndTest; (repeat' split) <;> rfl
@[simp] theorem overrunEndTest_now : (overrunEndTest s).now = s.now := by unfold overrunEndTest; (repeat' split) <;> rfl
@[simp] theorem overrunEndTest_pending : (overrunEndTest s).pending = s.pending := by unfold overrunEndTest; (repeat' split) <;> rfl
@[simp] theorem overrunEndTest_card (y : CardSlot) : (overrunEndTest s).card y = s.card y := by cases y <;> simp [State.card]

@[simp] theorem advanceCursor_path (w : StreamWrite) : (advanceCursor w s).path = s.path := by unfold advanceCursor; (try dsimp only); (repeat' split) <;> (first | rfl | simp)
@[simp] theorem advanceCursor_clip (w : StreamWrite) : (advanceCursor w s).clip = s.clip := by unfold advanceCursor; (try dsimp only); (repeat' split) <;> (first | rfl | simp)
@[simp] theorem advanceCursor_cardA (w : StreamWrite) : (advanceCursor w s).cardA = s.cardA := by unfold advanceCursor; (try dsimp only); (repeat' split) <;> (first | rfl | simp)
@[simp] theorem advanceCursor_cardB (w : StreamWrite) : (advanceCursor w s).cardB = s.cardB := by unfold advanceCursor; (try dsimp only); (repeat' split) <;> (first | rfl | simp)
@[simp] theorem advanceCursor_motion (w : StreamWrite) : (advanceCursor w s).motion = s.motion := by unfold advanceCursor; (try dsimp only); (repeat' split) <;> (first | rfl | simp)
@[simp] theorem advanceCursor_zoom (w : StreamWrite) : (advanceCursor w s).zoom = s.zoom := by unfold advanceCursor; (try dsimp only); (repeat' split) <;> (first | rfl | simp)
@[simp] theorem advanceCursor_audio (w : StreamWrite) : (advanceCursor w s).audio = s.audio := by unfold advanceCursor; (try dsimp only); (repeat' split) <;> (first | rfl | simp)
@[simp] theorem advanceCursor_acc (w : StreamWrite) : (advanceCursor w s).acc = s.acc := by unfold advanceCursor; (try dsimp only); (repeat' split) <;> (first | rfl | simp)
@[simp] theorem advanceCursor_now (w : StreamWrite) : (advanceCursor w s).now = s.now := by unfold advanceCursor; (try dsimp only); (repeat' split) <;> (first | rfl | simp)
@[simp] theorem advanceCursor_pending (w : StreamWrite) : (advanceCursor w s).pending = s.pending := by unfold advanceCursor; (try dsimp only); (repeat' split) <;> (first | rfl | simp)
@[simp] theorem advanceCursor_card (w : StreamWrite) (y : CardSlot) : (advanceCursor w s).card y = s.card y := by cases y <;> simp [State.card]

@[simp] theorem overrun_path (r : StreamRegion) (w : StreamWrite) : (overrun r w s).path = s.path := by unfold overrun; (try dsimp only); (repeat' split) <;> (first | rfl | simp)
@[simp] theorem overrun_clip (r : StreamRegion) (w : StreamWrite) : (overrun r w s).clip = s.clip := by unfold overrun; (try dsimp only); (repeat' split) <;> (first | rfl | simp)
@[simp] theorem overrun_cardA (r : StreamRegion) (w : StreamWrite) : (overrun r w s).cardA = s.cardA := by unfold overrun; (try dsimp only); (repeat' split) <;> (first | rfl | simp)
@[simp] theorem overrun_cardB (r : StreamRegion) (w : StreamWrite) : (overrun r w s).cardB = s.cardB := by unfold overrun; (try dsimp only); (repeat' split) <;> (first | rfl | simp)
@[simp] theorem overrun_motion (r : StreamRegion) (w : StreamWrite) : (overrun r w s).motion = s.motion := by unfold overrun; (try dsimp only); (repeat' split) <;> (first | rfl | simp)
@[simp] theorem overrun_zoom (r : StreamRegion) (w : StreamWrite) : (overrun r w s).zoom = s.zoom := by unfold overrun; (try dsimp only); (repeat' split) <;> (first | rfl | simp)
@[simp] theorem overrun_audio (r : StreamRegion) (w : StreamWrite) : (overrun r w s).audio = s.audio := by unfold overrun; (try dsimp only); (repeat' split) <;> (first | rfl | simp)
@[simp] theorem overrun_acc (r : StreamRegion) (w : StreamWrite) : (overrun r w s).acc = s.acc := by unfold overrun; (try dsimp only); (repeat' split) <;> (first | rfl | simp)
@[simp] theorem overrun_now (r : StreamRegion) (w : StreamWrite) : (overrun r w s).now = s.now := by unfold overrun; (try dsimp only); (repeat' split) <;> (first | rfl | simp)
@[simp] theorem overrun_pending (r : StreamRegion) (w : StreamWrite) : (overrun r w s).pending = s.pending := by unfold overrun; (try dsimp only); (repeat' split) <;> (first | rfl | simp)
@[simp] theorem overrun_card (r : StreamRegion) (w : StreamWrite) (y : CardSlot) : (overrun r w s).card y = s.card y := by cases y <;> simp [State.card]

@[simp] theorem releaseHeld_clip : (releaseHeld s).clip = s.clip := by unfold releaseHeld; (try dsimp only); (repeat' split) <;> (first | rfl | simp)
@[simp] theorem releaseHeld_cardA : (releaseHeld s).cardA = s.cardA := by unfold releaseHeld; (try dsimp only); (repeat' split) <;> (first | rfl | simp)
@[simp] theorem releaseHeld_cardB : (releaseHeld s).cardB = s.cardB := by unfold releaseHeld; (try dsimp only); (repeat' split) <;> (first | rfl | simp)
@[simp] theorem releaseHeld_motion : (releaseHeld s).motion = s.motion := by unfold releaseHeld; (try dsimp only); (repeat' split) <;> (first | rfl | simp)
@[simp] theorem releaseHeld_zoom : (releaseHeld s).zoom = s.zoom := by unfold releaseHeld; (try dsimp only); (repeat' split) <;> (first | rfl | simp)
@[simp] theorem releaseHeld_audio : (releaseHeld s).audio = s.audio := by unfold releaseHeld; (try dsimp only); (repeat' split) <;> (first | rfl | simp)
@[simp] theorem releaseHeld_acc : (releaseHeld s).acc = s.acc := by unfold releaseHeld; (try dsimp only); (repeat' split) <;> (first | rfl | simp)
@[simp] theorem releaseHeld_now : (releaseHeld s).now = s.now := by unfold releaseHeld; (try dsimp only); (repeat' split) <;> (first | rfl | simp)
@[simp] theorem releaseHeld_pending : (releaseHeld s).pending = s.pending := by unfold releaseHeld; (try dsimp only); (repeat' split) <;> (first | rfl | simp)
@[simp] theorem releaseHeld_card (y : CardSlot) : (releaseHeld s).card y = s.card y := by cases y <;> simp [State.card]

@[simp] theorem retestHeld_clip : (retestHeld s).clip = s.clip := by unfold retestHeld; (repeat' split) <;> (first | rfl | simp)
@[simp] theorem retestHeld_cardA : (retestHeld s).cardA = s.cardA := by unfold retestHeld; (repeat' split) <;> (first | rfl | simp)
@[simp] theorem retestHeld_cardB : (retestHeld s).cardB = s.cardB := by unfold retestHeld; (repeat' split) <;> (first | rfl | simp)
@[simp] theorem retestHeld_motion : (retestHeld s).motion = s.motion := by unfold retestHeld; (repeat' split) <;> (first | rfl | simp)
@[simp] theorem retestHeld_zoom : (retestHeld s).zoom = s.zoom := by unfold retestHeld; (repeat' split) <;> (first | rfl | simp)
@[simp] theorem retestHeld_audio : (retestHeld s).audio = s.audio := by unfold retestHeld; (repeat' split) <;> (first | rfl | simp)
@[simp] theorem retestHeld_acc : (retestHeld s).acc = s.acc := by unfold retestHeld; (repeat' split) <;> (first | rfl | simp)
@[simp] theorem retestHeld_now : (retestHeld s).now = s.now := by unfold retestHeld; (repeat' split) <;> (first | rfl | simp)
@[simp] theorem retestHeld_pending : (retestHeld s).pending = s.pending := by unfold retestHeld; (repeat' split) <;> (first | rfl | simp)
@[simp] theorem retestHeld_card (y : CardSlot) : (retestHeld s).card y = s.card y := by cases y <;> simp [State.card]

@[simp] theorem assemblyEnded_clip : (assemblyEnded s).clip = s.clip := by simp [assemblyEnded]
@[simp] theorem assemblyEnded_cardA : (assemblyEnded s).cardA = s.cardA := by simp [assemblyEnded]
@[simp] theorem assemblyEnded_cardB : (assemblyEnded s).cardB = s.cardB := by simp [assemblyEnded]
@[simp] theorem assemblyEnded_motion : (assemblyEnded s).motion = s.motion := by simp [assemblyEnded]
@[simp] theorem assemblyEnded_zoom : (assemblyEnded s).zoom = s.zoom := by simp [assemblyEnded]
@[simp] theorem assemblyEnded_audio : (assemblyEnded s).audio = s.audio := by simp [assemblyEnded]
@[simp] theorem assemblyEnded_acc : (assemblyEnded s).acc = s.acc := by simp [assemblyEnded]
@[simp] theorem assemblyEnded_now : (assemblyEnded s).now = s.now := by simp [assemblyEnded]
@[simp] theorem assemblyEnded_pending : (assemblyEnded s).pending = s.pending := by simp [assemblyEnded]
@[simp] theorem assemblyEnded_card (y : CardSlot) : (assemblyEnded s).card y = s.card y := by cases y <;> simp [State.card]

@[simp] theorem moveEntries_path (e : Nat) : (moveEntries e s).path = s.path := by simp [moveEntries]
@[simp] theorem moveEntries_cardA (e : Nat) : (moveEntries e s).cardA = s.cardA := by simp [moveEntries]
@[simp] theorem moveEntries_cardB (e : Nat) : (moveEntries e s).cardB = s.cardB := by simp [moveEntries]
@[simp] theorem moveEntries_motion (e : Nat) : (moveEntries e s).motion = s.motion := by simp [moveEntries]
@[simp] theorem moveEntries_view (e : Nat) : (moveEntries e s).view = s.view := by simp [moveEntries]
@[simp] theorem moveEntries_zoom (e : Nat) : (moveEntries e s).zoom = s.zoom := by simp [moveEntries]
@[simp] theorem moveEntries_audio (e : Nat) : (moveEntries e s).audio = s.audio := by simp [moveEntries]
@[simp] theorem moveEntries_acc (e : Nat) : (moveEntries e s).acc = s.acc := by simp [moveEntries]
@[simp] theorem moveEntries_control (e : Nat) : (moveEntries e s).control = s.control := by simp [moveEntries]
@[simp] theorem moveEntries_now (e : Nat) : (moveEntries e s).now = s.now := by simp [moveEntries]
@[simp] theorem moveEntries_pending (e : Nat) : (moveEntries e s).pending = s.pending := by simp [moveEntries]
@[simp] theorem moveEntries_card (e : Nat) (y : CardSlot) : (moveEntries e s).card y = s.card y := by cases y <;> simp [State.card]

@[simp] theorem reportShipped_cardA (e : Nat) : (reportShipped e s).cardA = s.cardA := by unfold reportShipped; (try dsimp only); (repeat' split) <;> (first | rfl | simp)
@[simp] theorem reportShipped_cardB (e : Nat) : (reportShipped e s).cardB = s.cardB := by unfold reportShipped; (try dsimp only); (repeat' split) <;> (first | rfl | simp)
@[simp] theorem reportShipped_motion (e : Nat) : (reportShipped e s).motion = s.motion := by unfold reportShipped; (try dsimp only); (repeat' split) <;> (first | rfl | simp)
@[simp] theorem reportShipped_zoom (e : Nat) : (reportShipped e s).zoom = s.zoom := by unfold reportShipped; (try dsimp only); (repeat' split) <;> (first | rfl | simp)
@[simp] theorem reportShipped_audio (e : Nat) : (reportShipped e s).audio = s.audio := by unfold reportShipped; (try dsimp only); (repeat' split) <;> (first | rfl | simp)
@[simp] theorem reportShipped_acc (e : Nat) : (reportShipped e s).acc = s.acc := by unfold reportShipped; (try dsimp only); (repeat' split) <;> (first | rfl | simp)
@[simp] theorem reportShipped_now (e : Nat) : (reportShipped e s).now = s.now := by unfold reportShipped; (try dsimp only); (repeat' split) <;> (first | rfl | simp)
@[simp] theorem reportShipped_pending (e : Nat) : (reportShipped e s).pending = s.pending := by unfold reportShipped; (try dsimp only); (repeat' split) <;> (first | rfl | simp)
@[simp] theorem reportShipped_card (e : Nat) (y : CardSlot) : (reportShipped e s).card y = s.card y := by cases y <;> simp [State.card]

@[simp] theorem offerStreamWrite_clip (r : StreamRegion) (a n : Nat) : (offerStreamWrite r a n s).clip = s.clip := by unfold offerStreamWrite; (try dsimp only); (repeat' split) <;> (first | rfl | simp)
@[simp] theorem offerStreamWrite_cardA (r : StreamRegion) (a n : Nat) : (offerStreamWrite r a n s).cardA = s.cardA := by unfold offerStreamWrite; (try dsimp only); (repeat' split) <;> (first | rfl | simp)
@[simp] theorem offerStreamWrite_cardB (r : StreamRegion) (a n : Nat) : (offerStreamWrite r a n s).cardB = s.cardB := by unfold offerStreamWrite; (try dsimp only); (repeat' split) <;> (first | rfl | simp)
@[simp] theorem offerStreamWrite_motion (r : StreamRegion) (a n : Nat) : (offerStreamWrite r a n s).motion = s.motion := by unfold offerStreamWrite; (try dsimp only); (repeat' split) <;> (first | rfl | simp)
@[simp] theorem offerStreamWrite_zoom (r : StreamRegion) (a n : Nat) : (offerStreamWrite r a n s).zoom = s.zoom := by unfold offerStreamWrite; (try dsimp only); (repeat' split) <;> (first | rfl | simp)
@[simp] theorem offerStreamWrite_audio (r : StreamRegion) (a n : Nat) : (offerStreamWrite r a n s).audio = s.audio := by unfold offerStreamWrite; (try dsimp only); (repeat' split) <;> (first | rfl | simp)
@[simp] theorem offerStreamWrite_acc (r : StreamRegion) (a n : Nat) : (offerStreamWrite r a n s).acc = s.acc := by unfold offerStreamWrite; (try dsimp only); (repeat' split) <;> (first | rfl | simp)
@[simp] theorem offerStreamWrite_now (r : StreamRegion) (a n : Nat) : (offerStreamWrite r a n s).now = s.now := by unfold offerStreamWrite; (try dsimp only); (repeat' split) <;> (first | rfl | simp)
@[simp] theorem offerStreamWrite_pending (r : StreamRegion) (a n : Nat) : (offerStreamWrite r a n s).pending = s.pending := by unfold offerStreamWrite; (try dsimp only); (repeat' split) <;> (first | rfl | simp)
@[simp] theorem offerStreamWrite_card (r : StreamRegion) (a n : Nat) (y : CardSlot) : (offerStreamWrite r a n s).card y = s.card y := by cases y <;> simp [State.card]

/-! ### Cards -/

@[simp] theorem updateCard_path (x : CardSlot) (f : Card → Card) : (updateCard x f s).path = s.path := by cases x <;> rfl
@[simp] theorem updateCard_tap (x : CardSlot) (f : Card → Card) : (updateCard x f s).tap = s.tap := by cases x <;> rfl
@[simp] theorem updateCard_clip (x : CardSlot) (f : Card → Card) : (updateCard x f s).clip = s.clip := by cases x <;> rfl
@[simp] theorem updateCard_motion (x : CardSlot) (f : Card → Card) : (updateCard x f s).motion = s.motion := by cases x <;> rfl
@[simp] theorem updateCard_view (x : CardSlot) (f : Card → Card) : (updateCard x f s).view = s.view := by cases x <;> rfl
@[simp] theorem updateCard_zoom (x : CardSlot) (f : Card → Card) : (updateCard x f s).zoom = s.zoom := by cases x <;> rfl
@[simp] theorem updateCard_audio (x : CardSlot) (f : Card → Card) : (updateCard x f s).audio = s.audio := by cases x <;> rfl
@[simp] theorem updateCard_acc (x : CardSlot) (f : Card → Card) : (updateCard x f s).acc = s.acc := by cases x <;> rfl
@[simp] theorem updateCard_control (x : CardSlot) (f : Card → Card) : (updateCard x f s).control = s.control := by cases x <;> rfl
@[simp] theorem updateCard_now (x : CardSlot) (f : Card → Card) : (updateCard x f s).now = s.now := by cases x <;> rfl
@[simp] theorem updateCard_pending (x : CardSlot) (f : Card → Card) : (updateCard x f s).pending = s.pending := by cases x <;> rfl

@[simp] theorem setCardState_path (x : CardSlot) (new : CardState) : (setCardState x new s).path = s.path := by unfold setCardState; (try dsimp only); (repeat' split) <;> (first | rfl | simp)
@[simp] theorem setCardState_clip (x : CardSlot) (new : CardState) : (setCardState x new s).clip = s.clip := by unfold setCardState; (try dsimp only); (repeat' split) <;> (first | rfl | simp)
@[simp] theorem setCardState_motion (x : CardSlot) (new : CardState) : (setCardState x new s).motion = s.motion := by unfold setCardState; (try dsimp only); (repeat' split) <;> (first | rfl | simp)
@[simp] theorem setCardState_zoom (x : CardSlot) (new : CardState) : (setCardState x new s).zoom = s.zoom := by unfold setCardState; (try dsimp only); (repeat' split) <;> (first | rfl | simp)
@[simp] theorem setCardState_audio (x : CardSlot) (new : CardState) : (setCardState x new s).audio = s.audio := by unfold setCardState; (try dsimp only); (repeat' split) <;> (first | rfl | simp)
@[simp] theorem setCardState_acc (x : CardSlot) (new : CardState) : (setCardState x new s).acc = s.acc := by unfold setCardState; (try dsimp only); (repeat' split) <;> (first | rfl | simp)
@[simp] theorem setCardState_now (x : CardSlot) (new : CardState) : (setCardState x new s).now = s.now := by unfold setCardState; (try dsimp only); (repeat' split) <;> (first | rfl | simp)
@[simp] theorem setCardState_pending (x : CardSlot) (new : CardState) : (setCardState x new s).pending = s.pending := by unfold setCardState; (try dsimp only); (repeat' split) <;> (first | rfl | simp)

@[simp] theorem setCardState_tap (x : CardSlot) (new : CardState) : (setCardState x new s).tap = s.tap := by
  unfold setCardState postNotice writeNotice clearNoticeCount; (try dsimp only); (repeat' split) <;> simp
@[simp] theorem setCardState_view (x : CardSlot) (new : CardState) : (setCardState x new s).view = s.view := by
  unfold setCardState postNotice writeNotice clearNoticeCount; (try dsimp only); (repeat' split) <;> simp

@[simp] theorem makeActive_path (x : CardSlot) : (makeActive x s).path = s.path := by simp [makeActive]
@[simp] theorem makeActive_tap (x : CardSlot) : (makeActive x s).tap = s.tap := by simp [makeActive]
@[simp] theorem makeActive_clip (x : CardSlot) : (makeActive x s).clip = s.clip := by simp [makeActive]
@[simp] theorem makeActive_motion (x : CardSlot) : (makeActive x s).motion = s.motion := by simp [makeActive]
@[simp] theorem makeActive_view (x : CardSlot) : (makeActive x s).view = s.view := by simp [makeActive]
@[simp] theorem makeActive_zoom (x : CardSlot) : (makeActive x s).zoom = s.zoom := by simp [makeActive]
@[simp] theorem makeActive_audio (x : CardSlot) : (makeActive x s).audio = s.audio := by simp [makeActive]
@[simp] theorem makeActive_acc (x : CardSlot) : (makeActive x s).acc = s.acc := by simp [makeActive]
@[simp] theorem makeActive_now (x : CardSlot) : (makeActive x s).now = s.now := by simp [makeActive]
@[simp] theorem makeActive_pending (x : CardSlot) : (makeActive x s).pending = s.pending := by simp [makeActive]

@[simp] theorem continueErase_path (x : CardSlot) : (continueErase x s).path = s.path := by unfold continueErase; (try dsimp only); (repeat' split) <;> (first | rfl | simp)
@[simp] theorem continueErase_tap (x : CardSlot) : (continueErase x s).tap = s.tap := by unfold continueErase; (try dsimp only); (repeat' split) <;> (first | rfl | simp)
@[simp] theorem continueErase_clip (x : CardSlot) : (continueErase x s).clip = s.clip := by unfold continueErase; (try dsimp only); (repeat' split) <;> (first | rfl | simp)
@[simp] theorem continueErase_motion (x : CardSlot) : (continueErase x s).motion = s.motion := by unfold continueErase; (try dsimp only); (repeat' split) <;> (first | rfl | simp)
@[simp] theorem continueErase_view (x : CardSlot) : (continueErase x s).view = s.view := by unfold continueErase; (try dsimp only); (repeat' split) <;> (first | rfl | simp)
@[simp] theorem continueErase_zoom (x : CardSlot) : (continueErase x s).zoom = s.zoom := by unfold continueErase; (try dsimp only); (repeat' split) <;> (first | rfl | simp)
@[simp] theorem continueErase_audio (x : CardSlot) : (continueErase x s).audio = s.audio := by unfold continueErase; (try dsimp only); (repeat' split) <;> (first | rfl | simp)
@[simp] theorem continueErase_acc (x : CardSlot) : (continueErase x s).acc = s.acc := by unfold continueErase; (try dsimp only); (repeat' split) <;> (first | rfl | simp)
@[simp] theorem continueErase_control (x : CardSlot) : (continueErase x s).control = s.control := by unfold continueErase; (try dsimp only); (repeat' split) <;> (first | rfl | simp)
@[simp] theorem continueErase_now (x : CardSlot) : (continueErase x s).now = s.now := by unfold continueErase; (try dsimp only); (repeat' split) <;> (first | rfl | simp)
@[simp] theorem continueErase_pending (x : CardSlot) : (continueErase x s).pending = s.pending := by unfold continueErase; (try dsimp only); (repeat' split) <;> (first | rfl | simp)

@[simp] theorem leaveActive_path (x : CardSlot) (new : CardState) : (leaveActive x new s).path = s.path := by simp [leaveActive]
@[simp] theorem leaveActive_tap (x : CardSlot) (new : CardState) : (leaveActive x new s).tap = s.tap := by simp [leaveActive]
@[simp] theorem leaveActive_clip (x : CardSlot) (new : CardState) : (leaveActive x new s).clip = s.clip := by simp [leaveActive]
@[simp] theorem leaveActive_motion (x : CardSlot) (new : CardState) : (leaveActive x new s).motion = s.motion := by simp [leaveActive]
@[simp] theorem leaveActive_view (x : CardSlot) (new : CardState) : (leaveActive x new s).view = s.view := by simp [leaveActive]
@[simp] theorem leaveActive_zoom (x : CardSlot) (new : CardState) : (leaveActive x new s).zoom = s.zoom := by simp [leaveActive]
@[simp] theorem leaveActive_audio (x : CardSlot) (new : CardState) : (leaveActive x new s).audio = s.audio := by simp [leaveActive]
@[simp] theorem leaveActive_acc (x : CardSlot) (new : CardState) : (leaveActive x new s).acc = s.acc := by simp [leaveActive]
@[simp] theorem leaveActive_now (x : CardSlot) (new : CardState) : (leaveActive x new s).now = s.now := by simp [leaveActive]
@[simp] theorem leaveActive_pending (x : CardSlot) (new : CardState) : (leaveActive x new s).pending = s.pending := by simp [leaveActive]

@[simp] theorem releaseCard_path (x : CardSlot) : (releaseCard x s).path = s.path := by unfold releaseCard; (repeat' split) <;> (first | rfl | simp)
@[simp] theorem releaseCard_tap (x : CardSlot) : (releaseCard x s).tap = s.tap := by unfold releaseCard; (repeat' split) <;> (first | rfl | simp)
@[simp] theorem releaseCard_clip (x : CardSlot) : (releaseCard x s).clip = s.clip := by unfold releaseCard; (repeat' split) <;> (first | rfl | simp)
@[simp] theorem releaseCard_motion (x : CardSlot) : (releaseCard x s).motion = s.motion := by unfold releaseCard; (repeat' split) <;> (first | rfl | simp)
@[simp] theorem releaseCard_view (x : CardSlot) : (releaseCard x s).view = s.view := by unfold releaseCard; (repeat' split) <;> (first | rfl | simp)
@[simp] theorem releaseCard_zoom (x : CardSlot) : (releaseCard x s).zoom = s.zoom := by unfold releaseCard; (repeat' split) <;> (first | rfl | simp)
@[simp] theorem releaseCard_audio (x : CardSlot) : (releaseCard x s).audio = s.audio := by unfold releaseCard; (repeat' split) <;> (first | rfl | simp)
@[simp] theorem releaseCard_acc (x : CardSlot) : (releaseCard x s).acc = s.acc := by unfold releaseCard; (repeat' split) <;> (first | rfl | simp)
@[simp] theorem releaseCard_now (x : CardSlot) : (releaseCard x s).now = s.now := by unfold releaseCard; (repeat' split) <;> (first | rfl | simp)
@[simp] theorem releaseCard_pending (x : CardSlot) : (releaseCard x s).pending = s.pending := by unfold releaseCard; (repeat' split) <;> (first | rfl | simp)

@[simp] theorem dropFetch_tap (x : CardSlot) : (dropFetch x s).tap = s.tap := by simp [dropFetch]
@[simp] theorem dropFetch_clip (x : CardSlot) : (dropFetch x s).clip = s.clip := by simp [dropFetch]
@[simp] theorem dropFetch_motion (x : CardSlot) : (dropFetch x s).motion = s.motion := by simp [dropFetch]
@[simp] theorem dropFetch_view (x : CardSlot) : (dropFetch x s).view = s.view := by simp [dropFetch]
@[simp] theorem dropFetch_zoom (x : CardSlot) : (dropFetch x s).zoom = s.zoom := by simp [dropFetch]
@[simp] theorem dropFetch_audio (x : CardSlot) : (dropFetch x s).audio = s.audio := by simp [dropFetch]
@[simp] theorem dropFetch_acc (x : CardSlot) : (dropFetch x s).acc = s.acc := by simp [dropFetch]
@[simp] theorem dropFetch_control (x : CardSlot) : (dropFetch x s).control = s.control := by simp [dropFetch]
@[simp] theorem dropFetch_now (x : CardSlot) : (dropFetch x s).now = s.now := by simp [dropFetch]
@[simp] theorem dropFetch_pending (x : CardSlot) : (dropFetch x s).pending = s.pending := by simp [dropFetch]

@[simp] theorem dropChain_clip (x : CardSlot) : (dropChain x s).clip = s.clip := by simp [dropChain]
@[simp] theorem dropChain_motion (x : CardSlot) : (dropChain x s).motion = s.motion := by simp [dropChain]
@[simp] theorem dropChain_zoom (x : CardSlot) : (dropChain x s).zoom = s.zoom := by simp [dropChain]
@[simp] theorem dropChain_audio (x : CardSlot) : (dropChain x s).audio = s.audio := by simp [dropChain]
@[simp] theorem dropChain_acc (x : CardSlot) : (dropChain x s).acc = s.acc := by simp [dropChain]
@[simp] theorem dropChain_now (x : CardSlot) : (dropChain x s).now = s.now := by simp [dropChain]
@[simp] theorem dropChain_pending (x : CardSlot) : (dropChain x s).pending = s.pending := by simp [dropChain]

@[simp] theorem releaseDrainedCard_path (x : CardSlot) : (releaseDrainedCard x s).path = s.path := by unfold releaseDrainedCard; (repeat' split) <;> (first | rfl | simp)
@[simp] theorem releaseDrainedCard_tap (x : CardSlot) : (releaseDrainedCard x s).tap = s.tap := by unfold releaseDrainedCard; (repeat' split) <;> (first | rfl | simp)
@[simp] theorem releaseDrainedCard_clip (x : CardSlot) : (releaseDrainedCard x s).clip = s.clip := by unfold releaseDrainedCard; (repeat' split) <;> (first | rfl | simp)
@[simp] theorem releaseDrainedCard_motion (x : CardSlot) : (releaseDrainedCard x s).motion = s.motion := by unfold releaseDrainedCard; (repeat' split) <;> (first | rfl | simp)
@[simp] theorem releaseDrainedCard_view (x : CardSlot) : (releaseDrainedCard x s).view = s.view := by unfold releaseDrainedCard; (repeat' split) <;> (first | rfl | simp)
@[simp] theorem releaseDrainedCard_zoom (x : CardSlot) : (releaseDrainedCard x s).zoom = s.zoom := by unfold releaseDrainedCard; (repeat' split) <;> (first | rfl | simp)
@[simp] theorem releaseDrainedCard_audio (x : CardSlot) : (releaseDrainedCard x s).audio = s.audio := by unfold releaseDrainedCard; (repeat' split) <;> (first | rfl | simp)
@[simp] theorem releaseDrainedCard_acc (x : CardSlot) : (releaseDrainedCard x s).acc = s.acc := by unfold releaseDrainedCard; (repeat' split) <;> (first | rfl | simp)
@[simp] theorem releaseDrainedCard_now (x : CardSlot) : (releaseDrainedCard x s).now = s.now := by unfold releaseDrainedCard; (repeat' split) <;> (first | rfl | simp)
@[simp] theorem releaseDrainedCard_pending (x : CardSlot) : (releaseDrainedCard x s).pending = s.pending := by unfold releaseDrainedCard; (repeat' split) <;> (first | rfl | simp)

@[simp] theorem releaseDrained_path : (releaseDrained s).path = s.path := by simp [releaseDrained]
@[simp] theorem releaseDrained_tap : (releaseDrained s).tap = s.tap := by simp [releaseDrained]
@[simp] theorem releaseDrained_clip : (releaseDrained s).clip = s.clip := by simp [releaseDrained]
@[simp] theorem releaseDrained_motion : (releaseDrained s).motion = s.motion := by simp [releaseDrained]
@[simp] theorem releaseDrained_view : (releaseDrained s).view = s.view := by simp [releaseDrained]
@[simp] theorem releaseDrained_zoom : (releaseDrained s).zoom = s.zoom := by simp [releaseDrained]
@[simp] theorem releaseDrained_audio : (releaseDrained s).audio = s.audio := by simp [releaseDrained]
@[simp] theorem releaseDrained_acc : (releaseDrained s).acc = s.acc := by simp [releaseDrained]
@[simp] theorem releaseDrained_now : (releaseDrained s).now = s.now := by simp [releaseDrained]
@[simp] theorem releaseDrained_pending : (releaseDrained s).pending = s.pending := by simp [releaseDrained]

@[simp] theorem dropDone_path : (dropDone s).path = s.path := by simp [dropDone]
@[simp] theorem dropDone_tap : (dropDone s).tap = s.tap := by simp [dropDone]
@[simp] theorem dropDone_cardA : (dropDone s).cardA = s.cardA := by simp [dropDone]
@[simp] theorem dropDone_cardB : (dropDone s).cardB = s.cardB := by simp [dropDone]
@[simp] theorem dropDone_motion : (dropDone s).motion = s.motion := by simp [dropDone]
@[simp] theorem dropDone_view : (dropDone s).view = s.view := by simp [dropDone]
@[simp] theorem dropDone_zoom : (dropDone s).zoom = s.zoom := by simp [dropDone]
@[simp] theorem dropDone_audio : (dropDone s).audio = s.audio := by simp [dropDone]
@[simp] theorem dropDone_acc : (dropDone s).acc = s.acc := by simp [dropDone]
@[simp] theorem dropDone_control : (dropDone s).control = s.control := by simp [dropDone]
@[simp] theorem dropDone_now : (dropDone s).now = s.now := by simp [dropDone]
@[simp] theorem dropDone_pending : (dropDone s).pending = s.pending := by simp [dropDone]
@[simp] theorem dropDone_card (y : CardSlot) : (dropDone s).card y = s.card y := by cases y <;> simp [State.card]

@[simp] theorem fetchGroup_path (x : CardSlot) (addr : Nat) : (fetchGroup x addr s).path = s.path := by simp [fetchGroup]
@[simp] theorem fetchGroup_tap (x : CardSlot) (addr : Nat) : (fetchGroup x addr s).tap = s.tap := by simp [fetchGroup]
@[simp] theorem fetchGroup_clip (x : CardSlot) (addr : Nat) : (fetchGroup x addr s).clip = s.clip := by simp [fetchGroup]
@[simp] theorem fetchGroup_motion (x : CardSlot) (addr : Nat) : (fetchGroup x addr s).motion = s.motion := by simp [fetchGroup]
@[simp] theorem fetchGroup_view (x : CardSlot) (addr : Nat) : (fetchGroup x addr s).view = s.view := by simp [fetchGroup]
@[simp] theorem fetchGroup_zoom (x : CardSlot) (addr : Nat) : (fetchGroup x addr s).zoom = s.zoom := by simp [fetchGroup]
@[simp] theorem fetchGroup_audio (x : CardSlot) (addr : Nat) : (fetchGroup x addr s).audio = s.audio := by simp [fetchGroup]
@[simp] theorem fetchGroup_acc (x : CardSlot) (addr : Nat) : (fetchGroup x addr s).acc = s.acc := by simp [fetchGroup]
@[simp] theorem fetchGroup_control (x : CardSlot) (addr : Nat) : (fetchGroup x addr s).control = s.control := by simp [fetchGroup]
@[simp] theorem fetchGroup_now (x : CardSlot) (addr : Nat) : (fetchGroup x addr s).now = s.now := by simp [fetchGroup]
@[simp] theorem fetchGroup_pending (x : CardSlot) (addr : Nat) : (fetchGroup x addr s).pending = s.pending := by simp [fetchGroup]

@[simp] theorem lookaheadResolved_path (x : CardSlot) (l : Lookahead) : (lookaheadResolved x l s).path = s.path := by unfold lookaheadResolved; (try dsimp only); (repeat' split) <;> (first | rfl | simp)
@[simp] theorem lookaheadResolved_clip (x : CardSlot) (l : Lookahead) : (lookaheadResolved x l s).clip = s.clip := by unfold lookaheadResolved; (try dsimp only); (repeat' split) <;> (first | rfl | simp)
@[simp] theorem lookaheadResolved_motion (x : CardSlot) (l : Lookahead) : (lookaheadResolved x l s).motion = s.motion := by unfold lookaheadResolved; (try dsimp only); (repeat' split) <;> (first | rfl | simp)
@[simp] theorem lookaheadResolved_zoom (x : CardSlot) (l : Lookahead) : (lookaheadResolved x l s).zoom = s.zoom := by unfold lookaheadResolved; (try dsimp only); (repeat' split) <;> (first | rfl | simp)
@[simp] theorem lookaheadResolved_audio (x : CardSlot) (l : Lookahead) : (lookaheadResolved x l s).audio = s.audio := by unfold lookaheadResolved; (try dsimp only); (repeat' split) <;> (first | rfl | simp)
@[simp] theorem lookaheadResolved_acc (x : CardSlot) (l : Lookahead) : (lookaheadResolved x l s).acc = s.acc := by unfold lookaheadResolved; (try dsimp only); (repeat' split) <;> (first | rfl | simp)
@[simp] theorem lookaheadResolved_now (x : CardSlot) (l : Lookahead) : (lookaheadResolved x l s).now = s.now := by unfold lookaheadResolved; (try dsimp only); (repeat' split) <;> (first | rfl | simp)
@[simp] theorem lookaheadResolved_pending (x : CardSlot) (l : Lookahead) : (lookaheadResolved x l s).pending = s.pending := by unfold lookaheadResolved; (try dsimp only); (repeat' split) <;> (first | rfl | simp)

@[simp] theorem chainEmpty_path (x : CardSlot) : (chainEmpty x s).path = s.path := by unfold chainEmpty; (try dsimp only); (repeat' split) <;> (first | rfl | simp)
@[simp] theorem chainEmpty_clip (x : CardSlot) : (chainEmpty x s).clip = s.clip := by unfold chainEmpty; (try dsimp only); (repeat' split) <;> (first | rfl | simp)
@[simp] theorem chainEmpty_motion (x : CardSlot) : (chainEmpty x s).motion = s.motion := by unfold chainEmpty; (try dsimp only); (repeat' split) <;> (first | rfl | simp)
@[simp] theorem chainEmpty_zoom (x : CardSlot) : (chainEmpty x s).zoom = s.zoom := by unfold chainEmpty; (try dsimp only); (repeat' split) <;> (first | rfl | simp)
@[simp] theorem chainEmpty_audio (x : CardSlot) : (chainEmpty x s).audio = s.audio := by unfold chainEmpty; (try dsimp only); (repeat' split) <;> (first | rfl | simp)
@[simp] theorem chainEmpty_acc (x : CardSlot) : (chainEmpty x s).acc = s.acc := by unfold chainEmpty; (try dsimp only); (repeat' split) <;> (first | rfl | simp)
@[simp] theorem chainEmpty_now (x : CardSlot) : (chainEmpty x s).now = s.now := by unfold chainEmpty; (try dsimp only); (repeat' split) <;> (first | rfl | simp)
@[simp] theorem chainEmpty_pending (x : CardSlot) : (chainEmpty x s).pending = s.pending := by unfold chainEmpty; (try dsimp only); (repeat' split) <;> (first | rfl | simp)

@[simp] theorem walkEnds_path (x : CardSlot) : (walkEnds x s).path = s.path := by unfold walkEnds; (repeat' split) <;> (first | rfl | simp)
@[simp] theorem walkEnds_clip (x : CardSlot) : (walkEnds x s).clip = s.clip := by unfold walkEnds; (repeat' split) <;> (first | rfl | simp)
@[simp] theorem walkEnds_motion (x : CardSlot) : (walkEnds x s).motion = s.motion := by unfold walkEnds; (repeat' split) <;> (first | rfl | simp)
@[simp] theorem walkEnds_zoom (x : CardSlot) : (walkEnds x s).zoom = s.zoom := by unfold walkEnds; (repeat' split) <;> (first | rfl | simp)
@[simp] theorem walkEnds_audio (x : CardSlot) : (walkEnds x s).audio = s.audio := by unfold walkEnds; (repeat' split) <;> (first | rfl | simp)
@[simp] theorem walkEnds_acc (x : CardSlot) : (walkEnds x s).acc = s.acc := by unfold walkEnds; (repeat' split) <;> (first | rfl | simp)
@[simp] theorem walkEnds_now (x : CardSlot) : (walkEnds x s).now = s.now := by unfold walkEnds; (repeat' split) <;> (first | rfl | simp)
@[simp] theorem walkEnds_pending (x : CardSlot) : (walkEnds x s).pending = s.pending := by unfold walkEnds; (repeat' split) <;> (first | rfl | simp)

/-! ### Abandoned audio blocks (R160) -/

/-- What AUDIO_OFF and CLEAR_REGION of AUDIO do to the blocks in progress and to the lines that wait. -/
theorem abandonBlocks_eq (a : Audio) :
    abandonBlocks a = { a with blocks := a.blocks.map freeFilling, current := none, lines := linesKept a } := by
  have h : ∀ n : Word32, (!abandoned a n) =
      ((match a.current with | some c => c.number != n | none => true) && a.blocks.all fun
        | .filling i => i.number != n
        | _ => true) := by
    intro n
    simp only [abandoned, Bool.not_or, List.not_any_eq_all_not]
    congr 1
    · cases a.current <;> simp [bne]
    · exact List.all_congr rfl fun r => by cases r <;> rfl
  unfold abandonBlocks linesKept
  congr 1
  exact List.filter_congr fun l _ => h l.number

/-! ### The report ring (R193, R195) -/

/-- A notice takes at most one place of the ring, and none of a full one. -/
theorem unread_postNotice (n : Notice) (h : unread s ≤ 64) : unread (postNotice n s) ≤ 64 := by
  unfold postNotice
  by_cases hu : unread s < Config.reportRingCap
  · simp only [hu, if_true]
    have hl : unread s < 64 := hu
    have hp : (writeNotice ⟨n, s.view.frameCount, 0⟩ s).control.reportProducer = s.control.reportProducer + 1 := by
      unfold writeNotice clearNoticeCount
      split <;> simp [writeRing, presentWrite]
    unfold unread at hl ⊢
    rw [hp, writeNotice_path]
    bv_omega
  · simp only [hu]; exact h

/-! ### The index words (R78) -/

/-- A write puts `b` at an address exactly when one of its enabled lanes lies there. -/
theorem writtenByte_eq_some {a p : Nat} {lanes : List LaneByte} {b : Byte} :
    writtenByte a lanes p = some b ↔ ∃ i, lanes[i]? = some (b, true) ∧ a + i = p := by
  unfold writtenByte
  constructor
  · intro h
    split at h
    · refine ⟨p - a, ?_, by omega⟩
      split at h
      · rename_i x hx
        cases h
        exact hx
      · cases h
    · cases h
  · rintro ⟨i, hi, rfl⟩
    simp [hi]

theorem writtenByte_eq_none {a p : Nat} {lanes : List LaneByte} :
    writtenByte a lanes p = none ↔ ∀ i b, lanes[i]? = some (b, true) → a + i ≠ p := by
  rw [Option.eq_none_iff_forall_ne_some]
  simp only [ne_eq, writtenByte_eq_some, not_exists, not_and]
  exact ⟨fun h i b => h b i, fun h b i => h i b⟩

/-- The new copy is none exactly when the write enables neither byte of the index (R78). -/
theorem newCopy_eq_none {old : Word16} {a word : Nat} {lanes : List LaneByte} :
    newCopy old a lanes word = none ↔ wordUntouched a lanes word := by
  have h : newCopy old a lanes word = none ↔ writtenByte a lanes word = none ∧ writtenByte a lanes (word + 1) = none := by
    unfold newCopy
    split <;> simp_all
  rw [h, writtenByte_eq_none, writtenByte_eq_none]
  exact ⟨fun h i b hi => ⟨h.1 i b hi, h.2 i b hi⟩, fun h => ⟨fun i b hi => (h i b hi).1, fun i b hi => (h i b hi).2⟩⟩

/-- A copy whose byte k is the written one, or the old one where none is written, has taken the write's enabled bytes (R78). -/
theorem wordTaken_of_bytes {old v : Word16} {a word : Nat} {lanes : List LaneByte} (hn : ¬wordUntouched a lanes word)
    (h : ∀ k, k < 2 → v.extractLsb' (8 * k) 8 = (writtenByte a lanes (word + k)).getD (old.extractLsb' (8 * k) 8)) :
    wordTaken old a lanes word v := by
  refine ⟨hn, fun k hk => ⟨fun i b hi hp => ?_, fun hno => ?_⟩⟩
  · rw [h k hk, writtenByte_eq_some.mpr ⟨i, hi, hp⟩]; rfl
  · rw [h k hk, writtenByte_eq_none.mpr hno]; rfl

theorem toNat_append_bytes (x y : Byte) : (x ++ y).toNat = 256 * x.toNat + y.toNat := by
  refine (BitVec.toNat_append x y).trans ?_
  rw [← Nat.shiftLeft_add_eq_or_of_lt y.isLt, Nat.shiftLeft_eq]; omega

theorem extract_low_append (x y : Byte) : (x ++ y).extractLsb' 0 8 = y := by
  apply BitVec.eq_of_toNat_eq
  rw [BitVec.extractLsb'_toNat]
  have := toNat_append_bytes x y
  simp only [Nat.shiftRight_zero]
  omega

theorem extract_high_append (x y : Byte) : (x ++ y).extractLsb' 8 8 = x := by
  apply BitVec.eq_of_toNat_eq
  rw [BitVec.extractLsb'_toNat, Nat.shiftRight_eq_div_pow]
  have := toNat_append_bytes x y
  omega

/-- The new copy takes the enabled bytes of the index and keeps the others (R78). -/
theorem newCopy_eq_some {old v : Word16} {a word : Nat} {lanes : List LaneByte} (h : newCopy old a lanes word = some v) :
    wordTaken old a lanes word v := by
  refine wordTaken_of_bytes (fun hn => by simp [newCopy_eq_none.mpr hn] at h) fun k hk => ?_
  unfold newCopy at h
  rcases e0 : writtenByte a lanes word with _ | b0 <;> rcases e1 : writtenByte a lanes (word + 1) with _ | b1 <;>
    rw [e0, e1] at h <;> cases h <;> obtain rfl | rfl : k = 0 ∨ k = 1 := by omega
  all_goals first
    | exact (extract_low_append _ _).trans (by rw [Nat.add_zero, e0]; rfl)
    | exact (extract_high_append _ _).trans (by rw [e1]; rfl)

/-- The merge of R78 is what `newCopy` computes. -/
theorem newCopy_eq_some_iff {old v : Word16} {a word : Nat} {lanes : List LaneByte} :
    newCopy old a lanes word = some v ↔ wordTaken old a lanes word v := by
  refine ⟨newCopy_eq_some, fun h => ?_⟩
  rcases e : newCopy old a lanes word with _ | w
  · exact absurd (newCopy_eq_none.mp e) h.1
  · have same : ∀ k, k < 2 → w.extractLsb' (8 * k) 8 = v.extractLsb' (8 * k) 8 := fun k hk => by
      have hw := (newCopy_eq_some e).2 k hk
      by_cases hl : ∃ i b, lanes[i]? = some (b, true) ∧ a + i = word + k
      · obtain ⟨i, b, hi, hp⟩ := hl
        rw [hw.1 i b hi hp, (h.2 k hk).1 i b hi hp]
      · have hn : ∀ (i : Nat) (b : Byte), lanes[i]? = some (b, true) → a + i ≠ word + k := fun i b hi hp => hl ⟨i, b, hi, hp⟩
        rw [hw.2 hn, (h.2 k hk).2 hn]
    have h0 := congrArg BitVec.toNat (same 0 (by decide))
    have h1 := congrArg BitVec.toNat (same 1 (by decide))
    rw [BitVec.extractLsb'_toNat, BitVec.extractLsb'_toNat, Nat.shiftRight_eq_div_pow, Nat.shiftRight_eq_div_pow] at h0 h1
    congr 1
    apply BitVec.eq_of_toNat_eq
    have := w.isLt
    have := v.isLt
    omega

end Sys2Proof.Machine
end

