-- ==== Sys2Proof/Laws/PerInstr.lean ====
section
/-! SUPPORT. The family EntryCode, one lemma for each constructor: the entry that spells a command is 64 bytes with result 0. -/

open Sys2Proof

/-- The entry that a host writes for the command, where it is one, has 64 bytes, and its result byte is 0 (R190, R206). -/
def Sys2Proof.Laws.EntryCode.Statement (i : Instr) : Prop :=
  ∀ e, encodeEntry i = some e → e.length = 64 ∧ byteAt e 5 = 0

theorem Sys2Proof.Laws.entryBytes_form (code : Nat) (h : EntryHead) (args : List Byte) :
    (entryBytes code h args).length = 64 ∧ byteAt (entryBytes code h args) 5 = 0 := by
  constructor
  · simp [entryBytes, littleEndian]
  · simp [entryBytes, littleEndian, byteAt, field, fromLittleEndian]

theorem Sys2Proof.Laws.entryCode_of_encode {i : Instr} {code : Nat} {h : EntryHead} {args : List Byte}
    (hi : encodeEntry i = some (entryBytes code h args)) : Sys2Proof.Laws.EntryCode.Statement i := by
  intro e he
  rw [hi] at he
  cases he
  exact Sys2Proof.Laws.entryBytes_form code h args

theorem Sys2Proof.Laws.EntryCode.hostTransactionTake (t : Transaction) : Sys2Proof.Laws.EntryCode.Statement (.hostTransactionTake t) :=
  fun _ he => by cases he
theorem Sys2Proof.Laws.EntryCode.holdTimerExpiry : Sys2Proof.Laws.EntryCode.Statement .holdTimerExpiry :=
  fun _ he => by cases he
theorem Sys2Proof.Laws.EntryCode.downstreamGrant : Sys2Proof.Laws.EntryCode.Statement .downstreamGrant :=
  fun _ he => by cases he
theorem Sys2Proof.Laws.EntryCode.hostDownstreamCompletion (data : List Byte) : Sys2Proof.Laws.EntryCode.Statement (.hostDownstreamCompletion data) :=
  fun _ he => by cases he
theorem Sys2Proof.Laws.EntryCode.upstreamCompletion : Sys2Proof.Laws.EntryCode.Statement .upstreamCompletion :=
  fun _ he => by cases he
theorem Sys2Proof.Laws.EntryCode.commandProducerWrite : Sys2Proof.Laws.EntryCode.Statement .commandProducerWrite :=
  fun _ he => by cases he
theorem Sys2Proof.Laws.EntryCode.reportConsumerWrite : Sys2Proof.Laws.EntryCode.Statement .reportConsumerWrite :=
  fun _ he => by cases he
theorem Sys2Proof.Laws.EntryCode.reportProducerAck : Sys2Proof.Laws.EntryCode.Statement .reportProducerAck :=
  fun _ he => by cases he
theorem Sys2Proof.Laws.EntryCode.statusTimerExpiry : Sys2Proof.Laws.EntryCode.Statement .statusTimerExpiry :=
  fun _ he => by cases he
theorem Sys2Proof.Laws.EntryCode.unknownCommand (h : EntryHead) (code : Word16) : Sys2Proof.Laws.EntryCode.Statement (.unknownCommand h code) :=
  Sys2Proof.Laws.entryCode_of_encode rfl
theorem Sys2Proof.Laws.EntryCode.setRegion (h : EntryHead) (record : Byte) (base size : Word32) (spec : RegionSpec) : Sys2Proof.Laws.EntryCode.Statement (.setRegion h record base size spec) :=
  Sys2Proof.Laws.entryCode_of_encode rfl
theorem Sys2Proof.Laws.EntryCode.clearRegion (h : EntryHead) (record : Byte) : Sys2Proof.Laws.EntryCode.Statement (.clearRegion h record) :=
  Sys2Proof.Laws.entryCode_of_encode rfl
theorem Sys2Proof.Laws.EntryCode.recConfig (h : EntryHead) (mode gripRec : Byte) (chunkMax chunkMin : Word32) : Sys2Proof.Laws.EntryCode.Statement (.recConfig h mode gripRec chunkMax chunkMin) :=
  Sys2Proof.Laws.entryCode_of_encode rfl
theorem Sys2Proof.Laws.EntryCode.recStart (h : EntryHead) (clip : Word16) : Sys2Proof.Laws.EntryCode.Statement (.recStart h clip) :=
  Sys2Proof.Laws.entryCode_of_encode rfl
theorem Sys2Proof.Laws.EntryCode.recStop (h : EntryHead) : Sys2Proof.Laws.EntryCode.Statement (.recStop h) :=
  Sys2Proof.Laws.entryCode_of_encode rfl
theorem Sys2Proof.Laws.EntryCode.cardChain (h : EntryHead) (slot : Byte) (group : Word32) : Sys2Proof.Laws.EntryCode.Statement (.cardChain h slot group) :=
  Sys2Proof.Laws.entryCode_of_encode rfl
theorem Sys2Proof.Laws.EntryCode.cardSleep (h : EntryHead) (slot : Byte) : Sys2Proof.Laws.EntryCode.Statement (.cardSleep h slot) :=
  Sys2Proof.Laws.entryCode_of_encode rfl
theorem Sys2Proof.Laws.EntryCode.cardWake (h : EntryHead) (slot : Byte) : Sys2Proof.Laws.EntryCode.Statement (.cardWake h slot) :=
  Sys2Proof.Laws.entryCode_of_encode rfl
theorem Sys2Proof.Laws.EntryCode.cardEject (h : EntryHead) (slot : Byte) : Sys2Proof.Laws.EntryCode.Statement (.cardEject h slot) :=
  Sys2Proof.Laws.entryCode_of_encode rfl
theorem Sys2Proof.Laws.EntryCode.stabConfig (h : EntryHead) (biasX biasY : Word16) (dirX dirY kSteady kPan : Byte) (panThreshold : Word16) (panEnter : Byte) (panExit : Word16) : Sys2Proof.Laws.EntryCode.Statement (.stabConfig h biasX biasY dirX dirY kSteady kPan panThreshold panEnter panExit) :=
  Sys2Proof.Laws.entryCode_of_encode rfl
theorem Sys2Proof.Laws.EntryCode.stabEnable (h : EntryHead) : Sys2Proof.Laws.EntryCode.Statement (.stabEnable h) :=
  Sys2Proof.Laws.entryCode_of_encode rfl
theorem Sys2Proof.Laws.EntryCode.stabDisable (h : EntryHead) : Sys2Proof.Laws.EntryCode.Statement (.stabDisable h) :=
  Sys2Proof.Laws.entryCode_of_encode rfl
theorem Sys2Proof.Laws.EntryCode.focalLoad (h : EntryHead) (addr : Word32) : Sys2Proof.Laws.EntryCode.Statement (.focalLoad h addr) :=
  Sys2Proof.Laws.entryCode_of_encode rfl
theorem Sys2Proof.Laws.EntryCode.focalLoadReadReturn (data : List Byte) : Sys2Proof.Laws.EntryCode.Statement (.focalLoadReadReturn data) :=
  fun _ he => by cases he
theorem Sys2Proof.Laws.EntryCode.zoomConfig (h : EntryHead) (addr : Word32) (seg : Word16) (e tolerance : Byte) : Sys2Proof.Laws.EntryCode.Statement (.zoomConfig h addr seg e tolerance) :=
  Sys2Proof.Laws.entryCode_of_encode rfl
theorem Sys2Proof.Laws.EntryCode.zoomConfigReadReturn (data : List Byte) : Sys2Proof.Laws.EntryCode.Statement (.zoomConfigReadReturn data) :=
  fun _ he => by cases he
theorem Sys2Proof.Laws.EntryCode.zoomHome (h : EntryHead) : Sys2Proof.Laws.EntryCode.Statement (.zoomHome h) :=
  Sys2Proof.Laws.entryCode_of_encode rfl
theorem Sys2Proof.Laws.EntryCode.zoomGoto (h : EntryHead) (target : Word16) (maxLevel : Byte) : Sys2Proof.Laws.EntryCode.Statement (.zoomGoto h target maxLevel) :=
  Sys2Proof.Laws.entryCode_of_encode rfl
theorem Sys2Proof.Laws.EntryCode.zoomSpeed (h : EntryHead) (level : Byte) : Sys2Proof.Laws.EntryCode.Statement (.zoomSpeed h level) :=
  Sys2Proof.Laws.entryCode_of_encode rfl
theorem Sys2Proof.Laws.EntryCode.zoomStop (h : EntryHead) : Sys2Proof.Laws.EntryCode.Statement (.zoomStop h) :=
  Sys2Proof.Laws.entryCode_of_encode rfl
theorem Sys2Proof.Laws.EntryCode.audioConfig (h : EntryHead) (role enables : Byte) : Sys2Proof.Laws.EntryCode.Statement (.audioConfig h role enables) :=
  Sys2Proof.Laws.entryCode_of_encode rfl
theorem Sys2Proof.Laws.EntryCode.audioOff (h : EntryHead) : Sys2Proof.Laws.EntryCode.Statement (.audioOff h) :=
  Sys2Proof.Laws.entryCode_of_encode rfl
theorem Sys2Proof.Laws.EntryCode.accConfigBegin (h : EntryHead) : Sys2Proof.Laws.EntryCode.Statement (.accConfigBegin h) :=
  Sys2Proof.Laws.entryCode_of_encode rfl
theorem Sys2Proof.Laws.EntryCode.accBufferSet (h : EntryHead) (index direction identifier owner mode staleCycles : Byte) : Sys2Proof.Laws.EntryCode.Statement (.accBufferSet h index direction identifier owner mode staleCycles) :=
  Sys2Proof.Laws.entryCode_of_encode rfl
theorem Sys2Proof.Laws.EntryCode.accFilterSet (h : EntryHead) (acceptEnable acceptCode acceptMask rejectEnable rejectCode rejectMask : Byte) : Sys2Proof.Laws.EntryCode.Statement (.accFilterSet h acceptEnable acceptCode acceptMask rejectEnable rejectCode rejectMask) :=
  Sys2Proof.Laws.entryCode_of_encode rfl
theorem Sys2Proof.Laws.EntryCode.accLinkSet (h : EntryHead) (period q : Byte) : Sys2Proof.Laws.EntryCode.Statement (.accLinkSet h period q) :=
  Sys2Proof.Laws.entryCode_of_encode rfl
theorem Sys2Proof.Laws.EntryCode.accConfigEnd (h : EntryHead) : Sys2Proof.Laws.EntryCode.Statement (.accConfigEnd h) :=
  Sys2Proof.Laws.entryCode_of_encode rfl
theorem Sys2Proof.Laws.EntryCode.accSend (h : EntryHead) (index length : Byte) (data : List Byte) : Sys2Proof.Laws.EntryCode.Statement (.accSend h index length data) :=
  Sys2Proof.Laws.entryCode_of_encode rfl
theorem Sys2Proof.Laws.EntryCode.ackConditions (h : EntryHead) (set : Word16) : Sys2Proof.Laws.EntryCode.Statement (.ackConditions h set) :=
  Sys2Proof.Laws.entryCode_of_encode rfl
theorem Sys2Proof.Laws.EntryCode.setNoticeMask (h : EntryHead) (set : Word16) : Sys2Proof.Laws.EntryCode.Statement (.setNoticeMask h set) :=
  Sys2Proof.Laws.entryCode_of_encode rfl
theorem Sys2Proof.Laws.EntryCode.softReset (h : EntryHead) : Sys2Proof.Laws.EntryCode.Statement (.softReset h) :=
  Sys2Proof.Laws.entryCode_of_encode rfl
theorem Sys2Proof.Laws.EntryCode.chunkChoice : Sys2Proof.Laws.EntryCode.Statement .chunkChoice :=
  fun _ he => by cases he
theorem Sys2Proof.Laws.EntryCode.videoPayloadReadReturn (data : List Byte) : Sys2Proof.Laws.EntryCode.Statement (.videoPayloadReadReturn data) :=
  fun _ he => by cases he
theorem Sys2Proof.Laws.EntryCode.audioPayloadReadReturn (data : List Byte) : Sys2Proof.Laws.EntryCode.Statement (.audioPayloadReadReturn data) :=
  fun _ he => by cases he
theorem Sys2Proof.Laws.EntryCode.pageOpen : Sys2Proof.Laws.EntryCode.Statement .pageOpen :=
  fun _ he => by cases he
theorem Sys2Proof.Laws.EntryCode.clipClose : Sys2Proof.Laws.EntryCode.Statement .clipClose :=
  fun _ he => by cases he
theorem Sys2Proof.Laws.EntryCode.recordingStopped : Sys2Proof.Laws.EntryCode.Statement .recordingStopped :=
  fun _ he => by cases he
theorem Sys2Proof.Laws.EntryCode.cardDetectActive (slot : CardSlot) : Sys2Proof.Laws.EntryCode.Statement (.cardDetectActive slot) :=
  fun _ he => by cases he
theorem Sys2Proof.Laws.EntryCode.cardSettleExpiry (slot : CardSlot) : Sys2Proof.Laws.EntryCode.Statement (.cardSettleExpiry slot) :=
  fun _ he => by cases he
theorem Sys2Proof.Laws.EntryCode.cardRemoval (slot : CardSlot) : Sys2Proof.Laws.EntryCode.Statement (.cardRemoval slot) :=
  fun _ he => by cases he
theorem Sys2Proof.Laws.EntryCode.cardIdentRetry (slot : CardSlot) : Sys2Proof.Laws.EntryCode.Statement (.cardIdentRetry slot) :=
  fun _ he => by cases he
theorem Sys2Proof.Laws.EntryCode.cardIdentResponse (slot : CardSlot) (response : List Byte) (protectInput : Bool) : Sys2Proof.Laws.EntryCode.Statement (.cardIdentResponse slot response protectInput) :=
  fun _ he => by cases he
theorem Sys2Proof.Laws.EntryCode.cardIdentTimeout (slot : CardSlot) : Sys2Proof.Laws.EntryCode.Statement (.cardIdentTimeout slot) :=
  fun _ he => by cases he
theorem Sys2Proof.Laws.EntryCode.cardStatusPoll (slot : CardSlot) (elapsed : Nat) : Sys2Proof.Laws.EntryCode.Statement (.cardStatusPoll slot elapsed) :=
  fun _ he => by cases he
theorem Sys2Proof.Laws.EntryCode.cardStatusResponse (slot : CardSlot) (response : List Byte) (protectInput : Bool) (elapsed : Nat) : Sys2Proof.Laws.EntryCode.Statement (.cardStatusResponse slot response protectInput elapsed) :=
  fun _ he => by cases he
theorem Sys2Proof.Laws.EntryCode.cardPageWriteTimeout (slot : CardSlot) : Sys2Proof.Laws.EntryCode.Statement (.cardPageWriteTimeout slot) :=
  fun _ he => by cases he
theorem Sys2Proof.Laws.EntryCode.cardEraseTimeout (slot : CardSlot) : Sys2Proof.Laws.EntryCode.Statement (.cardEraseTimeout slot) :=
  fun _ he => by cases he
theorem Sys2Proof.Laws.EntryCode.cardWakeTimeout (slot : CardSlot) : Sys2Proof.Laws.EntryCode.Statement (.cardWakeTimeout slot) :=
  fun _ he => by cases he
theorem Sys2Proof.Laws.EntryCode.cardDescriptorFetchDone (slot : CardSlot) (data : List Byte) (protectInput : Bool) : Sys2Proof.Laws.EntryCode.Statement (.cardDescriptorFetchDone slot data protectInput) :=
  fun _ he => by cases he
theorem Sys2Proof.Laws.EntryCode.cardRollover (slot : CardSlot) : Sys2Proof.Laws.EntryCode.Statement (.cardRollover slot) :=
  fun _ he => by cases he
theorem Sys2Proof.Laws.EntryCode.cardEraseStart (slot : CardSlot) : Sys2Proof.Laws.EntryCode.Statement (.cardEraseStart slot) :=
  fun _ he => by cases he
theorem Sys2Proof.Laws.EntryCode.cardPageWriteStart (slot : CardSlot) : Sys2Proof.Laws.EntryCode.Statement (.cardPageWriteStart slot) :=
  fun _ he => by cases he
theorem Sys2Proof.Laws.EntryCode.gyroSampleInstant : Sys2Proof.Laws.EntryCode.Statement .gyroSampleInstant :=
  fun _ he => by cases he
theorem Sys2Proof.Laws.EntryCode.gyroAnswer (status yawLow yawHigh pitchLow pitchHigh : PortBits) : Sys2Proof.Laws.EntryCode.Statement (.gyroAnswer status yawLow yawHigh pitchLow pitchHigh) :=
  fun _ he => by cases he
theorem Sys2Proof.Laws.EntryCode.gyroReadTimeout : Sys2Proof.Laws.EntryCode.Statement .gyroReadTimeout :=
  fun _ he => by cases he
theorem Sys2Proof.Laws.EntryCode.rampTick : Sys2Proof.Laws.EntryCode.Statement .rampTick :=
  fun _ he => by cases he
theorem Sys2Proof.Laws.EntryCode.lensTimerUnderflow : Sys2Proof.Laws.EntryCode.Statement .lensTimerUnderflow :=
  fun _ he => by cases he
theorem Sys2Proof.Laws.EntryCode.encoderEdge (samples : List Bool) : Sys2Proof.Laws.EntryCode.Statement (.encoderEdge samples) :=
  fun _ he => by cases he
theorem Sys2Proof.Laws.EntryCode.homeRise (samples : List Bool) : Sys2Proof.Laws.EntryCode.Statement (.homeRise samples) :=
  fun _ he => by cases he
theorem Sys2Proof.Laws.EntryCode.samplePeriod (received : BitVec 128) : Sys2Proof.Laws.EntryCode.Statement (.samplePeriod received) :=
  fun _ he => by cases he
theorem Sys2Proof.Laws.EntryCode.frameSync (edges : Nat) (sdin : BitVec 128) : Sys2Proof.Laws.EntryCode.Statement (.frameSync edges sdin) :=
  fun _ he => by cases he
theorem Sys2Proof.Laws.EntryCode.missingFrame : Sys2Proof.Laws.EntryCode.Statement .missingFrame :=
  fun _ he => by cases he
theorem Sys2Proof.Laws.EntryCode.audioSlipTimerExpiry : Sys2Proof.Laws.EntryCode.Statement .audioSlipTimerExpiry :=
  fun _ he => by cases he
theorem Sys2Proof.Laws.EntryCode.meterWindowEnd : Sys2Proof.Laws.EntryCode.Statement .meterWindowEnd :=
  fun _ he => by cases he
theorem Sys2Proof.Laws.EntryCode.cycleInstant : Sys2Proof.Laws.EntryCode.Statement .cycleInstant :=
  fun _ he => by cases he
theorem Sys2Proof.Laws.EntryCode.accMessageReceive (slot : BitVec 4) (m : LinkMessage) : Sys2Proof.Laws.EntryCode.Statement (.accMessageReceive slot m) :=
  fun _ he => by cases he
theorem Sys2Proof.Laws.EntryCode.accSlotEnd (slot : BitVec 4) : Sys2Proof.Laws.EntryCode.Statement (.accSlotEnd slot) :=
  fun _ he => by cases he
theorem Sys2Proof.Laws.EntryCode.accSlotStart (slot : BitVec 4) : Sys2Proof.Laws.EntryCode.Statement (.accSlotStart slot) :=
  fun _ he => by cases he
theorem Sys2Proof.Laws.EntryCode.accTransmitDone : Sys2Proof.Laws.EntryCode.Statement .accTransmitDone :=
  fun _ he => by cases he
theorem Sys2Proof.Laws.EntryCode.resetNAssert : Sys2Proof.Laws.EntryCode.Statement .resetNAssert :=
  fun _ he => by cases he
theorem Sys2Proof.Laws.EntryCode.resetNRelease (memtop : BitVec 3) (encSample homeSample : Bool) : Sys2Proof.Laws.EntryCode.Statement (.resetNRelease memtop encSample homeSample) :=
  fun _ he => by cases he
end

