-- ==== Sys2Proof/Tests/Slice0.lean ====
section
/-! SUPPORT. Tests: operands that are refused for their form, values worked out in the manual, and for every obligation states and
operands that meet the hypotheses of its clauses. -/

namespace Sys2Proof.Tests

open Sys2Proof Sys2Proof.Machine

/-! ### States to test on -/

/-- The part out of reset with 128 MiB, every block as after reset. -/
def live : State := { State.reset with path := { Path.reset with resetLow := false } }

/-- The entry read has returned. -/
def taken (s : State) : State := s.setPath { s.path with inFlight := [⟨.read 134213632 64, .commandEntry⟩] }

/-- A read of another destination has returned. -/
def returned (d : Destination) (n : Nat) (s : State) : State := s.setPath { s.path with inFlight := [⟨.read 0 n, d⟩] }

def head : EntryHead := ⟨7, true⟩
def kept : Kept := ⟨0x2A, 7, true⟩

theorem running_live : running live := rfl
theorem entryReturns_taken (s : State) (h : s.path.resetLow = false) : entryReturns (taken s) := ⟨_, h, rfl⟩
theorem returns_returned (s : State) (d : Destination) (n : Nat) (h : s.path.resetLow = false) (hd : (d == .ignored) = false) :
    returns (returned d n s) ⟨.read 0 n, d⟩ := by
  refine ⟨h, ?_⟩
  simp [returned, State.setPath, hd]

/-- A field of the state after a row. -/
def afterwards {α : Type} (o : Outcome) (f : State → α) : Option α :=
  match o with
  | .next t => some (f t)
  | _ => none

def lanes (n : Nat) : List LaneByte := List.replicate n (0, true)

/-- `live` with one record of the Region Table. -/
def withRegion (i : Nat) (r : Region) (s : State) : State := s.setPath { s.path with regions := withRecord s i (some r) }

def streamAt : Region := ⟨0x100000, 1048576, .stream 65536 65536 63⟩
def indexAt : Region := ⟨0x300000, 4096, .index⟩
def frameAt : Region := ⟨0x400000, 2 * 64 * 128, .frame 2 1 128 64 128⟩
def audioAt : Region := ⟨0x500000, 12288, .audio⟩
def geometry : AliasGeometry := ⟨2, 120, 56, 2, 1, 128, 64 * 128, 0x400000, 4, 4, true⟩
def aliasAt : Region := ⟨0x600000, 16384, .aliasView geometry⟩

def streaming : State := withRegion 0 streamAt live
def framed : State := (withRegion 2 frameAt live).setView { live.view with slots := [.empty, .empty] }
def audible : State := (withRegion 3 audioAt live).setAudio { live.audio with blocks := [.free] }
def viewed : State := withRegion 4 aliasAt framed

/-- A queue entry of one transaction. -/
def entryOf (serial : Nat) (t : Transaction) (p : Progress) : QueueEntry := ⟨serial, t, [⟨t, 0, t.len⟩], 0, 0, p, [], false⟩

def queued (q : List QueueEntry) (s : State) : State := s.setPath { s.path with queue := q }

/-! ### Operands that do not have the form the manual gives them -/

theorem test_wellFormed_refuses_length : (Transaction.read 0 136).wellFormed = false := by decide
theorem test_wellFormed_refuses_empty : (Transaction.write 0 []).wellFormed = false := by decide
theorem test_wellFormed_refuses_part_beat : (Transaction.read 0 12).wellFormed = false := by decide
theorem test_wellFormed_refuses_unaligned : (Transaction.read 4 8).wellFormed = false := by decide
theorem test_wellFormed_refuses_line_crossing : (Transaction.read 120 16).wellFormed = false := by decide
theorem test_wellFormed_takes_a_line : (Transaction.read 128 128).wellFormed = true := by decide
theorem test_wellFormed_refuses_read_data : (Instr.videoPayloadReadReturn (List.replicate 9 0)).wellFormed = false := by decide
theorem test_wellFormed_refuses_message : (Instr.accMessageReceive 1 ⟨1, 3, [0, 0], 0⟩).wellFormed = false := by decide
theorem test_wellFormed_refuses_listed_kind : (Instr.setRegion head 0 0 0 (.unknown 5)).wellFormed = false := by decide
theorem test_wellFormed_refuses_listed_code : (Instr.unknownCommand head 0x7F).wellFormed = false := by decide
theorem test_wellFormed_refuses_short_send : (Instr.accSend head 0 1 [0]).wellFormed = false := by decide
theorem test_transaction_faults : exec (.hostTransactionTake (.read 4 8)) live = .fault .malformedOperand := rfl
theorem test_message_faults : exec (.accMessageReceive 1 ⟨1, 3, [0, 0], 0⟩) live = .fault .malformedOperand := rfl
theorem test_unknown_faults : exec (.unknownCommand head 0x7F) live = .fault .malformedOperand := rfl
theorem test_send_faults : exec (.accSend head 0 1 [0]) live = .fault .malformedOperand := rfl
theorem test_region_faults : exec (.setRegion head 0 0 0 (.unknown 5)) live = .fault .malformedOperand := rfl

/-! ### Values that the manual works out -/

/-- The check values of the two CRCs over the ASCII digits 1 to 9 (R165, R209). -/
theorem test_crc16 : crc16 [0x31, 0x32, 0x33, 0x34, 0x35, 0x36, 0x37, 0x38, 0x39] = 0x29B1 := by decide +kernel
theorem test_crc8 : crc8 [0x31, 0x32, 0x33, 0x34, 0x35, 0x36, 0x37, 0x38, 0x39] = 0xF4 := by decide +kernel

/-- The status block has 512 bytes (R201, R208). -/
theorem test_status_length : (statusBytes live).length = 512 := by decide +kernel

/-- No table row has bits, so a word spells nothing and puts nothing into the queue. -/
theorem test_no_word_spells : decodeTableWord 8 1 = none ∧ (State.reset.withFetchWord 8 1).pending = [] := by decide

/-- A command taken from the front of the queue: an empty queue idles (log 1). -/
theorem test_idle : step live = .next live := rfl


/-! ### Witnesses: reset, entries and the memory path -/

def withPath (f : Path → Path) (s : State) : State := s.setPath (f s.path)
def withTap (f : Tap → Tap) (s : State) : State := s.setTap (f s.tap)
def withClip (f : Clip → Clip) (s : State) : State := s.setClip (f s.clip)
def withMotion (f : Motion → Motion) (s : State) : State := s.setMotion (f s.motion)
def withView (f : View → View) (s : State) : State := s.setView (f s.view)
def withZoom (f : Zoom → Zoom) (s : State) : State := s.setZoom (f s.zoom)
def withAudio (f : Audio → Audio) (s : State) : State := s.setAudio (f s.audio)
def withAcc (f : Acc → Acc) (s : State) : State := s.setAcc (f s.acc)
def withControl (f : Control → Control) (s : State) : State := s.setControl (f s.control)
def withCard (f : Card → Card) (s : State) : State := s.setCard .a (f s.cardA)

theorem witness_ResetEdgesActOnEveryBlock :
    running live ∧ State.reset.path.resetLow = true ∧ State.reset.control.writes = [] := ⟨rfl, rfl, rfl⟩

/-- One command of each kind of argument field (R206). -/
theorem witness_EntryDecodesToItsCommand :
    (Instr.setRegion head 7 0x100000 0x1000 (.frame 4 4 16384 2 65536)).wellFormed = true ∧
    (encodeEntry (.setRegion head 7 0x100000 0x1000 (.frame 4 4 16384 2 65536))).isSome = true ∧
    (Instr.accSend head 15 12 (List.replicate 12 0xFF)).wellFormed = true ∧
    (Instr.unknownCommand head 0xFFFF).wellFormed = true ∧ (encodeEntry (.unknownCommand head 0xFFFF)).isSome = true := by decide +kernel

theorem witness_UnlistedCodeIsUnknown :
    entryReturns (taken live) ∧ (0x00 : Word16) ∉ listedCodes ∧ (0x80 : Word16) ∉ listedCodes ∧ (0xFFFF : Word16) ∉ listedCodes :=
  ⟨entryReturns_taken live rfl, by decide⟩

/-- The entry of a ZOOM_GOTO and of a SET_REGION ALIAS, byte by byte from R206. -/
theorem test_decode_zoomGoto : decodeEntry ([0x2A, 0, 7, 0, 1, 0, 0, 0, 0xF0, 0x0A, 12] ++ List.replicate 53 (0 : Byte))
    = .zoomGoto head 2800 12 := by decide
theorem test_decode_setRegion : decodeEntry ([0x01, 0, 7, 0, 1, 0, 0, 0, 4, 4, 0, 0, 0, 0, 0x60, 0, 0, 0x40, 0, 0, 2, 0, 120, 0, 56, 0]
    ++ List.replicate 38 (0 : Byte)) = .setRegion head 4 0x600000 0x4000 (.aliasView 2 120 56) := by decide

/-- Seven entries in the queue, one place left. -/
def sevenWaiting : List QueueEntry := (List.range 7).map fun n => entryOf n (.read 0 8) .waiting

theorem witness_TakeForwardsPlainTraffic :
    ((Transaction.write 0x100000 (lanes 128)).wellFormed = true ∧ (queued sevenWaiting State.reset).path.queue.length < 8 ∧
      (∀ e ∈ (queued sevenWaiting State.reset).path.queue, e.progress ≠ .held) ∧
      (queued sevenWaiting State.reset).path.resetLow = true) ∧
    ((Transaction.read 0x100000 8).wellFormed = true ∧ regionAt streaming 0x100000 = some streamAt ∧
      regionAt streaming 0 = none) ∧
    (∀ a ∈ [134214656 - 8, 134213632 + 0xE80], (Transaction.write a (lanes 8)).wellFormed = true ∧ regionAt live a = none ∧
      (a < controlPage live + 0x400 ∨ controlPage live + 0xE80 ≤ a)) ∧
    8 ≤ (queued (entryOf 7 (.read 0 8) .waiting :: sevenWaiting) live).path.queue.length ∧
    (∃ e ∈ (queued [entryOf 0 (.write 0 (lanes 8)) .held] live).path.queue, e.progress = .held) := by decide +kernel

/-- The written areas at their ends: the report ring with the status block, the index words, and an AUDIO and an ALIAS region. -/
theorem witness_TakeGuardsThePartsAreas :
    running audible ∧ audible.path.queue.length < 8 ∧ (∀ e ∈ audible.path.queue, e.progress ≠ .held) ∧
    4096 ≤ audible.path.memSize ∧
    (∀ a ∈ [0x500000, 0x500000 + 12288 - 8], (Transaction.write a (lanes 8)).wellFormed = true ∧
      regionAt audible a = some audioAt) ∧
    (∀ a ∈ [134214656, 134217216 - 8], (Transaction.write a (lanes 8)).wellFormed = true ∧ regionAt audible a = none ∧
      controlPage audible + 0x400 ≤ a ∧ a < controlPage audible + 0xE00 ∧ a < audible.path.memSize) ∧
    (Transaction.write 0x600000 (lanes 8)).wellFormed = true ∧ regionAt viewed 0x600000 = some aliasAt ∧
    (∀ a ∈ [134217216, 134217216 + 0x78], (Transaction.write a (lanes 8)).wellFormed = true ∧ regionAt audible a = none ∧
      controlPage audible + 0xE00 ≤ a ∧ a < controlPage audible + 0xE80) :=
  ⟨rfl, by decide⟩

/-- Requests of every rank (R81). -/
def hostWaits (s : State) : State := queued [entryOf 3 (.read 0 8) .waiting] s
def reportWaits (s : State) : State := withControl (fun c => { c with writes := [consumerWrite s 1] }) s
def commandWaits (s : State) : State := withControl (fun c => { c with phase := .entry, readReq := some ⟨134213632, 64, []⟩ }) s
def clipReads (s : State) : State :=
  withClip (fun c => { c with state := .recording, run := .video 0 0 4096, readReq := some ⟨0x100000, 128, []⟩ }) s
def cardFetches (s : State) : State := withCard (fun c => { c with fetchReq := some ⟨0, 32, []⟩ }) s
def audioWaits (s : State) : State := withAudio (fun a => { a with lines := [⟨0, 95, 0x502F80, List.replicate 128 0⟩] }) s

theorem witness_GrantsFollowTheFairnessCap :
    running (hostWaits live) ∧ (hostRequest (hostWaits live)).isSome = true ∧ (entryOf 3 (.read 0 8) .waiting).snooped = false ∧
    internalRequest (hostWaits live) = none ∧
    internalRequest (hostWaits (commandWaits live)) = some .commandReads ∧
    (withPath (fun p => { p with hostGrants := 7 }) (hostWaits (commandWaits live))).path.hostGrants < 8 ∧
    hostRequest (commandWaits live) = none ∧ internalRequest (commandWaits live) = some .commandReads ∧
    8 ≤ (withPath (fun p => { p with hostGrants := 8 }) (hostWaits (commandWaits live))).path.hostGrants :=
  ⟨rfl, by decide⟩

/-- An entry read that was presented while write 3 waited, alone and with a write taken later. -/
def earlier (post : List QueueEntry) : State :=
  withControl (fun c => { c with phase := .entry, readReq := some ⟨134213632, 64, [3]⟩ })
    (queued ([entryOf 1 (.read 0 8) .issued] ++ entryOf 3 (.write 0 (lanes 8)) .waiting :: post) live)

theorem witness_ReadsWaitForEarlierWrites (post : List QueueEntry) (h : post ∈ [[], [entryOf 5 (.write 8 (lanes 8)) .waiting]]) :
    running (earlier post) ∧ (∀ x ∈ [entryOf 1 (.read 0 8) .issued], x.progress ≠ .waiting) ∧
    (earlier post).control.readReq = some ⟨134213632, 64, [3]⟩ ∧ (entryOf 3 (.write 0 (lanes 8)) .waiting).serial ∈ [3] ∧
    (earlier post).control.writes = [] ∧ (earlier post).audio.lines = [] ∧ (∀ slot, ((earlier post).card slot).fetchReq = none) ∧
    (earlier post).clip.readReq = none ∧
    ∀ x ∈ [entryOf 1 (.read 0 8) .issued] ++ post, x.serial ≠ 3 ∧ (x.progress = .waiting → x.serial ∉ [3]) :=
  ⟨rfl, by decide, rfl, by decide, rfl, rfl, fun slot => by cases slot <;> rfl, rfl, by
    rcases List.mem_cons.mp h with rfl | h
    · decide
    · cases List.mem_singleton.mp h; decide⟩

/-- The read waits while the write does, and is granted after it (R84). -/
theorem test_read_waits_for_write :
    internalRequest (earlier []) = none ∧
    (afterwards (exec .downstreamGrant (earlier [])) internalRequest) = some (some .commandReads) := by decide +kernel

theorem witness_InternalGrantsIssueTheRequestersNext :
    running live ∧ hostRequest (audioWaits live) = none ∧ (audioWaits live).audio.lines ≠ [] ∧
    readEligible (cardFetches live) ⟨0, 32, []⟩ = true ∧ (cardFetches live).audio.lines = [] ∧
    (clipReads streaming).clip.readReq = some ⟨0x100000, 128, []⟩ ∧ readEligible (clipReads streaming) ⟨0x100000, 128, []⟩ = true ∧
    (nextPayloadRead (clipReads streaming)).isSome = true ∧
    (commandWaits live).clip.readReq = none ∧ readEligible (commandWaits live) ⟨134213632, 64, []⟩ = true ∧
    (reportWaits live).control.readReq = none ∧ (reportWaits live).control.writes = [consumerWrite live 1] ∧
    (reportWaits live).control.rewrite = false ∧ (clipReads streaming).clip.run = .video 0 0 4096 ∧
    (streamRegion (clipReads streaming)).isSome = true ∧
    (nextPayloadRead (withClip (fun c => { c with run := .audio 0 0x500000 95 94 }) (clipReads live))).isSome = true ∧
    (withControl (fun c => { c with rewrite := true }) (reportWaits live)).control.rewrite = true ∧
    (reportWaits live).control.writes.tail = [] ∧ internalRequest live = none :=
  ⟨rfl, by decide⟩

/-- A read's second piece returns while the next entry waits. -/
def pieced : QueueEntry :=
  ⟨3, .read 0x600000 16, [⟨.read 0x400000 8, 0, 8⟩, ⟨.read 0x400080 8, 0, 8⟩], 2, 1, .issued, List.replicate 8 1, false⟩
def completing : State :=
  withPath (fun p => { p with queue := [pieced, entryOf 4 (.read 0 8) .waiting], inFlight := [⟨.read 0x400080 8, .host 3⟩] }) live

theorem witness_ReadDataReachTheirPlaces :
    (completing.path.inFlight.dropWhile fun i => i.dest == .ignored).head? = some ⟨.read 0x400080 8, .host pieced.serial⟩ ∧
    completing.path.queue = [] ++ pieced :: [entryOf 4 (.read 0 8) .waiting] ∧
    (∀ f ∈ [] ++ [entryOf 4 (.read 0 8) .waiting], f.serial ≠ pieced.serial) ∧
    pieced.pieces[pieced.returned]? = some ⟨.read 0x400080 8, 0, 8⟩ := by decide

theorem witness_HostCompletionsKeepTheirOrder :
    (queued [entryOf 0 (.write 0 (lanes 8)) .done] live).path.queue = entryOf 0 (.write 0 (lanes 8)) .done :: [] ∧
    (entryOf 0 (.read 0 8) .issued).progress ≠ .done := by decide

/-- A host write of an index word of the control page waits for its grant: the producer word is at 0xE00, the consumer word in the
upper half of the beat at 0xE08. -/
def wordWaits (a : Nat) (bytes : List LaneByte) : State := queued [⟨0, .write a bytes, [⟨.write a bytes, 0, 8⟩], 0, 0, .waiting, [], true⟩] live
def producerLanes (lo hi : Byte) : List LaneByte := [(lo, true), (hi, true)] ++ List.replicate 6 (0, false)
def consumerLanes (lo hi : Byte) : List LaneByte := List.replicate 4 (0, false) ++ [(lo, true), (hi, true), (0, false), (0, false)]

/-- Sixteen entries are the most that the host may announce, and sixty-four notices the most that it can have unread. -/
theorem witness_IndexWordsAreHandedOver :
    (hostRequest (wordWaits 134217216 (producerLanes 16 0))).isSome = true ∧
    internalRequest (wordWaits 134217216 (producerLanes 16 0)) = none ∧
    newCopy 0 134217216 (producerLanes 16 0) (controlPage live + 0xE00) = some 16 ∧
    newCopy 0 134217216 (producerLanes 17 0) (controlPage live + 0xE00) = some 17 ∧
    (hostRequest (wordWaits 134217224 (consumerLanes 1 0))).isSome = true ∧
    newCopy 0 134217224 (consumerLanes 1 0) (controlPage live + 0xE00) = none ∧
    newCopy 0 134217224 (consumerLanes 1 0) (controlPage live + 0xE0C) = some 1 ∧
    returns (returned (.producerWord 5) 8 live) ⟨.read 0 8, .producerWord 5⟩ :=
  ⟨by decide, by decide, by decide, by decide, by decide, by decide, by decide, returns_returned live _ 8 rfl rfl⟩

/-- One byte of a word and both, neither of one, and both words by one write of 16 bytes. -/
theorem witness_IndexWordsAreMerged :
    wordTaken 0x1234 134217216 ((0, false) :: (0x56, true) :: List.replicate 6 (0, false)) (controlPage live + 0xE00) 0x5634 ∧
    wordTaken 0 134217216 (producerLanes 16 0) (controlPage live + 0xE00) 16 ∧
    wordUntouched 134217224 (consumerLanes 1 0) (controlPage live + 0xE00) ∧
    wordUntouched 134217216 (producerLanes 16 0) (controlPage live + 0xE0C) ∧
    wordTaken 0 134217224 (consumerLanes 1 0) (controlPage live + 0xE0C) 1 ∧
    wordTaken 0 134217216 (producerLanes 16 0 ++ consumerLanes 1 0) (controlPage live + 0xE0C) 1 :=
  ⟨newCopy_eq_some (by decide), newCopy_eq_some (by decide), newCopy_eq_none.mp (by decide : newCopy 0 _ _ _ = none),
    newCopy_eq_none.mp (by decide : newCopy 0 _ _ _ = none), newCopy_eq_some (by decide), newCopy_eq_some (by decide)⟩

/-- Two pending notices take the two places that the host frees, and one of three messages of the queue the third (R196). -/
def crowded (notices : List StampedNotice) : State :=
  withAcc (fun a => { a with q := 3, link := .running, queue := [⟨1, [7]⟩, ⟨2, []⟩, ⟨3, []⟩] })
    (withControl (fun c => { c with reportProducer := 64, pendingNotices := notices }) (wordWaits 134217224 (consumerLanes 3 0)))
def twoPending : List StampedNotice := [⟨.condition .gripStale, 8, 0⟩, ⟨.zoomDone true .homed 3 none 9, 9, 0⟩]
theorem witness_FreedPlacesAreFilled :
    ((crowded twoPending).control.pendingNotices.Pairwise fun p q =>
      ¬(p.notice.kind = q.notice.kind ∧ p.notice.source = q.notice.source)) ∧
    (hostRequest (crowded twoPending)).isSome = true ∧ internalRequest (crowded twoPending) = none := by decide
theorem test_freed_places :
    afterwards (exec .reportConsumerWrite (crowded twoPending))
      (fun s => (s.control.writes.filterMap fun w => if w.tag = .plain then (w.lanes.head?.map Prod.fst) else none,
        s.control.pendingNotices.length, s.acc.queue.length, s.control.reportProducer)) = some ([1, 5, 7], 0, 2, 67) := by decide +kernel

def timed : State := withControl (fun c => { c with statusTimer := true }) live
def lineOf (n : Nat) : ReportWrite := ⟨134213632 + 0xC00 + 128 * n, [], .statusLine⟩

theorem witness_StatusBlockShowsTheState :
    running timed ∧ timed.control.statusTimer = true ∧ (∀ w ∈ timed.control.writes, w.tag ≠ .statusLine) ∧
    (∃ w ∈ (withControl (fun c => { c with writes := [lineOf 2, lineOf 3] }) timed).control.writes.drop 1, w.tag = .statusLine) :=
  ⟨rfl, rfl, by decide⟩

/-! ### Witnesses: conditions and notices -/

def conditioned (c : Condition) (v : CondState) : State := setCondState live c v

theorem witness_ConditionsMoveOnTheirCauses :
    condState (conditioned .aliasFault .active) .aliasFault = .active ∧
    condState (conditioned .streamOverrun .ackedActive) .streamOverrun = .ackedActive ∧
    condState (conditioned .aliasFault .latched) .aliasFault = .latched ∧ condState live .streamOverrun = .clear := by decide

/-- The ring with one place left, and full. -/
def unreadIs (n : Word16) : State := withControl (fun c => { c with reportProducer := n }) live
def pendingStop : StampedNotice := ⟨.condition .gripStale, 1, 0⟩

theorem witness_PostedNoticeIsWrittenOrPends :
    unread (unreadIs 63) < 64 ∧ 64 ≤ unread (unreadIs 64) ∧
    (∀ q ∈ (unreadIs 64).control.pendingNotices, q.notice.kind ≠ (Notice.condition .gripStale).kind) ∧
    (withControl (fun c => { c with pendingNotices := [pendingStop] }) (unreadIs 64)).control.pendingNotices
      = [] ++ pendingStop :: [] := by decide

theorem witness_AckConditionsMovesTheNamed :
    entryReturns (taken live) ∧ (0x4000 : Word16).getLsbD 14 = true ∧ (0x8000 : Word16).getLsbD 15 = true ∧
    (0x3FFF : Word16).getLsbD 14 = false ∧ (0x3FFF : Word16).getLsbD 15 = false :=
  ⟨entryReturns_taken live rfl, by decide⟩

theorem witness_SetNoticeMaskReplacesTheMask :
    entryReturns (taken live) ∧ (0x3FFF : Word16).getLsbD 14 = false ∧ (0x4000 : Word16).getLsbD 14 = true ∧
    (withControl (fun c => { c with noticeMask := 0x2000 }) live).control.noticeMask.getLsbD Condition.aliasFault.number.val = true :=
  ⟨entryReturns_taken live rfl, by decide⟩


/-! ### Witnesses: regions -/

theorem fits_top : regionFits (taken live) 7 0 134213632 :=
  ⟨⟨by decide, by decide⟩, by decide⟩

/-- The parameters of STREAM, FRAME and AUDIO at the ends of their ranges. -/
theorem witness_SetRegionEntersOrRefuses :
    entryReturns (taken live) ∧ regionFits (taken live) 7 0 134213632 ∧ regionFits (taken live) 0 0x1000 1048576 ∧
    ¬regionFits (taken live) 8 0 4096 ∧ ¬regionFits (taken live) 0 0x1000 134213632 ∧
    (RegionSpec.unknown 0).wellFormed = true ∧ (RegionSpec.unknown 6).wellFormed = true ∧
    streamRegion (taken live) = none ∧ indexRegion (taken live) = none ∧ frameRegion (taken live) = none ∧
    audioRegion (taken live) = none ∧ streamRegion (taken streaming) ≠ none ∧
    (983040 + 65536 ≤ 1048576 ∧ ¬(983041 + 65536 ≤ 1048576)) ∧
    (4 * 16384 * 128 = (8388608 : Word32).toNat ∧ (8388608 : Word32).toNat % 4096 = 0) ∧
    ((6291456 : Word32).toNat % 12288 = 0 ∧ (6291456 : Word32).toNat = 512 * 12288 ∧ regionFits (taken live) 1 0 6291456) :=
  ⟨entryReturns_taken live rfl, fits_top, ⟨⟨by decide, by decide⟩, by decide⟩,
    fun h => absurd h.1.1 (by decide), fun h => absurd h.2.2.2.2.1 (by decide), by decide, by decide, by decide, by decide, by decide,
    by decide, by decide, by decide, by decide, by decide, by decide,
    ⟨⟨by decide, by decide⟩, by decide⟩⟩

/-- A FRAME region of record 2 to bind to: margins of 4 pixels and lines, and the smallest size that holds the view. -/
theorem witness_SetRegionBindsAView :
    entryReturns (taken framed) ∧ frameRegion (taken framed) = some ⟨2, 0x400000, 2, 1, 128, 64, 128⟩ ∧
    120 + 2 * 4 = 128 ∧ 56 + 2 * 4 = 64 ∧ 2 * (56 * 128) ≤ 16384 ∧ 16384 < 2 * (56 * 128) + 4096 ∧
    regionFits (taken framed) 4 0x600000 16384 ∧ aliasRegion (taken framed) = none ∧ aliasRegion (taken viewed) ≠ none :=
  ⟨entryReturns_taken framed rfl, by decide, by decide, by decide, by decide, by decide,
    ⟨⟨by decide, by decide⟩, by decide⟩, by decide⟩

theorem witness_ClearRegionEmptiesOrRefuses :
    entryReturns (taken streaming) ∧ (8 : Byte).toNat ≥ 8 ∧ (7 : Byte).toNat < 8 ∧ (taken streaming).path.regions[7] = none ∧
    (taken streaming).path.regions[0] = some streamAt ∧ (taken streaming).clip.state = .idle ∧
    (taken (clipReads streaming)).clip.state ≠ .idle ∧ (taken (clipReads streaming)).path.regions[0] = some streamAt ∧
    (taken viewed).path.regions[2] = some frameAt ∧ (taken viewed).path.regions[4] = some aliasAt ∧
    (taken audible).path.regions[3] = some audioAt ∧ (taken (withRegion 1 indexAt live)).path.regions[1] = some indexAt :=
  ⟨entryReturns_taken streaming rfl, by decide⟩

theorem streaming_record (i : Nat) (h : i < 8) (r : Region) (hr : streaming.path.regions[i] = some r) : i = 0 ∧ r = streamAt := by
  match i, h with
  | 0, _ => exact ⟨rfl, (Option.some.inj hr).symm⟩
  | 1, _ => cases hr
  | 2, _ => cases hr
  | 3, _ => cases hr
  | 4, _ => cases hr
  | 5, _ => cases hr
  | 6, _ => cases hr
  | 7, _ => cases hr

theorem witness_RegionsStayDisjoint : regionsDisjoint streaming ∧ step streaming = .next streaming := by
  refine ⟨⟨fun h => absurd h (by decide), ?_, ?_⟩, rfl⟩
  · intro i h r hr
    rw [(streaming_record i h r hr).2]
    decide
  · intro i j hi hj r q addr hij hr hq
    have h1 := (streaming_record i hi r hr).1
    have h2 := (streaming_record j hj q hq).1
    omega

/-! ### Witnesses: the Stream Tap -/

def ring : StreamRegion := ⟨0x100000, 1048576, 65536, 65536, 63⟩
def tapAt (cursor floor : Nat) (s : State) : State := withTap (fun t => { t with cursor := cursor, floor := floor, ship := floor }) s
def exampleTap : State := tapAt 5898240 4980736 streaming
def recording : State := withClip (fun c => { c with state := .recording }) exampleTap

/-- The positions of the manual's example, each case at the ends of its range (R6). -/
theorem witness_StreamWritesAreClassified :
    portOpen exampleTap ∧ portOpen (tapAt 5898304 4980736 streaming) ∧ portOpen (tapAt 0 0 streaming) ∧
    streamRegion exampleTap = some ring ∧ assembled exampleTap = false ∧
    (∀ x ∈ [(655360, 128), (786432, 8), (655232, 128), (720896, 8), (786424, 8), (720888, 8)],
      (Transaction.write (ring.base + x.1) (lanes x.2)).wellFormed = true ∧
      regionAt exampleTap (ring.base + x.1) = some ⟨ring.base, ring.size, .stream 65536 65536 63⟩) ∧
    655360 = 5898240 % 1048576 ∧
    behindPosition ring 5898240 786432 = 4980736 ∧ behindPosition ring 5898240 655232 + 128 = 5898240 ∧
    behindPosition ring 5898240 720896 = 4980736 - 65536 ∧ behindPosition ring 5898240 786424 = 4980736 - 8 ∧
    behindPosition ring 5898240 720888 = 4980736 - 65536 - 8 ∧ behindPosition ring 5898304 655360 = 5898304 - 64 ∧
    behindPosition ring 0 8 = 8 - 1048576 :=
  ⟨⟨rfl, by decide +kernel⟩, ⟨rfl, by decide +kernel⟩, ⟨rfl, by decide +kernel⟩, by decide +kernel⟩

/-- An append that just fits, and one that would overwrite, with and without a hold limit. -/
def full (n : Nat) (s : State) : State := withClip (fun c => { c with state := .recording }) (tapAt n 4980736 s)
def unheld : State := withRegion 0 ⟨0x100000, 1048576, .stream 65536 65536 0⟩ live

theorem witness_OverwritingWriteIsHeldOrOverruns :
    portOpen (full 6029184 streaming) ∧ portOpen (full 6029312 streaming) ∧ portOpen (full 6029248 streaming) ∧ portOpen recording ∧
    assembled (full 6029184 streaming) = true ∧ 6029184 % 1048576 = 786304 ∧
    (Transaction.write (ring.base + 786304) (lanes 128)).wellFormed = true ∧ 6029184 + 128 - 4980736 ≤ 1048576 ∧
    assembled (full 6029312 streaming) = true ∧ 6029312 % 1048576 = 786432 ∧
    (Transaction.write (ring.base + 786432) (lanes 8)).wellFormed = true ∧ 1048576 < 6029312 + 8 - 4980736 ∧
    (streamRegion (full 6029312 unheld)).map StreamRegion.holdLimit = some 0 ∧ assembled (full 6029312 unheld) = true := by
  refine ⟨⟨rfl, ?_⟩, ⟨rfl, ?_⟩, ⟨rfl, ?_⟩, ⟨rfl, ?_⟩, ?_⟩ <;> decide +kernel

/-- The other cases while a clip is assembled, at the ends of their ranges: a straddle that just fits and one that would overwrite, a
gap behind the late window, and the least and the greatest patch and late patch (R6, R11). -/
theorem witness_ClipWritesAreClassified :
    assembled recording = true ∧ behindPosition ring 5898240 786432 = 4980736 ∧ behindPosition ring 5898240 655232 + 128 = 5898240 ∧
    behindPosition ring 5898240 720896 = 4980736 - 65536 ∧ behindPosition ring 5898240 786424 = 4980736 - 8 ∧
    behindPosition ring 5898240 720888 = 4980736 - 65536 - 8 ∧ 5898240 + 65528 + 8 - 4980736 ≤ 1048576 ∧
    behindPosition ring 6029248 786304 = 6029248 - 64 ∧ 6029248 - 64 + 128 - 4980736 ≤ 1048576 ∧
    behindPosition ring 6029312 786304 = 6029312 - 128 ∧ behindPosition ring 6029304 786304 = 6029304 - 120 ∧
    1048576 < 6029304 - 120 + 136 + 8 - 4980736 ∧ assembled (full 6029304 unheld) = true := by decide +kernel

def holding (s : State) : State :=
  withTap (fun t => { t with held := some ⟨.append, 786432, 128, 6029312, 6029440, 0⟩ }) (queued [entryOf 0 (.write 0x1C0000 (lanes 128)) .held] s)

theorem witness_HoldTimerExpiryOverruns :
    running (holding recording) ∧ streamRegion (holding recording) = some ring ∧ recording.tap.held = none ∧
    (holding recording).tap.held.isSome = true ∧ (holding recording).clip.state = .recording ∧
    (withClip (fun c => { c with state := .stopping, stopPos := 4980864 }) (holding recording)).clip.stopPos ≤ 6029440 - 1048576 ∧
    6029440 - 1048576 < (withClip (fun c => { c with state := .stopping, stopPos := 4980865 }) (holding recording)).clip.stopPos :=
  ⟨rfl, by decide⟩

/-- The manual's example of a held append and its two endings (chapter 1). -/
theorem test_hold_example :
    afterwards (exec (.hostTransactionTake (.write (ring.base + 786432) (lanes 128))) (full 6029312 streaming)) (fun s => s.tap.held)
      = some (some ⟨.append, 786432, 128, 6029312, 6029440, 0⟩) := by decide +kernel
theorem test_overrun_example :
    afterwards (exec .holdTimerExpiry (holding (full 6029312 streaming))) (fun s => (s.tap.floor, s.tap.ship, s.tap.cursor))
      = some (4980864, 4980864, 6029440) := by decide +kernel
/-- An expiry in a hold that a REC_STOP has prolonged moves neither floor nor ship back (R3, R15, log 31). -/
theorem test_overrun_jumps_forward :
    afterwards (exec .holdTimerExpiry (withTap (fun t => { t with floor := 6029184, ship := 6029184, stopHold := true })
        (withClip (fun c => { c with state := .stopping, stopPos := 6029312 }) (holding (full 6029312 streaming)))))
      (fun s => (s.tap.floor, s.tap.ship, s.tap.cursor, s.tap.discontinuity, s.tap.stopHold))
      = some (6029184, 6029184, 6029440, true, false) := by decide +kernel

/-- The manual's four writes (chapter 1), with a clip assembled. -/
theorem test_classify_append :
    afterwards (exec (.hostTransactionTake (.write (ring.base + 655360) (lanes 128))) recording) (fun s => (s.tap.cursor, s.tap.floor))
      = some (5898368, 4980736) := by decide +kernel
theorem test_classify_gap :
    afterwards (exec (.hostTransactionTake (.write (ring.base + 688128) (lanes 128))) (tapAt 5898368 4980736 recording))
      (fun s => (s.tap.cursor, s.control.writes.length)) = some (5931136, 2) := by decide +kernel
theorem test_classify_latePatch :
    afterwards (exec (.hostTransactionTake (.write (ring.base + 753664) (lanes 32))) (tapAt 5898368 4980736 recording))
      (fun s => (s.tap.cursor, s.control.writes.length)) = some (5898368, 2) := by decide +kernel

/-- The manual's index records: a KEY frame of slot 1 and a record that lies a ring behind. -/
def recordLanes (offset slot kind : Nat) : List LaneByte :=
  (littleEndian 4 (0x100000 + offset) ++ littleEndian 4 0xABCD ++ littleEndian 1 slot ++ littleEndian 1 kind ++ List.replicate 22 (0 : Byte)).map
    fun b => (b, true)
def shot (n : Nat) : FrameRecord := ⟨BitVec.ofNat 32 n, 40, -3, 5000, .steady, .pan⟩
def indexed : State :=
  withView (fun v => { v with slots := [.ready (shot 9040), .filling (shot 9041), .empty], frameCount := 9041 })
    (withTap (fun t => { t with cursor := 5931136, entries := [⟨.key, 4981760, 9000, 1⟩] }) (withRegion 1 indexAt recording))

theorem witness_IndexRecordsBecomeEntries :
    portOpen indexed ∧ indexed.clip.state ≠ .armed ∧
    (Transaction.write 0x300000 (recordLanes 790528 1 1)).wellFormed = true ∧ (recordLanes 790528 1 1).length = 32 ∧
    regionAt indexed 0x300FE0 = some indexAt ∧ regionAt indexed 0x300000 = some indexAt ∧ streamRegion indexed = some ring ∧
    (∀ l ∈ recordLanes 790528 1 1, l.2 = true) ∧ (∃ l ∈ (0, false) :: (recordLanes 790528 1 1).tail, l.2 = false) ∧
    (4984832 : Int) = 5931136 - ((5931136 - 790528) % 1048576) ∧ (5931136 : Int) - ((5931136 - 700000) % 1048576) < 4980736 :=
  ⟨⟨rfl, by decide +kernel⟩, by decide +kernel⟩

/-- The ends of a place, a place with no STREAM region, and the split of a write of two and of four records. -/
theorem witness_IndexWritesSplitIntoPlaces :
    (∀ x ∈ [(0x300000, 8), (0x300018, 8), (0x300000, 24), (0x300FE8, 24)], (Transaction.write x.1 (lanes x.2)).wellFormed = true ∧
      regionAt indexed x.1 = some indexAt ∧ x.1 / 32 = (x.1 + (lanes x.2).length - 1) / 32 ∧ (lanes x.2).length ≠ 32) ∧
    portOpen (withRegion 1 indexAt live) ∧ streamRegion (withRegion 1 indexAt live) = none ∧
    regionAt (withRegion 1 indexAt live) 0x300000 = some indexAt ∧ 0x300000 / 32 = (0x300000 + (lanes 32).length - 1) / 32 ∧
    (∀ x ∈ [(32, 32), (32, 96), (96, 32), (24, 8)], (Transaction.write (0x300F80 + (32 - x.1 % 32) % 32) (lanes x.1)).wellFormed = true ∧
      (Transaction.write (0x300F80 + (32 - x.1 % 32) % 32 + x.1) (lanes x.2)).wellFormed = true ∧
      (Transaction.write (0x300F80 + (32 - x.1 % 32) % 32) (lanes x.1 ++ lanes x.2)).wellFormed = true ∧
      (0x300F80 + (32 - x.1 % 32) % 32 + (lanes x.1).length) % 32 = 0 ∧
      regionAt indexed (0x300F80 + (32 - x.1 % 32) % 32 + (lanes x.1).length) = some indexAt) :=
  ⟨by decide +kernel, ⟨rfl, by decide⟩, by decide +kernel⟩

/-- The first entry of an armed recording. -/
def armed : State := withClip (fun c => { c with state := .armed }) (withTap (fun t => { t with entries := [] }) indexed)
theorem witness_FirstEntriesBeginClips :
    portOpen armed ∧ armed.clip.state = .armed ∧ armed.tap.entries = [] ∧ regionAt armed 0x300000 = some indexAt ∧
    streamRegion armed = some ring ∧ (4980736 : Int) ≤ 5931136 - ((5931136 - 790528) % 1048576) := by
  refine ⟨⟨rfl, ?_⟩, ?_⟩ <;> decide +kernel
theorem test_first_entry :
    afterwards (exec (.hostTransactionTake (.write 0x300000 (recordLanes 790528 1 1))) armed)
      (fun s => (s.clip.state, s.clip.clipStart, s.clip.preRecord, s.tap.ship)) = some (.recording, 4984832, 0, 4984832) := by
  decide +kernel

theorem test_index_example :
    afterwards (exec (.hostTransactionTake (.write 0x300000 (recordLanes 790528 1 1 ++ recordLanes 700000 1 1))) indexed)
      (fun s => (s.tap.entries, s.tap.indexStales, s.control.writes.length))
      = some ([⟨.key, 4981760, 9000, 1⟩, ⟨.key, 4984832, 9041, 0xABCD⟩], 0, 2) := by decide +kernel

/-! ### Witnesses: frames and the alias view -/

def filming : State := withView (fun v => { v with slots := [.filling (shot 9040), .empty] }) viewed

theorem witness_FrameStartsLatchTheShifts :
    portOpen filming ∧ (Transaction.write 0x400000 (lanes 8)).wellFormed = true ∧
    (Transaction.write (0x400000 + 8192 + 120) (lanes 8)).wellFormed = true ∧
    regionAt filming (0x400000 + 8192 + 120) = some frameAt ∧ filming.view.slots.length = 2 ∧
    128 ≤ (8192 + 128) % (64 * 128) ∧ filming.view.slots[0]? = some (.filling (shot 9040)) ∧
    (8192 + 120) % (64 * 128) < 128 ∧ filming.view.slots[1]? = some .empty :=
  ⟨⟨rfl, by decide⟩, by decide⟩

def unbound : State := withRegion 4 { aliasAt with kind := .aliasView { geometry with bound := false } } filming

/-- The first and the last place of the alias span, in the FILLING slot and in the EMPTY one. -/
theorem witness_AliasReadsAreDisplacedByTheShifts :
    portOpen filming ∧ (Transaction.read 0x600000 128).wellFormed = true ∧ (Transaction.read (0x600000 + 14328) 8).wellFormed = true ∧
    regionAt filming 0x600000 = some ⟨0x600000, 16384, .aliasView geometry⟩ ∧ 14328 < 2 * (56 * 128) ∧
    filming.view.slots[0 / (56 * 128)]? = some (.filling (shot 9040)) ∧ filming.view.slots[14328 / (56 * 128)]? = some .empty ∧
    geometry.frameBase % 4096 = 0 ∧ geometry.slotSize % geometry.stride = 0 ∧
    ((Transaction.read (0x600000 + 14336) 8).wellFormed = true ∧ 2 * (56 * 128) ≤ 14336 ∧
      regionAt filming (0x600000 + 14336) = some ⟨0x600000, 16384, .aliasView geometry⟩) ∧
    portOpen unbound ∧ regionAt unbound 0x600000 = some ⟨0x600000, 16384, .aliasView { geometry with bound := false }⟩ :=
  ⟨⟨rfl, by decide⟩, by decide, by decide, by decide, by decide, by decide, by decide, by decide, by decide, by decide,
    ⟨rfl, by decide⟩, by decide⟩

/-- The manual's worked translation (chapter 6): ALIAS base 0x2000000, FRAME base 0x1000000. -/
def worked : AliasGeometry := ⟨2, 1920, 1080, 3, 2, 4608, 5971968, 0x1000000, 192, 108, true⟩
def workedView : State :=
  withView (fun v => { v with slots := [.empty, .filling ⟨9041, 42, -5, 0, .steady, .steady⟩, .empty] })
    (withRegion 4 ⟨0x2000000, 14929920, .aliasView worked⟩ (withRegion 2 ⟨0x1000000, 17915904, .frame 3 2 2304 1296 4608⟩ live))
def pieces (a n : Nat) : Option (List (Nat × Nat × Nat × Nat)) :=
  afterwards (exec (.hostTransactionTake (.read (0x2000000 + a) n)) workedView) fun s =>
    s.path.queue.flatMap fun e => e.pieces.map fun p => (p.txn.addr - (0x1000000 + 5971968), p.txn.len, p.skip, p.count)
theorem test_alias_example : pieces 5022976 128 = some [(521424, 48, 4, 44), (521472, 88, 0, 84)] := by decide +kernel
theorem test_alias_short : pieces 5022976 32 = some [(521424, 40, 4, 32)] := by decide +kernel
theorem test_alias_fold : pieces (5022976 - 256 + 4096) 128 = some [(525264, 48, 4, 44), (520704, 88, 0, 84)] := by decide +kernel

/-! ### Witnesses: the Motion Unit -/

/-- The state of the manual's first example (chapter 5), before the sample. -/
def exampleMotion : State :=
  withMotion (fun m => { m with
    x := { m.x with state := .steady, angle := 50000, bias := 20 }
    y := { m.y with state := .steady, angle := -20000, bias := 40 }
    sampling := true, reading := true
    focal := ((m.focal.set 12 1600).set 13 1800).set 32 5027 })
    (withZoom (fun z => { z with seg := 400, pos := 5000 }) workedView)

theorem gain_example : gainIs exampleMotion 1700 :=
  ⟨by decide, by decide, fun h => absurd h (by decide), by decide⟩

def reading (n : Nat) : State := withMotion (fun m => { m with failures := n }) exampleMotion

/-- The bits of a byte in the order of the motion port, and an answer of five bytes. -/
def sent (b : Byte) : PortBits := Vector.ofFn fun i : Fin 8 => b.getLsbD (7 - i.val)
def answer (status yl yh pl ph : Byte) : Instr := .gyroAnswer (sent status) (sent yl) (sent yh) (sent pl) (sent ph)

theorem witness_GoodReadsSampleBothAxes :
    running (reading 0) ∧ (reading 0).motion.sampling = true ∧ (reading 0).motion.reading = true ∧ (sent 1)[7] = true ∧
    receivedAs (sent 0x14) 0x14 ∧ receivedAs (sent 0xFD) 0xFD ∧ gainIs (reading 0) 1700 ∧ gainIs (reading 5) 1700 ∧ (reading 5).motion.failures = 5 ∧ (reading 0).motion.failures ≠ 5 ∧
    live.motion.sampling = false ∧ live.motion.reading = false :=
  ⟨rfl, rfl, rfl, by decide, by unfold receivedAs; decide, by unfold receivedAs; decide, gain_example, gain_example, rfl, by decide, rfl, rfl⟩

theorem witness_FailedReadsAreBridgedThenHeld :
    running (reading 4) ∧ (reading 4).motion.reading = true ∧ gainIs (reading 4) 1700 ∧ (sent 0xFE)[7] = false ∧
    (reading 4).motion.failures = 4 ∧ (reading 3).motion.failures ≠ 4 ∧ gainIs (reading 3) 1700 :=
  ⟨rfl, rfl, gain_example, by decide, rfl, by decide, gain_example⟩

/-- The least and the greatest zoom position. -/
theorem witness_SampledAnglesStayWithinTheMargins :
    (∃ t, exec .gyroReadTimeout (reading 0) = .next t ∧ t.motion.x.state ≠ .off) ∧
    (∃ t, exec (answer 1 0 0 0 0) (reading 0) = .next t ∧ t.motion.y.state ≠ .off) ∧
    gainIs (withZoom (fun z => { z with pos := 12800 }) (reading 0)) 5027 ∧ gainIs (withZoom (fun z => { z with pos := 0 }) (reading 0)) 16 :=
  ⟨⟨_, rfl, by decide⟩, ⟨_, rfl, by decide⟩, ⟨by decide, by decide, fun _ => by decide, fun h => absurd h (by decide)⟩,
    ⟨by decide, by decide, fun h => absurd h (by decide), by decide⟩⟩

/-- The manual's sample: yaw 1,300 and pitch -600 (chapter 5). -/
theorem test_sample_example :
    afterwards (exec (answer 1 0x14 0x05 0xA8 0xFD) exampleMotion)
      (fun s => (s.motion.x.angle, s.motion.x.shift, s.motion.y.angle, s.motion.y.shift)) = some (51230, 42, -20620, -17) := by
  decide +kernel

/-- The manual's clamps at tele, either sign (chapter 5). -/
def tele (angle bias : Int) : State :=
  withMotion (fun m => { m with x := { m.x with angle := angle, bias := bias } }) (withZoom (fun z => { z with pos := 12800 }) exampleMotion)
theorem test_clamp_positive :
    afterwards (exec (answer 1 0 0 0 0) (tele 85000 0)) (fun s => (s.motion.x.angle, s.motion.x.shift)) = some (80098, 192) := by
  decide +kernel
theorem test_clamp_negative :
    afterwards (exec (answer 1 0 0 0 0) (tele (-90000) 1000)) (fun s => (s.motion.x.angle, s.motion.x.shift))
      = some (-80098, -192) := by decide +kernel

/-- The manual's dropout: the fifth failed read in a row enters HOLD (chapter 5). -/
def dropout (n : Nat) (angle : Int) : State :=
  withMotion (fun m => { m with failures := n, lastYaw := 1300, x := { m.x with angle := angle } }) exampleMotion
theorem test_dropout_bridged :
    afterwards (exec .gyroReadTimeout (dropout 3 15070)) (fun s => (s.motion.x.angle, s.motion.x.shift, s.motion.failures))
      = some (16335, 13, 4) := by decide +kernel
theorem test_dropout_held :
    afterwards (exec .gyroReadTimeout (dropout 4 16335)) (fun s => (s.motion.x.angle, s.motion.x.state)) = some (15825, .hold) := by
  decide +kernel

/-- The parameters at the ends of their ranges, and one past each. -/
theorem witness_StabCommandsConfigureAndRecentre :
    entryReturns (taken exampleMotion) ∧ (0xF000 : Word16).toInt = -4096 ∧ (0x0FFF : Word16).toInt = 4095 ∧
    8 ≤ (8 : Byte).toNat ∧ (15 : Byte).toNat ≤ 15 ∧ 3 ≤ (3 : Byte).toNat ∧ (7 : Byte).toNat ≤ 7 ∧ 2 ≤ (2 : Word16).toNat ∧
    (32767 : Word16).toNat ≤ 32767 ∧ ¬((0x1000 : Word16).toInt ≤ 4095) ∧ ¬((32768 : Word16).toNat ≤ 32767) ∧
    (taken exampleMotion).motion.sampling = true ∧ (taken live).motion.sampling = false :=
  ⟨entryReturns_taken exampleMotion rfl, by decide⟩

def tableReads (seg e tol : Nat) (servo : ServoState) : State :=
  returned .speedTable 128 (withZoom (fun z => { z with servo := servo }) (withControl (fun c => { c with phase := .zoom kept seg e tol }) live))

theorem witness_TablesAreReadThenReplacedWhole :
    entryReturns (taken live) ∧ (134217600 : Word32).toNat % 128 = 0 ∧ (134217600 : Word32).toNat + 128 ≤ (taken live).path.memSize ∧
    (taken live).path.memSize < (134217728 : Word32).toNat + 128 ∧ (64 : Word32).toNat % 128 ≠ 0 ∧
    returns (returned .focalTable 72 live) ⟨.read 0 72, .focalTable⟩ ∧
    (∀ i, i < 33 → field (List.replicate 72 1) (2 * i) 2 ≠ 0) ∧ field (List.replicate 64 1 ++ List.replicate 8 0) (2 * 32) 2 = 0 ∧
    returns (tableReads 1024 16 4 .idle) ⟨.read 0 128, .speedTable⟩ ∧ (tableReads 16 1 4 .idle).control.phase = .zoom kept 16 1 4 ∧
    (tableReads 16 1 4 .idle).zoom.running = false ∧ (tableReads 16 1 4 .homing).zoom.servo = .homing ∧
    (∀ l, 1 ≤ l → l < 16 → field (List.replicate 128 3) (8 * l) 1 ≤ 3) ∧ 3 < field (List.replicate 128 4) (8 * 15) 1 :=
  ⟨entryReturns_taken live rfl, by decide +kernel, by decide +kernel, by decide +kernel, by decide +kernel, returns_returned live _ 72 rfl rfl,
    by decide +kernel, by decide +kernel, returns_returned _ _ 128 rfl rfl, rfl, rfl, rfl,
    fun l h1 h2 => by interval_cases l <;> decide, by decide +kernel⟩


/-! ### Witnesses: the Zoom Drive -/

/-- A configured lens of 32 * 400 positions with the Speed Table of the manual's braking example (chapter 7). -/
def exampleSpeeds : Vector SpeedEntry 16 :=
  (((live.zoom.speeds.set 1 ⟨⟨16, 399⟩, 0⟩).set 2 ⟨⟨16, 199⟩, 2⟩).set 3 ⟨⟨16, 99⟩, 6⟩).set 4 ⟨⟨2, 399⟩, 14⟩
def lens (servo : ServoState) (pos : Nat) (dir : ZoomDir) (level : Nat) : State :=
  withZoom (fun z => { z with
    servo := servo, homed := true, configured := true, seg := 400, e := 4, tolerance := 8, pos := pos, dir := dir, level := level
    running := 0 < level, speeds := exampleSpeeds, encoder := BitVec.ofNat 32 (pos / 4), enable := true }) live
def aim (target : Nat) (braking : Bool) : GotoRecord := ⟨target, 4, braking, kept⟩
def aiming (m : GotoRecord) (s : State) : State := withZoom (fun z => { z with move := some m }) s

/-- The last steps before either end, the step onto the target, an encoder 9 positions off where 8 are allowed, and the last step
that a homing has (R124, R132, R135, R139). -/
theorem witness_StepsMoveThePositionAndEndMoves :
    live.zoom.running = false ∧ (withZoom (fun z => { z with stopRequest := true }) (lens .speed 8 .tele 1)).zoom.stopRequest = true ∧
    (lens .speed 12799 .tele 1).zoom.running = true ∧ (lens .speed 12799 .tele 1).zoom.step = false ∧ 12800 = 32 * 400 ∧
    ((lens .speed 12799 .tele 1).zoom.encoder.toInt * 4 - 12800).natAbs ≤ 8 ∧
    (lens .speed 1 .wide 1).zoom.pos = 0 + 1 ∧ ((lens .speed 1 .wide 1).zoom.encoder.toInt * 4 - 0).natAbs ≤ 8 ∧
    (aiming (aim 1396 true) (lens .goto 1395 .tele 1)).zoom.move = some (aim 1396 true) ∧ (aim 1396 true).target = 1396 ∧
    8 < ((withZoom (fun z => { z with encoder := 0 }) (lens .speed 8 .tele 1)).zoom.encoder.toInt * 4 - 9).natAbs ∧
    (withZoom (fun z => { z with homingSteps := 14399, homingCmd := some kept }) (lens .homing 8 .wide 1)).zoom.homingSteps + 1
      = 32 * 400 + 32 * 400 / 8 ∧
    14398 + 1 < 32 * 400 + 32 * 400 / 8 ∧ (lens .homing 8 .wide 1).zoom.homeFilter.level = false := by decide +kernel

/-- A homing steps at pos 0, as in UNHOMED after ZOOM_CONFIG, up to its limit, and past it with HOME active (R124, R132). -/
def homingAt (n : Nat) : State :=
  withZoom (fun z => { z with homed := false, homingSteps := n, homingCmd := some kept }) (lens .homing 0 .wide 1)
theorem witness_HomingsStepAnywhere :
    (∀ n, running (homingAt n) ∧ (homingAt n).zoom.running = true ∧ (homingAt n).zoom.stopRequest = false ∧
      (homingAt n).zoom.step = false ∧ (homingAt n).zoom.servo = .homing ∧ (homingAt n).zoom.homingCmd = some kept) ∧
    (homingAt 14398).zoom.homingSteps + 1 < 32 * 400 + 32 * 400 / 8 ∧ 32 * 400 + 32 * 400 / 8 ≤ (homingAt 14399).zoom.homingSteps + 1 ∧
    (withZoom (fun z => { z with homeFilter := ⟨true, 0, true⟩ }) (homingAt 14399)).zoom.homeFilter.level = true :=
  ⟨fun _ => ⟨rfl, rfl, rfl, rfl, rfl, rfl⟩, by decide, by decide, rfl⟩
theorem test_homing_at_zero :
    afterwards (exec .lensTimerUnderflow (homingAt 0)) (fun s => (s.zoom.pos, s.zoom.homingSteps, s.zoom.level, s.zoom.step))
      = some (0, 1, 1, true) := by decide

def gripped (b : Byte) (s : State) : State :=
  withAcc (fun a => { a with link := .running, buffers := a.buffers.set 4 (.receive ⟨2, .gripIn, 25, some ⟨[b, 0]⟩, 0, none⟩) }) s
def demanded (d : Int) (s : State) : State := withZoom (fun z => { z with hostDemand := d }) s

/-- The two ends of the rocker's rest, a level below, at and above the demand, a demand at the end of the range, and the braking
distance of level 4 (R127, R128, R130, R133, R134). -/
theorem witness_RampMovesTheLevelByOne :
    gripContent live.acc = none ∧ gripContent (gripped 0xF9 live).acc = some ⟨[0xF9, 0]⟩ ∧ (0xF9 : Byte).toInt.natAbs ≤ 7 ∧
    8 ≤ (0xF8 : Byte).toInt.natAbs ∧ gripContent (gripped 0x80 live).acc = some ⟨[0x80, 0]⟩ ∧
    rockerDemand (rocker live.acc) = 0 ∧ (demanded 15 (lens .speed 8 .tele 14)).zoom.level < (15 : Int).natAbs ∧
    (demanded 15 (lens .speed 8 .tele 15)).zoom.level = (15 : Int).natAbs ∧ (demanded (-15) (lens .speed 8 .tele 1)).zoom.level = 1 ∧
    (0 < (demanded 15 (lens .speed 12800 .tele 1)).zoom.hostDemand ∧ (lens .speed 12800 .tele 1).zoom.pos = 32 * 400) ∧
    (demanded 1 (lens .speed 8 .tele 0)).zoom.running = false ∧ (lens .speed 8 .tele 0).zoom.hostDemand = 0 ∧
    (aiming (aim 1396 false) (lens .goto 1366 .tele 4)).zoom.move = some (aim 1396 false) ∧
    (lens .goto 1366 .tele 4).zoom.speeds[4].braking < 1396 - 1366 ∧ 1396 - 1382 ≤ (lens .goto 1382 .tele 4).zoom.speeds[4].braking ∧
    (lens .goto 1000 .tele 0).zoom.running = false ∧ (lens .goto 1500 .tele 4).zoom.dir ≠ .wide ∧
    (lens .goto 1366 .tele 4).zoom.override = false := by decide +kernel

/-- The grip takes over at its least demand, in force, released with and without a level, and a homing tick (R128, R130, R131). -/
theorem witness_GripAndHomingTicks :
    (gripped 8 live).acc.link = .running ∧ (gripped 8 live).acc.buffers[4] = .receive ⟨2, .gripIn, 25, some ⟨[8, 0]⟩, 0, none⟩ ∧
    rockerDemand (rocker (gripped 8 live).acc) = 1 ∧ (gripped 8 (lens .idle 8 .tele 0)).zoom.servo = .idle ∧
    (gripped 8 (aiming (aim 9 false) (lens .goto 8 .tele 1))).zoom.move = some (aim 9 false) ∧
    (withZoom (fun z => { z with override := true }) (gripped 8 (lens .speed 8 .tele 1))).zoom.override = true ∧
    (lens .speed 8 .tele 0).zoom.level = 0 ∧ (lens .homing 8 .wide 1).zoom.servo = .homing := by decide +kernel

/-- The manual's braking example: ticks 25, 26 and 28, and the arrival (chapter 7). -/
theorem test_braking_example :
    [(1366, 4, false), (1382, 4, false), (1394, 2, true)].map (fun x =>
      afterwards (exec .rampTick (aiming (aim 1396 x.2.2) (lens .goto x.1 .tele x.2.1))) fun s =>
        (s.zoom.level, s.zoom.move.map GotoRecord.braking))
    = [some (4, some false), some (3, some true), some (1, some true)] := by decide +kernel
theorem test_arrival_example :
    afterwards (exec .lensTimerUnderflow (aiming (aim 1396 true) (lens .goto 1395 .tele 1)))
      (fun s => (s.zoom.pos, s.zoom.servo, s.zoom.level, s.zoom.stopRequest)) = some (1396, .idle, 0, true) := by decide +kernel

theorem witness_InputFiltersAcceptThreeSamples :
    running (lens .homing 8 .wide 1) ∧ live.zoom.encFilter = ⟨false, 0, false⟩ ∧ live.zoom.homed = false ∧
    (lens .speed 8 .tele 1).zoom.homed = true ∧ (lens .speed 8 .tele 1).zoom.encoder ≠ 0x7FFFFFFF ∧
    (lens .speed 8 .wide 1).zoom.dir = .wide ∧ live.zoom.homeFilter = ⟨false, 0, false⟩ ∧ live.zoom.servo ≠ .homing ∧
    (withZoom (fun z => { z with homingCmd := some kept }) (lens .homing 8 .wide 1)).zoom.homingCmd = some kept :=
  ⟨rfl, by decide⟩

theorem witness_ZoomHomeIsTakenWhereConfigured :
    (∀ servo, entryReturns (taken (lens servo 8 .tele 0))) ∧ (taken live).zoom.configured = false ∧
    (taken (lens .idle 8 .tele 0)).zoom.configured = true ∧ (taken (lens .idle 8 .tele 0)).zoom.homeFilter.level = false ∧
    (withZoom (fun z => { z with homeFilter := ⟨true, 0, true⟩ }) (taken (lens .fault 8 .tele 0))).zoom.homeFilter.level = true :=
  ⟨fun _ => entryReturns_taken _ rfl, rfl, rfl, rfl, rfl⟩

def overridden (s : State) : State := withZoom (fun z => { z with override := true }) s

theorem witness_ZoomMovesAreJudgedAndBegun :
    (∀ servo, entryReturns (taken (lens servo 12800 .tele 0))) ∧ entryReturns (taken (overridden (lens .speed 8 .tele 1))) ∧
    entryReturns (taken (aiming (aim 9 false) (lens .goto 8 .tele 1))) ∧ 32 * 400 < (12801 : Word16).toNat ∧
    (12800 : Word16).toNat ≤ 32 * (taken (lens .idle 12800 .tele 0)).zoom.seg ∧ 1 ≤ (1 : Byte).toNat ∧ (15 : Byte).toNat ≤ 15 ∧
    15 < (16 : Byte).toNat ∧ (0xF1 : Byte).toInt.natAbs ≤ 15 ∧ 15 < (0xF0 : Byte).toInt.natAbs ∧
    (taken (lens .idle 12800 .tele 0)).zoom.pos = (12800 : Word16).toNat ∧ (taken (lens .idle 12800 .tele 0)).zoom.move = none ∧
    (taken (overridden (lens .speed 8 .tele 1))).zoom.override = true ∧
    (taken (aiming (aim 9 false) (lens .goto 8 .tele 1))).zoom.move = some (aim 9 false) :=
  ⟨fun _ => entryReturns_taken _ rfl, entryReturns_taken _ rfl, entryReturns_taken _ rfl, by decide, by decide, by decide, by decide,
    by decide, by decide, by decide, rfl, rfl, rfl, rfl⟩

/-- A running lens one step below the end, and the step that takes it there. -/
theorem witness_ZoomPositionStaysInRange :
    zoomInRange (lens .speed 12799 .tele 1).zoom ∧
    ∃ t, step ((lens .speed 12799 .tele 1).setPending [.lensTimerUnderflow]) = .next t ∧ t.zoom.pos = 12800 :=
  ⟨⟨by decide, fun _ _ _ => ⟨fun _ => by decide, fun h => absurd h (by decide)⟩⟩, _, rfl, by decide +kernel⟩

/-! ### Witnesses: the Audio Unit -/

def sounding (role : AudioRole) (st : AudioState) (store : List StoredFrame) (priming : Bool) : State :=
  withAudio (fun a => { a with
    role := role, state := st, store := store, priming := priming, enables := 15, current := some ⟨0, 9, 1023, List.replicate 116 0⟩
    blocks := [.filling ⟨0, 9, ⟨0, false⟩⟩], windowCount := 959, everLocked := true }) audible
def stored (n : Nat) : List StoredFrame := List.replicate n ⟨⟨1, 2, 3, 4⟩, false⟩

/-- The last period of a block and of a window, in every state. -/
theorem witness_SamplePeriodsTakeThePeriodFrame :
    running (sounding .master .locked [] false) ∧ audioRegion (sounding .master .locked [] false) = some (0x500000, 12288) ∧
    (sounding .master .locked [] false).audio.blocks ≠ [] ∧ (sounding .master .locked [] false).audio.windowCount < 960 ∧
    (∃ c, (sounding .master .locked [] false).audio.current = some c ∧ c.index < 1024) ∧
    (sounding .follower .off [] false).audio.state = .off ∧ (sounding .follower .seek [] false).audio.state = .seek ∧
    (sounding .follower .holdover (stored 3) true).audio.priming = true ∧
    (sounding .follower .locked (stored 8) false).audio.store = ⟨⟨1, 2, 3, 4⟩, false⟩ :: stored 7 ∧
    (sounding .follower .locked [] false).audio.store = [] ∧ live.audio.blocks = [] ∧ live.audio.current = none :=
  ⟨rfl, by decide, by decide, by decide, ⟨_, rfl, by decide⟩, by decide⟩

/-- A MASTER takes the upper 24 of each 32 bits, the first received the most significant; the last 8 are ignored (R144). -/
theorem test_master_slots :
    afterwards (exec (.samplePeriod 0x000001_AA_7FFFFF_55_000002_FF_FFFFFF_00) (sounding .master .locked [] false))
      (fun s => (s.audio.meters.toList.map Meter.peak, s.audio.driving)) = some ([1, 8388607, 2, 1], true) := by decide +kernel

def starting (blocks : List BlockRecord) (next : Word32) (s : State) : State :=
  withAudio (fun a => { a with role := .master, state := .locked, blocks := blocks, nextBlock := next }) s
def doneInfo (n : Word32) : BlockInfo := ⟨n, 5, ⟨0, false⟩⟩

/-- A new block in a FREE slot, and one that overwrites the oldest DONE block of a clip. -/
theorem witness_BlocksStartInTheirSlots :
    running (starting [.free] 0 audible) ∧ (∀ c, (starting [.free] 0 audible).audio.current = some c → 1024 ≤ c.index) ∧
    (starting [.free] 0 audible).audio.blocks[0]? = some .free ∧
    (starting [.done (doneInfo 2), .done (doneInfo 1)] 4 audible).audio.blocks[(4 : Word32).toNat % 2]? = some (.done (doneInfo 2)) ∧
    (withClip (fun c => { c with state := .recording, audioPart := true, shipPtr := some 2 })
      (starting [.done (doneInfo 2), .done (doneInfo 1)] 4 audible)).clip.shipPtr = some (doneInfo 2).number :=
  ⟨rfl, fun _ h => (by cases h), by decide⟩

/-- A follower starts a block while it looks for its lock, while it primes, from its store and at a slip; a STOPPING clip loses the block
of its audio stop and the one before, and none beyond; and a chunk reads the slot. -/
def following (st : AudioState) (store : List StoredFrame) (priming : Bool) : State :=
  withAudio (fun a => { a with role := .follower, state := st, store := store, priming := priming }) (starting [.done (doneInfo 2), .done (doneInfo 1)] 4 audible)
def stoppingAudio (b : Word32) : State :=
  withClip (fun c => { c with state := .stopping, stopPos := 1, audioPart := true, shipPtr := some 2, audioStop := .upTo b })
    (starting [.done (doneInfo 2), .done (doneInfo 1)] 4 audible)
theorem witness_FollowersStartBlocks :
    (∀ st store priming, running (following st store priming) ∧ (following st store priming).audio.state = st ∧
      (following st store priming).audio.current = none) ∧
    audioRegion (following .seek [] false) = some (0x500000, 12288) ∧ (following .seek [] false).audio.blocks ≠ [] ∧
    (following .seek [] false).audio.windowCount < 960 ∧ (4 : Word32).toNat % 2 = 0 ∧
    storeSlips (following .locked [] false).audio ∧ ¬storeSlips (following .holdover (stored 8) false).audio ∧
    (following .locked (stored 3) true).audio.priming = true ∧
    ((stoppingAudio 2).tap.ship < (stoppingAudio 2).clip.stopPos ∧ blockPlace (stoppingAudio 2).audio (doneInfo 2).number ≤ blockPlace (stoppingAudio 2).audio 2 ∧
      blockPlace (stoppingAudio 1).audio 1 < blockPlace (stoppingAudio 1).audio (doneInfo 2).number ∧ (stoppingAudio 1).clip.audioStop = .upTo 1) ∧
    (withClip (fun c => { c with run := .audio 0 0x500000 96 3 }) (stoppingAudio 1)).clip.run = .audio 0 0x500000 96 3 :=
  ⟨fun _ _ _ => ⟨rfl, rfl, rfl⟩, by decide, by decide, by decide, by decide, ⟨rfl, .inl rfl, rfl, rfl⟩,
    fun h => absurd h.2.2.2 (by decide), rfl, by decide, rfl⟩
theorem test_overrun_in_stopping :
    [(2 : Word32), 1].map (fun b => afterwards (exec (.samplePeriod 0) (stoppingAudio b)) fun s =>
      (s.clip.shipPtr, s.clip.audioDiscontinuity, causePresent s .audioOverrun))
    = [some (some 1, true, true), some (some 2, false, false)] := by decide +kernel
/-- Past the wrap of the block number (R155): block 0xFFFFFFFF lies behind the pointer 0, and at the pointer 0xFFFFFFFF it is to be
shipped, block 0 being the oldest that remains. -/
theorem test_overrun_at_the_wrap :
    [(0 : Word32), 0xFFFFFFFF].map (fun p => afterwards (exec (.samplePeriod 0)
        (withClip (fun c => { c with state := .recording, audioPart := true, shipPtr := some p })
          (starting [.done (doneInfo 0), .done (doneInfo 0xFFFFFFFF)] 1 audible))) fun s =>
      (s.clip.shipPtr, s.clip.audioDiscontinuity)) = [some (some 0, false), some (some 0, true)] := by decide +kernel

/-- The fourth sync in a row, a full and an almost full store, the end of priming, and the third miss. -/
theorem witness_FrameSyncsLockTheFollower :
    (sounding .master .locked [] false).audio.role = .master ∧
    (withAudio (fun a => { a with bitCount := 2, syncRun := 3 }) (sounding .follower .seek [] false)).audio.bitCount + 126 = 128 ∧
    (withAudio (fun a => { a with bitCount := 2, syncRun := 3 }) (sounding .follower .seek [] false)).audio.bitCount + 127 ≠ 128 ∧
    (withAudio (fun a => { a with seekFresh := true }) (sounding .follower .seek [] false)).audio.seekFresh = true ∧
    (sounding .follower .seek [] false).audio.seekFresh = false ∧ (sounding .follower .locked (stored 7) false).audio.store.length < 8 ∧
    (sounding .follower .locked (stored 3) true).audio.store.length = 3 ∧
    (sounding .follower .locked (stored 8) false).audio.store.length = 8 ∧
    (withAudio (fun a => { a with missCount := 2 }) (sounding .follower .holdover [] false)).audio.missCount = 2 ∧
    (withAudio (fun a => { a with missCount := 1 }) (sounding .follower .holdover (stored 7) false)).audio.missCount = 1 := by decide

/-- A frame that is missing, or comes, with a full store drops the head and marks the block taking samples DEGRADED (R151); the fourth
frame ends the priming phase also when it is a REPEAT (R147, R150). -/
theorem test_arrivals :
    [exec .missingFrame (sounding .follower .locked (stored 8) false), exec (.frameSync 128 0) (sounding .follower .locked (stored 8) false),
      exec .missingFrame (sounding .follower .locked (stored 3) true)].map (fun o => afterwards o fun s =>
        (s.audio.store.length, s.audio.blocks, s.audio.slipTimer, s.audio.priming))
    = [some (8, [.filling ⟨0, 9, ⟨0, true⟩⟩], true, false), some (8, [.filling ⟨0, 9, ⟨0, true⟩⟩], true, false),
       some (4, [.filling ⟨0, 9, ⟨0, false⟩⟩], false, false)] := by decide +kernel

/-- The third miss leaves the counts at 3 and 2, and a short frame the bit count at 0 (R147, R148). -/
theorem test_counts_in_seek :
    [exec .missingFrame (withAudio (fun a => { a with missCount := 2 }) (sounding .follower .holdover [] false)),
      exec (.frameSync 97 0) (sounding .follower .locked [] false)].map (fun o => afterwards o fun s =>
        (s.audio.state, s.audio.syncRun, s.audio.missCount, s.audio.bitCount))
    = [some (.seek, 0, 3, 2), some (.seek, 1, 0, 0)] := by decide +kernel

/-- After an early sync the next one sets the run to 1 (R146; chapter 8: four good syncs are needed). -/
theorem test_first_sync_after_early :
    afterwards (exec (.frameSync 128 0) (withAudio (fun a => { a with syncRun := 1, seekFresh := true }) (sounding .follower .seek [] false)))
      (fun s => (s.audio.syncRun, s.audio.seekFresh)) = some (1, false) := by decide

def metered (peak held count : Nat) : State :=
  withAudio (fun a => { a with windowCount := 960, meters := a.meters.set 0 ⟨peak, 0, held, count⟩ }) (sounding .master .locked [] false)

theorem witness_MeterWindowsFormSegments :
    (metered 100000 11 50).audio.state ≠ .off ∧ (metered 100000 11 50).audio.windowCount = 960 ∧
    (withAudio (fun a => { a with slipTimer := true }) audible).audio.slipTimer = true := by decide

/-- The manual's peak and its fall (chapter 8): the loud window, windows w + 50, w + 51 and w + 58. -/
theorem test_meter_example :
    [(3000000, 0, 0), (100000, 11, 49), (100000, 11, 50), (100000, 4, 50)].map (fun x =>
      afterwards (exec .meterWindowEnd (metered x.1 x.2.1 x.2.2)) fun s =>
        (s.audio.meters[0].segment, s.audio.meters[0].held, s.audio.meters[0].holdCount))
    = [some (11, 11, 0), some (3, 11, 50), some (3, 10, 50), some (3, 3, 0)] := by decide +kernel

theorem witness_AudioCommandsSetTheRoleAndEnd :
    entryReturns (taken audible) ∧ 1 < (2 : Byte).toNat ∧ (1 : Byte).toNat ≤ 1 ∧ (taken audible).clip.state = .idle ∧
    (taken (withClip (fun c => { c with state := .armed, audioPart := true }) audible)).clip.audioPart = true ∧
    (taken audible).audio.state = .off ∧ (taken (sounding .master .locked [] false)).audio.state ≠ .off :=
  ⟨entryReturns_taken _ rfl, by decide, by decide, rfl, rfl, rfl, by decide⟩

/-- AUDIO_CONFIG in STOPPING: refused before the stop position and taken at it (R3, R159), and taken in RECORDING without audio; a bad
role code comes first (log 14). -/
theorem test_audio_config_in_a_clip :
    [(RecState.stopping, 1, true, (1 : Byte)), (.stopping, 0, true, 1), (.recording, 1, false, 1), (.recording, 1, true, 2)].map (fun x =>
      (audioConfigBody x.2.2.2 15 (withClip (fun c => { c with state := x.1, stopPos := x.2.1, audioPart := x.2.2.1 }) audible)).2)
    = [.badState, .ok, .ok, .badArg] := by decide +kernel

/-- In a ring of one block the lines of the replaced block 4 stay at AUDIO_OFF, and those of the current block 5 leave (R155, R160). -/
theorem test_replaced_lines_stay :
    afterwards (exec (.audioOff ⟨1, false⟩) (taken (withAudio (fun a => { a with
        blocks := [.filling (doneInfo 5)], current := some ⟨5, 0, 11, []⟩, lines := [⟨4, 95, 0, []⟩, ⟨5, 0, 0, []⟩] })
      (sounding .master .locked [] false)))) (fun s => s.audio.lines.map (·.number)) = some [4] := by decide +kernel

/-! ### Witnesses: the Accessory Link -/

def linked (link : LinkState) (s : State) : State := withAcc (fun a => { a with link := link }) s
def receiver (n : BitVec 4) (o : BufferOwner) : LinkBuffer := .receive ⟨n, o, 25, none, 255, none⟩
def sender (n : BitVec 4) (o : BufferOwner) (oneshot : Bool) (content : Option LinkContent) (send : Option Kept) : LinkBuffer :=
  .transmit ⟨n, o, oneshot, content, send⟩

/-- The link of the manual's example (chapter 9). -/
def exampleLink : State :=
  withAcc (fun a => { a with
    link := .running, q := 4, filter := ⟨true, 4, 12, true, 5, 15⟩
    buffers := (((((a.buffers.set 4 (receiver 2 .gripIn)).set 5 (sender 8 .tallyOut false none none)).set 6
      (sender 9 .meterOut false none none)).set 7 (sender 10 .lensOut false none none)).set 8 (receiver 12 .host)).set 9
      (sender 13 .host true (some ⟨[1, 2]⟩) (some kept)) }) live
def configuring : State := linked .config exampleLink
def waitingStart : State := withAcc (fun a => { a with startWait := some kept }) configuring
def waitingStop : State := withAcc (fun a => { a with stopWait := some kept }) exampleLink

theorem witness_AccessoryCommandsConfigureTheLink :
    entryReturns (taken live) ∧ (taken live).acc.link = .off ∧ entryReturns (taken configuring) ∧ (taken configuring).acc.link = .config ∧
    (taken configuring).acc.startWait = none ∧ entryReturns (taken waitingStart) ∧ (taken waitingStart).acc.startWait = some kept ∧
    entryReturns (taken exampleLink) ∧ (taken exampleLink).acc.link = .running ∧ (taken exampleLink).acc.stopWait = none ∧
    (taken waitingStop).acc.stopWait ≠ none ∧ periodOf 5 = none ∧
    ((4 : Nat) ≤ 8 ∧ ∀ i : Fin 16, i.val < 4 → (taken configuring).acc.buffers[i] = .unconfigured) ∧
    ¬((5 : Nat) ≤ 8 ∧ ∀ i : Fin 16, i.val < 5 → (taken configuring).acc.buffers[i] = .unconfigured) ∧
    (3 : Byte).toNat < (taken configuring).acc.q ∧ (taken configuring).acc.q ≤ (4 : Byte).toNat ∧ 15 < (16 : Byte).toNat ∧
    (∀ j : Fin 16, j ≠ 15 → ((taken configuring).acc.buffers[j]).identifier ≠ some 15) ∧
    (∃ j : Fin 16, j ≠ 15 ∧ ((taken configuring).acc.buffers[j]).identifier = some 13) ∧
    (∀ j : Fin 16, j ≠ 4 → ((taken configuring).acc.buffers[j]).owner ≠ some .gripIn) ∧
    (∃ j : Fin 16, j ≠ 15 ∧ ((taken configuring).acc.buffers[j]).owner = ownerOf 4) :=
  ⟨entryReturns_taken _ rfl, rfl, entryReturns_taken _ rfl, rfl, rfl, entryReturns_taken _ rfl, rfl, entryReturns_taken _ rfl, rfl, rfl,
    by decide⟩

theorem witness_SendsGoOutInTheirSlot :
    entryReturns (taken exampleLink) ∧ (List.replicate 12 (0 : Byte)).length = 12 ∧ 15 < (16 : Byte).toNat ∧ 12 < (13 : Byte).toNat ∧
    (9 : Byte).toNat = (9 : Fin 16).val ∧ (12 : Byte).toNat ≤ 12 ∧
    (taken exampleLink).acc.buffers[9] = sender 13 .host true (some ⟨[1, 2]⟩) (some kept) ∧
    (∀ x, (taken exampleLink).acc.buffers[15] = .transmit x → x.owner ≠ .host) ∧
    running exampleLink ∧ live.acc.link ≠ .running ∧ exampleLink.acc.bufferFor 13 = some 9 ∧
    (withAcc (fun a => { a with line := .message 13 [13, 2, 1, 2, 0] (some kept) }) exampleLink).acc.line
      = .message 13 [13, 2, 1, 2, 0] (some kept) ∧ live.acc.line = .released :=
  ⟨entryReturns_taken _ rfl, by decide, by decide, by decide, by decide, by decide, by decide, (fun _ h => by cases h), rfl, by decide,
    by decide, rfl, rfl⟩

theorem witness_CycleInstantsStartCyclesOrEnterConfig :
    running live ∧ live.acc.link = .off ∧ configuring.acc.link = .config ∧ configuring.acc.startWait = none ∧
    exampleLink.acc.link = .running ∧ exampleLink.acc.stopWait = none ∧ waitingStart.acc.startWait = some kept ∧
    waitingStop.acc.stopWait = some kept := ⟨rfl, rfl, rfl, rfl, rfl, rfl, rfl, rfl⟩

/-- A HOST buffer at its last fresh cycle, and one ONESHOT send that waits, each alone (R170, R180). -/
theorem witness_CycleInstantsReportStaleAndAbort :
    (withAcc (fun a => { a with buffers := a.buffers.set 8 (.receive ⟨12, .host, 25, some ⟨[1]⟩, 25, none⟩) }) exampleLink).acc.buffers[8]
      = .receive ⟨12, .host, 25, some ⟨[1]⟩, 25, none⟩ ∧ 25 < min 255 (25 + 1) ∧
    exampleLink.acc.buffers[4] = receiver 2 .gripIn ∧ 25 < 255 ∧
    waitingStop.acc.buffers[9] = sender 13 .host true (some ⟨[1, 2]⟩) (some kept) ∧
    (∀ j : Fin 16, j ≠ 9 → ∀ n o c k, waitingStop.acc.buffers[j] = .transmit ⟨n, o, true, c, k⟩ → False) :=
  ⟨by decide, by decide, by decide, by decide, by decide, fun j hj n o c k h => by
    fin_cases j <;> simp_all [waitingStop, exampleLink, withAcc, live, State.setAcc, receiver, sender, State.reset, Acc.reset]⟩

/-- A good message of identifier `n` with one data byte. -/
def said (n : BitVec 4) : LinkMessage := ⟨n.zeroExtend 8, 1, [7], crc8 [n.zeroExtend 8, 1, 7]⟩

theorem witness_MessagesAreJudgedAndRouted :
    running exampleLink ∧ (∀ n ∈ [2, 4, 5, 12], (said n).wellFormed = true ∧ exampleLink.acc.heard.getLsbD (BitVec.toNat n) = false ∧
      (said n).length.toNat ≤ 12 ∧ crc8 ((said n).identifier :: (said n).length :: (said n).data) = (said n).crc ∧
      ∀ i : Fin 16, ∀ o w c k, exampleLink.acc.buffers[i] = .transmit ⟨n, o, w, c, k⟩ → False) ∧
    exampleLink.acc.bufferFor 8 = some 5 ∧ exampleLink.acc.bufferFor 2 = some 4 ∧ exampleLink.acc.bufferFor 12 = some 8 ∧
    (∀ i : Fin 16, (exampleLink.acc.buffers[i]).identifier ≠ some 4) ∧ (∀ i : Fin 16, (exampleLink.acc.buffers[i]).identifier ≠ some 5) ∧
    (4 &&& exampleLink.acc.filter.acceptMask = exampleLink.acc.filter.acceptCode &&& exampleLink.acc.filter.acceptMask) ∧
    exampleLink.acc.queue.length < exampleLink.acc.q ∧ 64 ≤ unread (unreadIs 64) ∧ (13 : Byte).toNat = 12 + 1 :=
  ⟨rfl, by
    intro n hn
    have hd : ∀ n ∈ ([2, 4, 5, 12] : List (BitVec 4)), (said n).wellFormed = true ∧ exampleLink.acc.heard.getLsbD (BitVec.toNat n) = false ∧
        (said n).length.toNat ≤ 12 ∧ crc8 ((said n).identifier :: (said n).length :: (said n).data) = (said n).crc ∧
        n ≠ 8 ∧ n ≠ 9 ∧ n ≠ 10 ∧ n ≠ 13 := by decide +kernel
    obtain ⟨h1, h2, h3, h4, h5⟩ := hd n hn
    refine ⟨h1, h2, h3, h4, ?_⟩
    intro i o w c k h
    fin_cases i <;> simp_all [exampleLink, withAcc, live, State.setAcc, receiver, sender, State.reset, Acc.reset],
    by decide⟩

/-- Slots 3 to 5 of the manual's cycle (chapter 9): a wrong CRC, an accepted and a rejected identifier. -/
theorem test_link_example :
    [(3, { said 3 with crc := (said 3).crc + 1 }), (4, said 4), (5, said 5)].map (fun x =>
      afterwards (exec (.accMessageReceive x.1 x.2) (withControl (fun c => { c with reportProducer := 64 }) exampleLink)) fun s =>
        (s.acc.errors, s.acc.queue.length, causePresent s .accLinkError))
    = [some (1, 0, true), some (0, 1, false), some (0, 0, false)] := by decide +kernel


/-! ### Witnesses: the Clip Assembler -/

/-- A card in a state with a chain: AU 100 being written, AU 101 ahead. -/
def chained (st : CardState) : Card :=
  { Card.reset with
    detect := true, state := st, identified := true, auCount := 8000, serial := 77, chain := .set, au := some 100, eraseState := .erased
    lookahead := .au 101 .erased, nextGroup := 0x100020 }
def carded (c : Card) (s : State) : State := s.setCard .a c

/-- Regions for a clip, with a card that is READY with a chain. -/
def prepared : State := carded (chained .ready) (withRegion 2 frameAt exampleTap)
def opened (used : Nat) : PageRecord := ⟨5, ⟨true, false⟩, ⟨false, false⟩, ⟨false, false⟩, 0, false, List.replicate used 0⟩
def sealedPage : PageRecord := { opened 4096 with sealed := true }

/-- A clip on card A with its CLIP_HEAD laid. -/
def clipping (st : RecState) (s : State) : State :=
  withClip (fun c => { c with state := st, clipNumber := 5, targets := ⟨true, false⟩, pages := [opened 64], chunkSeq := 1, stopPos := 5898240 })
    (carded (chained .active) s)
def clip : State := clipping .recording (withRegion 2 frameAt exampleTap)

theorem witness_RecCommandsBeginAndStopClips :
    entryReturns (taken prepared) ∧ (taken prepared).clip.state = .idle ∧ (65536 % 4096 = 0 ∧ 16384 ≤ 65536) ∧
    (1048576 % 4096 = 0 ∧ ¬(16383 ≥ 16384) ∧ ¬(1052672 ≤ 1048576)) ∧ 4 < (5 : Byte).toNat ∧
    (streamRegion (taken prepared)).isSome = true ∧ (frameRegion (taken prepared)).isSome = true ∧ (taken prepared).audio.state = .off ∧
    (∀ slot, (firstCards (taken prepared).clip.mode).has slot = true →
      ((taken prepared).card slot).state = .ready ∧ ((taken prepared).card slot).chain = .set ∧ ((taken prepared).card slot).request = none) ∧
    (taken prepared).clip.pages = [] ∧ (taken prepared).tap.entries = [] ∧
    (withTap (fun t => { t with entries := [⟨.key, 4981760, 9000, 1⟩] }) (taken prepared)).tap.entries = ⟨.key, 4981760, 9000, 1⟩ :: [] ∧
    streamRegion (taken live) = none ∧ ((taken live).card .a).state ≠ .ready ∧
    entryReturns (taken clip) ∧ (taken clip).clip.state = .recording ∧ (taken clip).tap.ship < (taken clip).tap.cursor ∧
    (taken clip).clip.audioPart = false ∧ (withClip (fun c => { c with state := .armed }) (taken clip)).clip.state = .armed :=
  ⟨entryReturns_taken _ rfl, rfl, by decide, by decide, by decide, by decide, by decide, rfl,
    (fun slot h => by cases slot <;> first | exact ⟨rfl, rfl, rfl⟩ | cases h), rfl, rfl, rfl, by decide, by decide,
    entryReturns_taken _ rfl, rfl, by decide, rfl, rfl⟩

theorem recordable_prepared : recordable prepared := ⟨⟨_, rfl⟩, ⟨_, rfl⟩, .inr rfl⟩
theorem firstReady_prepared : firstReady prepared := fun slot h => by cases slot <;> first | exact ⟨rfl, rfl, rfl⟩ | cases h

/-- A press in IDLE that starts and three that are refused, and one in ARMED and in RECORDING (R29). -/
theorem witness_PressesStartAndStop :
    recordable prepared ∧ firstReady prepared ∧ prepared.clip.pages = [] ∧ (streamRegion live).isNone = true ∧
    ¬firstReady (withRegion 2 frameAt exampleTap) ∧ (withClip (fun c => { c with pages := [sealedPage] }) prepared).clip.pages ≠ [] ∧
    (withClip (fun c => { c with gripRec := true }) clip).clip.gripRec = true ∧ clip.tap.ship < clip.tap.cursor ∧
    (tapAt 4980736 4980736 clip).tap.cursor ≤ (tapAt 4980736 4980736 clip).tap.ship ∧ clip.tap.held = none :=
  ⟨recordable_prepared, firstReady_prepared, rfl, by decide, fun h => absurd (h .a rfl).1 (by decide), by decide +kernel⟩

theorem boundary_clip : chunkBoundary clip := ⟨rfl, .inl rfl, rfl, rfl, rfl, rfl, fun h => absurd h (by decide)⟩
theorem unbounded_clip : roomUnbounded clip :=
  ⟨by decide, fun slot h => by cases slot with
    | a => exact ⟨_, _, rfl⟩
    | b => cases h⟩

/-- The last AU of the chain with `left` pages left and an open page of `used` bytes. -/
def ending (left used : Nat) (s : State) : State :=
  withClip (fun c => { c with pages := [opened used] })
    (withCard (fun c => { c with lookahead := .theEnd, pageIndex := 1024 - left }) s)
def filled (n : Nat) (s : State) : State :=
  withClip (fun c => { c with index := List.replicate n ⟨.key, 4981760, 9000, 1⟩ }) s

/-- A MIRROR clip whose one remaining card, A, has no room left. -/
def lastMirror : State := withClip (fun c => { c with mode := .mirror }) (ending 1 4096 clip)

/-- An index that is full and almost full, a backlog at the minimum, a room of 33 and of 0 bytes (R32, R33, R38), also in MIRROR
(R42). -/
theorem witness_BoundariesChooseIndexAudioThenVideo :
    chunkBoundary clip ∧ clip.clip.readReq = none ∧ roomUnbounded clip ∧ 255 ≤ (filled 255 clip).clip.index.length ∧
    (filled 254 clip).clip.index.length < 255 ∧ noAudioDue clip ∧ backlogIs clip 917504 ∧ videoLengthIs clip 262144 ∧
    clip.clip.chunkMin ≤ 917504 ∧ backlogIs (tapAt 65536 0 clip) 65536 ∧ videoLengthIs (tapAt 65536 0 clip) 65536 ∧
    backlogIs (tapAt 65535 0 clip) 65535 ∧ 65535 < clip.clip.chunkMin ∧
    roomIs (ending 1 4063 clip) .a 33 ∧ chunkBoundary (ending 1 4063 clip) ∧ roomIs (ending 1 4096 clip) .a 0 ∧
    chunkBoundary (ending 1 4096 clip) ∧ 32 < 33 ∧ 33 < 32 + 262144 ∧ clip.clip.mode = .singleA ∧
    ¬chunkBoundary live ∧ running live ∧
    (chunkBoundary lastMirror ∧ roomIs lastMirror .a 0 ∧ lastMirror.clip.mode = .mirror ∧ lastMirror.clip.readReq = none) ∧
    doneBlock { audible.audio with blocks := [.done (doneInfo 3)] } 3 = some (doneInfo 3) :=
  ⟨boundary_clip, rfl, unbounded_clip, by decide +kernel, by decide +kernel, .inl rfl, by unfold backlogIs; decide,
    ⟨917504, by unfold backlogIs; decide, by decide +kernel⟩, by decide +kernel, by unfold backlogIs; decide, ⟨65536, by unfold backlogIs; decide, by decide +kernel⟩,
    by unfold backlogIs; decide, by decide +kernel, ⟨by decide +kernel, by decide +kernel⟩,
    ⟨rfl, .inl rfl, rfl, rfl, rfl, rfl, fun h => absurd h (by decide +kernel)⟩, ⟨by decide +kernel, by decide +kernel⟩,
    ⟨rfl, .inl rfl, rfl, rfl, rfl, rfl, fun h => absurd h (by decide +kernel)⟩, by decide +kernel, by decide +kernel, rfl,
    fun h => h.2.1.elim (fun h => by cases h) (fun h => by cases h), rfl,
    ⟨⟨rfl, .inl rfl, rfl, rfl, rfl, rfl, fun h => absurd h (by decide +kernel)⟩, ⟨by decide +kernel, by decide +kernel⟩, rfl, rfl⟩,
    by decide +kernel⟩

/-- The AUDIO chunk of block 3 with the current block near and far ahead of the next pointer, and with none; an abort with an empty and a
full report ring, and a REC_STOP that waits. -/
def audioChunk (current : Option CurrentBlock) : State :=
  withRegion 3 { audioAt with size := 4 * 12288 } (withClip (fun c => { c with audioPart := true, shipPtr := some 3 })
    (withAudio (fun a => { a with blocks := [.filling (doneInfo 4), .free, .free, .done (doneInfo 3)], current := current }) clip))
theorem witness_AudioChunksEndTheOverrun :
    (∀ c, chunkBoundary (audioChunk c) ∧ (audioChunk c).clip.readReq = none ∧ roomUnbounded (audioChunk c) ∧
      (audioChunk c).clip.audioPart = true ∧ (audioChunk c).clip.shipPtr = some 3 ∧ (audioChunk c).clip.index.length < 255) ∧
    doneBlock (audioChunk none).audio 3 = some (doneInfo 3) ∧ audioRegion (audioChunk none) = some (0x500000, 4 * 12288) ∧
    2 * ((5 : Word32) - (3 + 1)).toInt < 4 ∧ ¬(2 * ((6 : Word32) - (3 + 1)).toInt < 4) ∧
    unread (ending 1 4096 clip) ≤ 48 ∧ 64 ≤ unread (withControl (fun c => { c with reportProducer := 64 }) (ending 1 4096 clip)) ∧
    (withClip (fun c => { c with stopCmd := some kept }) (ending 1 4096 clip)).clip.stopCmd = some kept ∧ kept.notify = true :=
  ⟨fun _ => ⟨⟨rfl, .inl rfl, rfl, rfl, rfl, rfl, fun h => absurd h (by decide : openPage clip.clip ≠ none)⟩, rfl,
      ⟨(by decide : clip.clip.targets ≠ ⟨false, false⟩), fun slot h => by cases slot with
        | a => exact ⟨_, _, rfl⟩
        | b => cases h⟩, rfl, rfl, (by decide : clip.clip.index.length < 255)⟩,
    by decide +kernel, by decide +kernel, by decide, by decide, by decide +kernel, by decide +kernel, rfl, rfl⟩

/-- At the end of its last card a MIRROR clip is aborted (R41, R42). -/
theorem test_mirror_ends :
    afterwards (exec .chunkChoice lastMirror) (fun s => (s.clip.state, causePresent s .mediaExhausted)) = some (.idle, true) := by
  decide +kernel

/-- The chunk that the manual's example chooses for a backlog of more than the maximum: VIDEO of 262,144 bytes (chapter 2). -/
theorem test_chunk_example :
    afterwards (exec .chunkChoice clip) (fun s => (s.clip.run, s.clip.chunkSeq, s.clip.pages.map fun p => p.content.length))
      = some (.video 4980736 4980736 (4980736 + 262144), 2, [96]) := by decide +kernel

/-- A clip in RELAY_AB at the end of card A, with card B READY. -/
def relaying (s : State) : State := (withClip (fun c => { c with mode := .relayAB }) s).setCard .b (chained .ready)
theorem witness_RelaysAtTheEnd :
    chunkBoundary (withClip (fun c => { c with pages := [sealedPage] }) (ending 1 4096 (relaying clip))) ∧
    roomIs (withClip (fun c => { c with pages := [sealedPage] }) (ending 1 4096 (relaying clip))) .a 0 ∧
    openPage (withClip (fun c => { c with pages := [sealedPage] }) (ending 1 4096 (relaying clip))).clip = none :=
  ⟨⟨rfl, .inl rfl, rfl, rfl, rfl, rfl, fun _ => by decide +kernel⟩, ⟨by decide +kernel, rfl, by decide +kernel⟩, by decide +kernel⟩

def paying (run : PayloadRun) (d : Destination) (n : Nat) : State := returned d n (withClip (fun c => { c with run := run }) clip)

theorem witness_PayloadReturnsAreLaidAndShipped :
    returns (paying (.video 4980864 4980736 5242880) (.video 4980736 4980864 0) 128) ⟨.read 0 128, .video 4980736 4980864 0⟩ ∧
    (paying (.video 4980864 4980736 5242880) (.video 4980736 4980864 0) 128).clip.state = .recording ∧
    (paying (.video 4980864 4980736 5242880) (.video 4980736 4980864 0) 128).tap.held = none ∧
    (paying (.video 4980864 4980736 5242880) (.video 4980736 4980864 0) 128).tap.ship < 4980864 ∧
    (tapAt 5898240 4980864 clip).tap.ship ≥ 4980864 ∧
    returns (paying (.audio 0 0x500000 96 95) .audioPayload 128) ⟨.read 0 128, .audioPayload⟩ ∧ 95 + 1 = 96 :=
  ⟨returns_returned _ _ _ rfl rfl, rfl, rfl, by decide, by decide, returns_returned _ _ _ rfl rfl, rfl⟩

/-- An advance of ship to which the held write fits exactly, and one before it; a REC_STOP during the hold; the end of assembly. -/
def heldWrite : StreamWrite := ⟨.append, 786432, 128, 6029312, 6029440, 0⟩
theorem witness_AdvancesRetestHeldWrites :
    returns (holding (paying (.video 4980864 4980736 5242880) (.video 4980736 4980864 0) 128)) ⟨.read 0 128, .video 4980736 4980864 0⟩ ∧
    (holding (paying (.video 4980864 4980736 5242880) (.video 4980736 4980864 0) 128)).tap.held = some heldWrite ∧
    assembled (holding (paying (.video 4980864 4980736 5242880) (.video 4980736 4980864 0) 128)) = true ∧
    6029440 - 4980864 ≤ 1048576 ∧ ¬(6029440 - 4980863 ≤ 1048576) ∧
    (withTap (fun t => { t with stopHold := true }) (clipping .stopping exampleTap)).tap.stopHold = true ∧
    assembled (withClip (fun c => { c with stopPos := 4980864 }) (clipping .stopping exampleTap)) = true :=
  ⟨returns_returned _ _ _ rfl rfl, by decide +kernel⟩

/-- VIDEO data in STOPPING with no write held: before, at and behind the stop position, and with assembly already at its end. -/
def stoppingAt (stop : Nat) : State :=
  withClip (fun c => { c with state := .stopping, stopPos := stop }) (paying (.video 4980864 4980736 5242880) (.video 4980736 4980864 0) 128)
theorem witness_StoppingClipsShip :
    (∀ stop, returns (stoppingAt stop) ⟨.read 0 128, .video 4980736 4980864 0⟩ ∧
      (stoppingAt stop).clip.run = .video 4980864 4980736 5242880 ∧ (stoppingAt stop).tap.held = none ∧
      (stoppingAt stop).tap.ship = 4980736) ∧
    4980736 < 4980864 ∧ (4980864 < 4980865 ∧ ¬(4980864 < 4980864) ∧ ¬(4980736 < 4980736)) :=
  ⟨fun _ => ⟨returns_returned _ _ _ rfl rfl, rfl, rfl, rfl⟩, by decide, by decide⟩

def closing (used : Nat) : State :=
  withClip (fun c => { c with pages := [opened used] }) (withTap (fun t => { t with ship := 5898240 }) (clipping .stopping exampleTap))

theorem length_opened (n : Nat) : (opened n).content.length = n := List.length_replicate

/-- A page with one byte left, no place and one place for a page, and a closing that needs no fill, zeros and a PAD. -/
theorem witness_PagesOpenAndClipsClose :
    openPage { live.clip with pages := [opened 4095], lay := [⟨true, [1, 2]⟩] } = some (opened 4095) ∧ (opened 4095).content.length ≤ 4096 ∧
    (withClip (fun c => { c with pages := List.replicate 8 sealedPage }) clip).clip.pages.length = 8 ∧
    openPage (withClip (fun c => { c with pages := List.replicate 7 sealedPage, lay := [⟨true, [1]⟩] }) clip).clip = none ∧
    chunkBoundary (closing 64) ∧ (closing 64).clip.state = .stopping ∧ (closing 64).clip.stopPos ≤ (closing 64).tap.ship ∧
    roomUnbounded (closing 64) ∧ (closing 64).clip.audioPart = false ∧
    (4096 - (4064 + 32) % 4096) % 4096 = 0 ∧ (4096 - (4033 + 32) % 4096) % 4096 < 32 ∧ (4096 - (4032 + 32) % 4096) % 4096 = 32 ∧
    clip.clip.state ≠ .stopping ∧
    (withClip (fun c => { c with pages := [], closed := true, stopCmd := some kept }) (closing 64)).clip.closed = true ∧
    (withClip (fun c => { c with pages := [], closed := true, stopCmd := some kept }) (closing 64)).clip.lay = [] :=
  ⟨rfl, Nat.le_of_lt (by rw [length_opened]; decide), by decide +kernel, by decide +kernel,
    ⟨rfl, .inr rfl, rfl, rfl, rfl, rfl, fun h => absurd h (by decide +kernel)⟩, rfl, by decide +kernel,
    ⟨by decide +kernel, fun slot h => by cases slot with
      | a => exact ⟨_, _, rfl⟩
      | b => cases h⟩, rfl, by decide +kernel, by decide +kernel, by decide +kernel, by decide +kernel, rfl, rfl⟩

/-- CARD_STATE, REC_STATE and CMD_DONE are posted (R28, R48). -/
theorem test_recordingStopped :
    afterwards (exec .recordingStopped
      (withClip (fun c => { c with pages := [], closed := true, stopCmd := some kept }) (closing 64)))
      (fun s => (s.clip.state, s.cardA.state, s.control.reportProducer)) = some (.idle, .ready, 3) := by decide +kernel

/-! ### Witnesses: the Card Controllers -/

def erasing (held : Bool) : EraseRecord := ⟨101, .lookahead, held, 0⟩
def acard (c : Card) : State := carded c live

/-- Every card state that the commands tell apart, with and without an erase, a waking and a pending request. -/
theorem witness_CardCommandsAreJudgedByCardState :
    (∀ c : Card, entryReturns (taken (acard c))) ∧ (∀ c : Card, (taken (acard c)).card .a = c) ∧ 1 < (2 : Byte).toNat ∧
    (33 : Word32).toNat % 32 ≠ 0 ∧ (0x100000 : Word32).toNat % 32 = 0 ∧
    ((0 : Byte).toNat, CardSlot.a) ∈ [(0, CardSlot.a), (1, CardSlot.b)] ∧ ((1 : Byte).toNat, CardSlot.b) ∈ [(0, CardSlot.a), (1, CardSlot.b)] ∧
    (∀ st, (chained st).state = st ∧ (chained st).request = none ∧ (chained st).erase = none ∧ (chained st).identified = true) ∧
    ({ chained .ready with request := some (.sleep kept) } : Card).request ≠ none ∧
    ({ chained .asleep with phase := .wake } : Card).phase = .wake ∧ (chained .asleep).phase ≠ .wake ∧
    ({ chained .full with erase := some (erasing false) } : Card).erase = some (erasing false) ∧ (erasing false).held = false :=
  ⟨fun _ => entryReturns_taken _ rfl, fun _ => rfl, by decide, by decide, by decide, by decide, by decide,
    fun _ => ⟨rfl, rfl, rfl, rfl⟩, by decide, rfl, by decide, rfl, rfl⟩

theorem witness_InsertedCardsAreProbed :
    running (acard Card.reset) ∧ Card.reset.detect = false ∧ (chained .ready).detect = true ∧
    (({ Card.reset with detect := true, settling := true } : Card).settling = true ∧ Card.reset.state = .absent) ∧
    ({ chained .probing with phase := .ident } : Card).phase = .ident ∧ Card.reset.phase ≠ .ident ∧
    16 ≤ (16 : Word16).toNat ∧ (15 : Word16).toNat < 16 ∧ (chained .probing).state = .probing ∧ (chained .failed).state ≠ .absent :=
  ⟨rfl, rfl, rfl, ⟨rfl, rfl⟩, rfl, by decide, by decide, by decide, rfl, by decide⟩

/-- The removal of an ACTIVE card on which a clip is written, and of one in PROBING; each state that the FAULT condition may have. -/
theorem witness_ActiveCardsFailAtTheirRemoval :
    running clip ∧ (clip.card .a).detect = true ∧ (clip.card .a).state = .active ∧ clip.clip.state ≠ .idle ∧
    clip.clip.targets.has .a = true ∧ clip.clip.closed = false ∧ causePresent clip .cardAFault = false ∧
    clip.control.noticeMask.getLsbD (slotFault .a).number.val = false ∧ unread clip ≤ 48 ∧
    (∀ v, condState (setCondState clip .cardAFault v) .cardAFault = v) ∧ (chained .probing).detect = true ∧
    (chained .probing).state ≠ .absent :=
  ⟨rfl, rfl, rfl, by decide, rfl, rfl, rfl, rfl, by decide, fun v => by cases v <;> decide +kernel, rfl, by decide⟩

/-- In RELAY_AB the removal of card A ends its fault LATCHED and moves the clip to card B; a single card's removal aborts the clip (R40,
R41, R49, R50). -/
theorem test_removal_of_the_clips_card :
    afterwards (exec (.cardRemoval .a) (relaying clip))
      (fun s => (s.cardA.state, s.cardB.state, condState s .cardAFault, s.clip.targets)) = some (.absent, .active, .latched, ⟨false, true⟩) ∧
    afterwards (exec (.cardRemoval .a) clip) (fun s => (s.clip.state, s.clip.pages, causePresent s .mediaExhausted)) = some (.idle, [], true) := by
  decide +kernel

/-- Each command that can wait on a card, with the report ring empty and full (R49). -/
theorem witness_RemovalsAbortWaitingCommands :
    (∀ (chain wake : Option Kept) (request : Option PendingRequest), ({ chained .active with
      chainCmd := chain, wakeCmd := wake, request := request } : Card).detect = true) ∧
    (⟨0x18, 7, true⟩ : Kept).code = 0x18 ∧ (⟨0x1A, 7, true⟩ : Kept).code = 0x1A ∧ (⟨0x19, 7, true⟩ : Kept).code = 0x19 ∧
    (⟨0x1B, 7, true⟩ : Kept).code = 0x1B ∧ (acard (chained .active)).clip.stopCmd = none ∧ unread (acard (chained .active)) ≤ 48 ∧
    64 ≤ unread (withControl (fun c => { c with reportProducer := 64 }) (acard (chained .active))) :=
  ⟨fun _ _ _ => rfl, rfl, rfl, rfl, rfl, rfl, by decide, by decide⟩

/-- An identification byte by byte (R212): present, AU count 8,000, not protected, serial 77. -/
theorem test_ident :
    afterwards (exec (.cardIdentResponse .a [0x5A, 0x40, 0x1F, 0, 77, 0, 0, 0, 0, 0, 0, 0] false)
      (acard { chained .probing with phase := .ident })) (fun s => (s.cardA.state, s.cardA.auCount, s.cardA.serial, s.cardA.phase))
      = some (.ready, 8000, 77, .idle) := by decide +kernel

def writing (c : Card) : Card := { c with statusOut := true }
/-- Six pages that await card A. -/
def backlog (n : Nat) (c : Card) : State := withClip (fun k => { k with state := .recording, pages := List.replicate n sealedPage }) (acard c)

/-- A hold at its least backlog and its least spacing, and the least backlog less one; the last page index but one; polls in every
phase that has them. -/
theorem witness_OperationsArePolledToTheirEnds :
    running (backlog 6 { chained .active with erase := some (erasing false), lastContinue := some 0 }) ∧
    6 ≤ pagesAwaiting (backlog 6 { chained .active with erase := some (erasing false) }) .a ∧
    pagesAwaiting (backlog 5 { chained .active with erase := some (erasing false) }) .a < 6 ∧ 0 + 1000 ≤ live.now + 1000 ∧
    some (erasing false).au ≠ (chained .active).au ∧ (chained .active).phase = .idle ∧ (chained .active).holdRefused = false ∧
    (chained .active).statusOut = false ∧ (writing (chained .active)).statusOut = true ∧
    ({ chained .active with phase := .pageWrite } : Card).phase = .pageWrite ∧
    (0 : Byte).getLsbD 0 = false ∧ (1 : Byte).getLsbD 0 = true ∧ (2 : Byte).getLsbD 1 = true ∧ (4 : Byte).getLsbD 2 = true ∧
    (8 : Byte).getLsbD 3 = true ∧ (backlog 1 (chained .active)).clip.pages.find? (awaits .a) = some sealedPage ∧
    currentDue { chained .active with eraseState := .needed, pageIndex := 1023 } 100 ∧
    lookaheadDue { chained .active with lookahead := .au 101 .needed, pageIndex := 1 } 101 ∧
    ({ chained .active with pageIndex := 1022 } : Card).pageIndex ≠ 1023 ∧
    (backlog 1 (chained .active)).clip.pages = [] ++ sealedPage :: [] ∧ awaits .a sealedPage = true ∧ pageDone sealedPage = false ∧
    64 ≤ unread (unreadIs 64) ∧ ({ chained .asleep with phase := .wake, wakeCmd := some kept, sleepOrigin := .full } : Card).wakeCmd = some kept :=
  ⟨rfl, by decide +kernel, by decide +kernel, by decide +kernel, by decide +kernel, rfl, rfl, rfl, rfl, rfl, by decide +kernel, by decide +kernel, by decide +kernel, by decide +kernel, by decide +kernel, rfl,
    ⟨⟨rfl, rfl, .inr rfl, rfl⟩, rfl, rfl, by decide +kernel⟩, ⟨⟨rfl, rfl, .inr rfl, rfl⟩, by decide +kernel, by decide +kernel, rfl, by decide +kernel⟩, by decide +kernel, rfl,
    by decide +kernel, by decide +kernel, by decide +kernel, rfl⟩

/-- The last page of an AU before each lookahead, with the group walked to its end and with a held erase of the lookahead; a held erase
with two and three pages left after the one written; ERASE_CONTINUE answered; a bad current AU with each lookahead (R55, R56, R59, R61). -/
def lastPage (c : Card) : Card := writing { c with phase := .pageWrite, pageIndex := 1023 }
theorem witness_RolloversFollowTheLastPage :
    (lastPage (chained .active)).lookahead = .au 101 .erased ∧ (lastPage (chained .active)).badEnd = false ∧
    (lastPage (chained .active)).groupIndex = (lastPage (chained .active)).group.length ∧ (lastPage (chained .active)).erase = none ∧
    (lastPage { chained .active with lookahead := .theEnd }).lookahead = .theEnd ∧
    (lastPage { chained .active with lookahead := .unresolved }).lookahead = .unresolved ∧
    (lastPage { chained .active with erase := some (erasing true) }).erase = some (erasing true) ∧ (erasing true).au = 101 ∧
    (backlog 4 (chained .active)).clip.pages = [] ++ sealedPage :: List.replicate 3 sealedPage ∧
    pageDone { sealedPage with written := sealedPage.written.add .a } = true ∧
    2 < ((List.replicate 3 sealedPage).filter (awaits .a)).length ∧ ((List.replicate 2 sealedPage).filter (awaits .a)).length ≤ 2 ∧
    ({ chained .active with phase := .continueCheck, erase := some (erasing true) } : Card).erase = some (erasing true) ∧
    (⟨100, .current, false, 0⟩ : EraseRecord).role = .current ∧
    64 ≤ unread (withControl (fun c => { c with reportProducer := 64 }) (acard (chained .active))) := by
  refine ⟨rfl, rfl, rfl, rfl, rfl, rfl, rfl, rfl, rfl, ?_, ?_, ?_, rfl, rfl, ?_⟩ <;> decide +kernel

/-- A current AU whose erase ends with ERR gives way to the lookahead (R59). -/
theorem test_bad_current_au :
    afterwards (exec (.cardStatusResponse .a [0x5A, 8] false 0)
      (withControl (fun c => { c with reportProducer := 64 })
        (acard (writing { chained .active with erase := some ⟨100, .current, false, 0⟩, eraseState := .erasing }))))
      (fun s => (s.cardA.au, s.cardA.pageIndex, s.cardA.badAus, s.cardA.erase)) = some (some 101, 0, 1, none) := by decide +kernel

/-- A page write ends at the last page of an AU: the next AU is ahead (R56). -/
theorem test_page_rolls_over :
    afterwards (exec (.cardStatusResponse .a [0x5A, 0] false 0)
      (backlog 1 (writing { chained .active with phase := .pageWrite, pageIndex := 1023 })))
      (fun s => (s.cardA.au, s.cardA.pageIndex, s.clip.pages)) = some (some 101, 0, []) := by decide +kernel

theorem witness_TimeoutsFailTheCard :
    running (acard (chained .ready)) ∧ (chained .ready).phase ≠ .pageWrite ∧ (chained .ready).phase ≠ .wake ∧
    ({ chained .active with phase := .pageWrite } : Card).state = .active ∧ ({ chained .ready with phase := .pageWrite } : Card).state ≠ .active ∧
    ({ chained .probing with phase := .drainPage } : Card).erase = none ∧ ({ chained .probing with phase := .drainWake } : Card).erase = none ∧
    ({ chained .asleep with phase := .wake, wakeCmd := some kept } : Card).wakeCmd = some kept ∧
    (∀ e, (chained .ready).erase = some e → e.held = true) ∧
    ({ chained .ready with erase := some (erasing false), request := some (.sleep kept) } : Card).request = some (.sleep kept) ∧
    ({ chained .ready with erase := some (erasing false), request := some (.eject kept) } : Card).request = some (.eject kept) ∧
    ({ chained .failed with erase := some (erasing false), request := some (.eject kept) } : Card).state = .failed ∧
    (chained .ready).state ≠ .probing :=
  ⟨rfl, by decide, by decide, rfl, by decide, rfl, rfl, rfl, (fun _ h => by cases h), rfl, rfl, rfl, by decide⟩

/-- The group of the manual's example (chapter 3): AU 100, AU 101 ERASED, LINK, AU 102. -/
def exampleGroup : List Byte :=
  [100, 0, 0, 0, 1, 0, 0, 0, 101, 0, 0, 0, 1, 1, 0, 0, 0x40, 0, 0x20, 0, 2, 0, 0, 0, 102, 0, 0, 0, 1, 0, 0, 0]
def fetching (c : Card) : State := returned (.card .a) 32 (acard c)
def loading (st : CardState) : Card := { chained st with chain := .loading, walk := .first, chainCmd := some kept, lookahead := .unresolved, au := none }
def walking (n : Nat) : Card := { chained .active with walk := .lookahead, lookahead := .unresolved, linkRun := n }

theorem witness_ChainsAreWalkedGroupByGroup :
    (∀ c : Card, returns (fetching c) ⟨.read 0 32, .card .a⟩) ∧ exampleGroup.length = 32 ∧
    (byteAt exampleGroup (8 * 0 + 4)).toNat = 1 ∧ (byteAt exampleGroup (8 * 1 + 4)).toNat = 1 ∧ field exampleGroup (8 * 1) 4 < 8000 ∧
    (byteAt exampleGroup (8 * 2 + 4)).toNat = 2 ∧ (∀ st, (loading st).badEnd = false ∧ (loading st).walk = .first) ∧
    (loading .ready).chainCmd = some kept ∧ (∀ n, (walking n).walk = .lookahead ∧ (walking n).linkRun = n ∧ (walking n).chain = .set) ∧
    (8000 : Word16).toNat ≤ 8000 ∧ 7999 < (8000 : Word16).toNat :=
  ⟨fun _ => returns_returned _ _ _ rfl rfl, by decide, by decide, by decide, by decide, by decide, fun _ => ⟨rfl, rfl⟩, rfl,
    fun _ => ⟨rfl, rfl, rfl⟩, by decide⟩

theorem witness_ProtectedCardsTakeChains :
    (loading .writeProtected).state = .writeProtected ∧ (loading .writeProtected).chainCmd = some kept ∧
    (loading .writeProtected).cardProtect = false := ⟨rfl, rfl, rfl⟩

theorem test_chain_example :
    afterwards (exec (.cardDescriptorFetchDone .a exampleGroup false) (fetching (loading .ready)))
      (fun s => (s.cardA.au, s.cardA.eraseState, s.cardA.lookahead, s.cardA.groupIndex))
      = some (some 100, .needed, .au 101 .erased, 2) := by decide +kernel
theorem test_chain_link :
    afterwards (exec (.cardDescriptorFetchDone .a (exampleGroup.drop 16 ++ exampleGroup.take 16) false) (fetching (walking 0)))
      (fun s => (s.cardA.fetchReq.map ReadRequest.addr, s.cardA.nextGroup, s.cardA.groupIndex))
      = some (some 0x200040, 0x200060, 0) := by decide +kernel

theorem witness_ErasesWritesAndRolloversStartWhenDue :
    running (backlog 1 (chained .active)) ∧ currentDue { chained .ready with eraseState := .needed, pageIndex := 0 } 100 ∧
    lookaheadDue { chained .active with lookahead := .au 101 .needed, pageIndex := 1 } 101 ∧
    ((chained .active).phase = .idle ∧ (chained .active).statusOut = false) ∧
    (¬((∃ n, currentDue (chained .active) n) ∨ ∃ m, lookaheadDue (chained .active) m)) ∧
    (∃ q ∈ (backlog 1 (chained .active)).clip.pages, awaits .a q = true) ∧ (chained .active).pageIndex < 1024 ∧
    ({ chained .active with rolloverWait := true, pageIndex := 1024 } : Card).lookahead = .au 101 .erased ∧
    ({ chained .active with rolloverWait := true, pageIndex := 1024, lookahead := .theEnd } : Card).lookahead = .theEnd :=
  ⟨rfl, ⟨⟨rfl, rfl, .inl rfl, rfl⟩, rfl, rfl, by decide⟩, ⟨⟨rfl, rfl, .inr rfl, rfl⟩, by decide, by decide, rfl, by decide⟩, ⟨rfl, rfl⟩,
    (fun h => h.elim (fun ⟨_, h⟩ => absurd h.2.2.1 (by decide)) (fun ⟨_, h⟩ => by cases h.2.2.2.1)), by decide, by decide, rfl, rfl⟩

/-- A clip that loses a card with a page re-targeted and with none, a mirrored one, an ABORTED one, an armed recording whose card is
FULL, a room of 31 and 32 bytes that nothing fits, and a mirror at the end of one card (R26, R36 to R42). -/
def losing (pages : List PageRecord) : State :=
  withClip (fun c => { c with pages := pages }) (withCard (fun c => { c with phase := .pageWrite }) (relaying clip))
def mirroring (s : State) : State := (withClip (fun c => { c with mode := .mirror, targets := ⟨true, true⟩ }) s).setCard .b (chained .active)
def fullArmed : State :=
  withClip (fun c => { c with state := .armed, pages := [] })
    (withCard (fun c => { c with lookahead := .theEnd, rolloverWait := true, pageIndex := 1024 }) (relaying clip))
theorem witness_LostAndEndedCardsMoveOrEndTheClip :
    (running (losing [sealedPage, opened 64]) ∧ (losing [sealedPage, opened 64]).clip.closed = false ∧
      (losing [sealedPage, opened 64]).clip.targets.has .a = true ∧ ((losing []).card .a).phase = .pageWrite ∧
      ((losing []).card .a).state = .active ∧ ((losing []).card .b).state = .ready ∧ ((losing []).card .b).chain = .set ∧
      ((losing []).card .b).request = none ∧ sealedPage.target.has .a = true ∧ sealedPage.written.has .a = false) ∧
    ((mirroring clip).clip.mode = .mirror ∧ (mirroring clip).clip.targets = ⟨true, true⟩ ∧ clip.clip.mode = .singleA ∧
      clip.clip.targets = CardSet.only .a ∧ (clip.card .b).state ≠ .active) ∧
    (fullArmed.clip.state = .armed ∧ fullArmed.clip.pages = [] ∧ (fullArmed.card .a).rolloverWait = true ∧
      (fullArmed.card .a).lookahead = .theEnd ∧ (fullArmed.card .a).state = .active ∧ (fullArmed.card .a).detect = true) ∧
    (waitsCoded .a (relaying clip) ∧ ((relaying clip).card .a).detect = true ∧ ((relaying clip).card .a).state = .active ∧
      ((losing [sealedPage]).clip.pages ≠ [] ∧ (withClip (fun c => { c with closed := true }) (losing [sealedPage])).clip.closed = true) ∧
      (withClip (fun c => { c with state := .idle }) clip).clip.state = .idle ∧
      (withClip (fun c => { c with targets := ⟨false, true⟩ }) clip).clip.targets.has .a = false ∧
      (withClip (fun c => { c with mode := .mirror }) fullArmed).clip.targets = CardSet.only .a) ∧
    (chunkBoundary (ending 1 4065 (relaying (filled 255 clip))) ∧ roomIs (ending 1 4065 (relaying (filled 255 clip))) .a 31 ∧
      roomIs (ending 1 4064 (relaying clip)) .a 32 ∧ 32 ≤ 32 ∧ 31 < 32 + 16 * 255) ∧
    (chunkBoundary (mirroring (withClip (fun c => { c with pages := [sealedPage] }) (ending 1 4096 clip))) ∧
      1024 - 1023 ≤ 1 ∧ ∃ n e, ((mirroring clip).card .b).lookahead = .au n e) :=
  ⟨⟨rfl, by decide +kernel⟩, by decide +kernel, by decide +kernel,
    ⟨⟨nofun, nofun, nofun, nofun, nofun⟩, by decide +kernel⟩,
    ⟨⟨rfl, .inl rfl, rfl, rfl, rfl, rfl, fun h => absurd h (by decide +kernel)⟩, ⟨rfl, rfl, by decide +kernel⟩,
      ⟨rfl, rfl, by decide +kernel⟩, by decide⟩,
    ⟨rfl, .inl rfl, rfl, rfl, rfl, rfl, fun _ => by decide +kernel⟩, by decide, _, _, rfl⟩

/-- The relay that a FULL card brings is reported before the FULL of that card (R56, log 11). -/
theorem test_full_is_reported_last :
    afterwards (exec (.cardRollover .a) (withControl (fun c => { c with reportProducer := 64 }) fullArmed))
      (fun s => s.control.pendingNotices.map (·.notice))
    = some [.cardState .b .active .ready (some 100) 0 none, .cardState .a .full .active (some 100) 1024 none] := by decide +kernel

/-! ### Witnesses: the whole part -/

theorem witness_SoftResetReturnsEveryBlock :
    entryReturns (taken (backlog 1 { chained .active with phase := .pageWrite })) ∧
    ((taken (backlog 1 { chained .active with phase := .pageWrite })).card .a).phase = .pageWrite ∧
    ((taken (acard (chained .asleep))).card .a).phase ≠ .wake ∧ ((taken (acard { chained .asleep with phase := .wake })).card .a).phase = .wake :=
  ⟨entryReturns_taken _ rfl, rfl, by decide, rfl⟩

/-- Every list at its last place. -/
theorem witness_ListsKeepWithinTheirPlaces :
    placesKept (withTap (fun t => { t with entries := List.replicate 64 ⟨.key, 4981760, 9000, 1⟩ })
      (withAudio (fun a => { a with store := stored 8 }) (queued (entryOf 7 (.read 0 8) .waiting :: sevenWaiting) (unreadIs 64)))) ∧
    ∃ t, step ((unreadIs 64).setPending [.upstreamCompletion]) = .next t :=
  ⟨⟨by decide, by decide, by decide, by decide, by decide, by decide, fun _ => rfl, by decide⟩, _, rfl⟩

/-- A clip in RECORDING with VIDEO data in flight, a held write, an entry and one FILLING slot. -/
def keeping : State :=
  withPath (fun p => { p with
    queue := [entryOf 0 (.write 0x1C0000 (lanes 128)) .held], nextSerial := 1
    inFlight := [⟨.read 0x1C0000 128, .video 4980736 4980864 0⟩, ⟨.read 0x1C0080 128, .video 4980864 4980992 0⟩] })
    (withTap (fun t => { t with held := some heldWrite }) (withClip (fun c => { c with run := .video 4980992 4980736 5242880 }) indexed))

theorem ring_of_keeping {r : StreamRegion} (h : streamRegion keeping = some r) : r = ring :=
  (Option.some.inj ((by decide : streamRegion keeping = some ring).symm.trans h)).symm

theorem filling_of_keeping {i : Nat} {f : FrameRecord} (h : keeping.view.slots[i]? = some (.filling f)) : i = 1 := by
  match i with
  | 0 => cases h
  | 1 => rfl
  | 2 => cases h
  | n + 3 => cases h

theorem witness_StreamLawsAreKept :
    streamKept keeping ∧ ∃ t, step (keeping.setPending [.videoPayloadReadReturn (List.replicate 128 0)]) = .next t ∧ t.tap.ship = 4980864 := by
  refine ⟨⟨⟨by decide, rfl, fun r h => ?_, by decide, by decide, fun i j f g hi hj => ?_⟩, by decide, fun r h => ?_, fun h => ?_, fun h => ?_,
    ?_, by decide, fun i hi n h => ?_, fun w h => ?_⟩, _, rfl, by decide +kernel⟩
  · rw [ring_of_keeping h]; decide
  · rw [filling_of_keeping hi, filling_of_keeping hj]
  · rw [ring_of_keeping h]; decide
  · exact absurd h (by decide)
  · exact absurd h (by decide)
  · exact ⟨by decide, by decide, by decide, by decide, rfl, .inl rfl⟩
  · fin_cases hi <;> cases h
  · cases h
    exact ⟨by decide, _, List.mem_singleton.mpr rfl, rfl, by decide, by decide⟩

/-- The reads in flight that a SOFT_RESET discards, beside a host read and the unit's own (R43, R69, R72). -/
theorem test_softReset_discards :
    afterwards (exec (.softReset head) (taken keeping |>.setPath { (taken keeping).path with
        inFlight := (taken keeping).path.inFlight ++ keeping.path.inFlight ++
          [⟨.read 0 128, .audioPayload⟩, ⟨.read 0 32, .card .b⟩, ⟨.read 0 8, .host 0⟩, ⟨.write 0 [], .producerWord 3⟩] }))
      (fun s => s.path.inFlight.map Issued.dest)
      = some [.ignored, .ignored, .ignored, .ignored, .host 0, .producerWord 3] := by decide +kernel

/-- A SOFT_RESET answers its entry and asks for a status block. -/
theorem test_softReset :
    afterwards (exec (.softReset head) (taken (backlog 1 { chained .active with phase := .pageWrite })))
      (fun s => (s.control.consumer, s.control.writes.length, s.cardA.phase, s.clip.pages)) = some (1, 6, .drainPage, []) := by decide +kernel

/-- A clamped producer: the host announces twenty entries where sixteen fit (chapter 10). -/
theorem test_clamp_example :
    afterwards (exec .commandProducerWrite
      (withControl (fun c => { c with consumer := 40 }) (wordWaits 134217216 (producerLanes 60 0))))
      (fun s => (s.control.effectiveProducer, causePresent s .cmdRingOverrun)) = some (56, true) := by decide +kernel

end Sys2Proof.Tests
end

namespace Sys2Proof.Machine

/-! ### The machine in hard reset (R21, R43, R68, R85, R104, R120, R142, R162, R186, R204) -/

theorem condState_reset (c : Condition) : condState State.reset c = .clear := by
  simp [condState, State.reset, Control.reset]

/-- Settles O2: each block of `State.reset` is built of the stated values. -/
theorem resetHoldsTheStatedValues : Obligations.ResetHoldsTheStatedValues := by
  unfold Obligations.ResetHoldsTheStatedValues
  refine ⟨rfl, rfl, rfl, fun slot => ?_, rfl, rfl, rfl, rfl, rfl, rfl, fun c => ?_, rfl⟩
  · cases slot <;> rfl
  · exact ⟨condState_reset c, by rw [causePresent, condState_reset]; rfl⟩

/-- In hard reset no record of the Region Table is occupied (R85). -/
theorem regions_reset : regions State.reset = [] := by
  simp [regions, State.reset, Path.reset]

theorem streamRegion_reset : streamRegion State.reset = none := by
  simp [streamRegion, regions_reset]

/-- Settles O59: in hard reset every list of the invariants is empty and every count 0. -/
theorem invariantsHoldAtReset : Obligations.InvariantsHoldAtReset := by
  refine ⟨⟨fun _ i _ => ?_, fun i _ r hr => ?_, fun i _ _ _ r _ _ _ hr => ?_⟩, ⟨by decide, fun h => absurd h (by decide)⟩, ?_, ?_⟩
  · simp [State.reset, Path.reset]
  · simp [State.reset, Path.reset] at hr
  · simp [State.reset, Path.reset] at hr
  · refine ⟨?_, ?_, ?_, ?_, ?_, ?_, fun _ => rfl, ?_, .nil⟩ <;> decide
  · have hr : ∀ r, streamRegion State.reset ≠ some r := by simp [streamRegion_reset]
    have laws : streamLaws State.reset :=
      ⟨le_refl 0, rfl, fun r h => absurd h (hr r), .nil, fun _ he => absurd he List.not_mem_nil, fun _ _ _ _ h => nomatch h⟩
    have one : ((regions State.reset).filterMap Region.asStream).length ≤ 1 := by simp [regions_reset]
    exact ⟨laws, one, fun r h => absurd h (hr r), fun _ => rfl, fun _ => le_refl 0, rfl, fun _ he => absurd he List.not_mem_nil,
      fun _ hi => absurd hi List.not_mem_nil, fun _ h => by cases h⟩

end Sys2Proof.Machine

namespace Sys2Proof.Machine

/-! ### What the invariants of the lists and of the stream watch

Most rows of the table touch, of the fields that `placesKept` and `streamKept` speak of, only the report ring. `watch` gathers these
fields; a shared operation gets one lemma `watch_<operation>` saying that it leaves all of them alone. -/

/-- The serial of the host entry that a transaction in flight belongs to (R72). -/
def hostSerial (i : Issued) : Option Nat :=
  match i.dest with
  | .host n => some n
  | _ => none

/-- The serials of the host entries that have a transaction in flight, in issue order (R72). -/
def hostSerials (s : State) : List Nat := s.path.inFlight.filterMap hostSerial

/-- Where a VIDEO payload read in flight ends (R33). -/
def videoEnd (i : Issued) : Option Nat :=
  match i.dest with
  | .video _ stop _ => some stop
  | _ => none

theorem videoEnds_eq (s : State) : videoEnds s = s.path.inFlight.filterMap videoEnd := rfl

/-- The unread notices fit the report ring, and one notice of a kind and source pends (R193, R195). -/
def noticesKept (s : State) : Prop :=
  unread s ≤ 64 ∧
    s.control.pendingNotices.Pairwise fun p q => ¬(p.notice.kind = q.notice.kind ∧ p.notice.source = q.notice.source)

/-- The fields of the state that the two invariants speak of. -/
structure Watched where
  queue : List QueueEntry
  regions : Vector (Option Region) 8
  nextSerial : Nat
  hostGrants : Nat
  videoEnds : List Nat
  hostSerials : List Nat
  cursor : Nat
  floor : Nat
  ship : Nat
  entries : List Entry
  held : Option StreamWrite
  recording : RecState
  stopPos : Nat
  run : PayloadRun
  closed : Bool
  slots : List SlotRecord
  store : List StoredFrame
  link : LinkState
  messagePlaces : Nat
  messages : List QueueMessage
  notices : Prop

def watch (s : State) : Watched :=
  { queue := s.path.queue, regions := s.path.regions, nextSerial := s.path.nextSerial, hostGrants := s.path.hostGrants
    videoEnds := videoEnds s, hostSerials := hostSerials s
    cursor := s.tap.cursor, floor := s.tap.floor, ship := s.tap.ship, entries := s.tap.entries, held := s.tap.held
    recording := s.clip.state, stopPos := s.clip.stopPos, run := s.clip.run, closed := s.clip.closed
    slots := s.view.slots, store := s.audio.store
    link := s.acc.link, messagePlaces := s.acc.q, messages := s.acc.queue, notices := noticesKept s }

variable (s : State)

/-! #### Setters -/

@[simp] theorem watch_setPending (v : List Instr) : watch (s.setPending v) = watch s := rfl
@[simp] theorem watch_setNow (v : Nat) : watch (s.setNow v) = watch s := rfl
@[simp] theorem watch_setMotion (v : Motion) : watch (s.setMotion v) = watch s := rfl
@[simp] theorem watch_setZoom (v : Zoom) : watch (s.setZoom v) = watch s := rfl
@[simp] theorem watch_setCard (x : CardSlot) (v : Card) : watch (s.setCard x v) = watch s := by cases x <;> rfl

variable {s}

theorem watch_setControl {v : Control} (hr : v.reportProducer = s.control.reportProducer)
    (hp : v.pendingNotices = s.control.pendingNotices) : watch (s.setControl v) = watch s := by
  simp [watch, noticesKept, unread, hr, hp, videoEnds, hostSerials]

theorem watch_setTap {v : Tap} (hc : v.cursor = s.tap.cursor) (hf : v.floor = s.tap.floor) (hs : v.ship = s.tap.ship)
    (he : v.entries = s.tap.entries) (hh : v.held = s.tap.held) : watch (s.setTap v) = watch s := by
  simp [watch, noticesKept, unread, videoEnds, hostSerials, hc, hf, hs, he, hh]

theorem watch_setClip {v : Clip} (hs : v.state = s.clip.state) (hp : v.stopPos = s.clip.stopPos) (hr : v.run = s.clip.run)
    (hc : v.closed = s.clip.closed) : watch (s.setClip v) = watch s := by
  simp [watch, noticesKept, unread, videoEnds, hostSerials, hs, hp, hr, hc]

theorem watch_setView {v : View} (h : v.slots = s.view.slots) : watch (s.setView v) = watch s := by
  simp [watch, noticesKept, unread, videoEnds, hostSerials, h]

theorem watch_setAudio {v : Audio} (h : v.store = s.audio.store) : watch (s.setAudio v) = watch s := by
  simp [watch, noticesKept, unread, videoEnds, hostSerials, h]

theorem watch_setAcc {v : Acc} (hl : v.link = s.acc.link) (hq : v.q = s.acc.q) (hm : v.queue = s.acc.queue) :
    watch (s.setAcc v) = watch s := by
  simp [watch, noticesKept, unread, videoEnds, hostSerials, hl, hq, hm]

variable (s)

@[simp] theorem watch_updateCard (x : CardSlot) (f : Card → Card) : watch (updateCard x f s) = watch s := by simp [updateCard]

/-! #### Notices -/

theorem sameSource_iff (m n : Notice) : sameSource m n = true ↔ m.kind = n.kind ∧ m.source = n.source := by
  simp [sameSource]

/-- Where a notice pends already, its kind and source stay listed in their place; else they join the tail (R195). -/
theorem pendNotice_sources (p : StampedNotice) (l : List StampedNotice) :
    (pendNotice p l).map (fun q => (q.notice.kind, q.notice.source)) =
      if (p.notice.kind, p.notice.source) ∈ l.map (fun q => (q.notice.kind, q.notice.source))
      then l.map fun q => (q.notice.kind, q.notice.source)
      else l.map (fun q => (q.notice.kind, q.notice.source)) ++ [(p.notice.kind, p.notice.source)] := by
  induction l with
  | nil => simp [pendNotice]
  | cons q rest ih =>
    unfold pendNotice
    by_cases h : sameSource q.notice p.notice = true
    · obtain ⟨hk, hs⟩ := (sameSource_iff _ _).mp h
      simp [h, hk, hs]
    · have hne : (p.notice.kind, p.notice.source) ≠ (q.notice.kind, q.notice.source) := fun e => by
        rw [Prod.mk.injEq] at e
        exact h ((sameSource_iff _ _).mpr ⟨e.1.symm, e.2.symm⟩)
      rw [if_neg h, List.map_cons, ih, List.map_cons]
      simp only [List.mem_cons, hne, false_or]
      split <;> simp

theorem pairwise_sources_iff (l : List StampedNotice) :
    (l.Pairwise fun p q => ¬(p.notice.kind = q.notice.kind ∧ p.notice.source = q.notice.source)) ↔
      (l.map fun q => (q.notice.kind, q.notice.source)).Nodup := by
  rw [List.Nodup, List.pairwise_map]
  simp only [ne_eq, Prod.mk.injEq]

/-- A pending notice of each kind and source stays one (R195). -/
theorem pairwise_pendNotice (p : StampedNotice) (l : List StampedNotice) :
    ((pendNotice p l).Pairwise fun p q => ¬(p.notice.kind = q.notice.kind ∧ p.notice.source = q.notice.source)) ↔
      l.Pairwise fun p q => ¬(p.notice.kind = q.notice.kind ∧ p.notice.source = q.notice.source) := by
  rw [pairwise_sources_iff, pairwise_sources_iff, pendNotice_sources]
  split
  · rfl
  · rename_i h
    rw [List.nodup_append]
    simp only [List.nodup_cons, List.not_mem_nil, not_false_eq_true, List.nodup_nil, and_self, true_and, List.mem_singleton,
      and_iff_left_iff_imp]
    rintro - x hx y rfl rfl
    exact h hx

@[simp] theorem writeRing_reportProducer (bytes : List Byte) :
    (writeRing bytes s).control.reportProducer = s.control.reportProducer + 1 := rfl
@[simp] theorem writeRing_pendingNotices (bytes : List Byte) :
    (writeRing bytes s).control.pendingNotices = s.control.pendingNotices := rfl
@[simp] theorem writeNotice_reportProducer (p : StampedNotice) :
    (writeNotice p s).control.reportProducer = s.control.reportProducer + 1 := by simp [writeNotice]
@[simp] theorem writeNotice_pendingNotices (p : StampedNotice) :
    (writeNotice p s).control.pendingNotices = s.control.pendingNotices := by simp [writeNotice]

/-- A write into the ring takes one of the free places (R193, R194). -/
theorem unread_succ {s t : State} (hr : t.control.reportProducer = s.control.reportProducer + 1)
    (hc : t.path.consumerCopy = s.path.consumerCopy) (h : unread s < 64) : unread t = unread s + 1 := by
  unfold unread at h ⊢
  rw [hr, hc]
  bv_omega

@[simp] theorem setTapCount_cursor (v : Word16) (src : TapSource) : (setTapCount s v src).tap.cursor = s.tap.cursor := by
  cases src <;> rfl
@[simp] theorem setTapCount_floor (v : Word16) (src : TapSource) : (setTapCount s v src).tap.floor = s.tap.floor := by
  cases src <;> rfl
@[simp] theorem setTapCount_ship (v : Word16) (src : TapSource) : (setTapCount s v src).tap.ship = s.tap.ship := by
  cases src <;> rfl
@[simp] theorem setTapCount_entries (v : Word16) (src : TapSource) : (setTapCount s v src).tap.entries = s.tap.entries := by
  cases src <;> rfl
@[simp] theorem setTapCount_held (v : Word16) (src : TapSource) : (setTapCount s v src).tap.held = s.tap.held := by
  cases src <;> rfl

@[simp] theorem watch_setTapCount (v : Word16) (src : TapSource) : watch (setTapCount s v src) = watch s := by
  cases src <;> rfl

/-- A notice takes a free place of the ring, or pends: the ring stays within its places and the pending list keeps one notice of a
kind and source (R193, R195). -/
@[simp] theorem noticesKept_postNotice (n : Notice) : noticesKept (postNotice n s) ↔ noticesKept s := by
  unfold postNotice
  by_cases h : unread s < Config.reportRingCap
  · have hu := unread_succ (t := writeNotice ⟨n, s.view.frameCount, 0⟩ s) (by simp) (by simp) h
    have hlt : unread s < 64 := h
    simp only [h, if_true, noticesKept, hu, writeNotice_pendingNotices]
    exact and_congr_left fun _ => by omega
  · simp only [h, if_false, noticesKept]
    exact and_congr Iff.rfl (pairwise_pendNotice _ _)

@[simp] theorem watch_clearNoticeCount (n : Notice) : watch (clearNoticeCount n s) = watch s := by
  unfold clearNoticeCount
  split <;> simp

/-- Two states that differ in the Command and Notice Unit alone are watched alike as soon as both keep their notices. -/
theorem watch_eq_of_notices {t : State} (v : Control) (ht : watch t = watch (s.setControl v))
    (hn : noticesKept t ↔ noticesKept s) : watch t = watch s := by
  have e : watch (s.setControl v) = { watch s with notices := noticesKept (s.setControl v) } := rfl
  have hv : noticesKept (s.setControl v) = noticesKept s :=
    (congrArg Watched.notices ht).symm.trans (propext hn)
  rw [ht, e, hv]
  rfl

@[simp] theorem watch_postNotice (n : Notice) : watch (postNotice n s) = watch s := by
  refine watch_eq_of_notices s (postNotice n s).control ?_ (noticesKept_postNotice s n)
  unfold postNotice
  split
  · rw [writeNotice, watch_clearNoticeCount, clearNoticeCount_control]
    rfl
  · rfl

@[simp] theorem watch_presentWrite (w : ReportWrite) : watch (presentWrite w s) = watch s := rfl
@[simp] theorem watch_setCondState (c : Condition) (v : CondState) : watch (setCondState s c v) = watch s := rfl
@[simp] theorem watch_endCause (c : Condition) : watch (endCause c s) = watch s := rfl
@[simp] theorem watch_startCause (c : Condition) : watch (startCause c s) = watch s := by
  unfold startCause
  split
  · rfl
  · split <;> simp
@[simp] theorem watch_report (r : Report) : watch (report s r) = watch s := by cases r <;> simp [report]
@[simp] theorem watch_reports (rs : List Report) : watch (reports rs s) = watch s := by
  induction rs generalizing s with
  | nil => rfl
  | cons r rest ih => exact (ih (report s r)).trans (watch_report s r)
@[simp] theorem watch_tapEvent (src : TapSource) (offset skipped : Nat) : watch (tapEvent src offset skipped s) = watch s := by
  simp [tapEvent]
@[simp] theorem watch_overrunEndTest : watch (overrunEndTest s) = watch s := by
  unfold overrunEndTest
  split
  · rfl
  · split <;> simp

/-! #### The status block, commands and time -/

@[simp] theorem watch_takeSnapshot : watch (takeSnapshot s) = watch s := rfl
@[simp] theorem watch_requestStatus : watch (requestStatus s) = watch s := by
  unfold requestStatus
  split <;> rfl
@[simp] theorem watch_presentEntryRead : watch (presentEntryRead s) = watch s := by
  unfold presentEntryRead
  split <;> rfl
@[simp] theorem watch_finishCommand (r : Result) : watch (finishCommand r s) = watch s := by
  simp only [finishCommand, watch_presentEntryRead]
  rfl
@[simp] theorem watch_advanceTime (dt : Nat) : watch (advanceTime dt s) = watch s := rfl

/-! #### Cards -/

@[simp] theorem watch_setCardState (x : CardSlot) (new : CardState) : watch (setCardState x new s) = watch s := by
  unfold setCardState
  dsimp only
  split
  · rfl
  · rw [watch_postNotice]
    split <;> simp
@[simp] theorem watch_makeActive (x : CardSlot) : watch (makeActive x s) = watch s := by simp [makeActive]
@[simp] theorem watch_continueErase (x : CardSlot) : watch (continueErase x s) = watch s := by
  unfold continueErase
  dsimp only
  split
  · split <;> simp
  · rfl
@[simp] theorem watch_leaveActive (x : CardSlot) (new : CardState) : watch (leaveActive x new s) = watch s := by
  simp [leaveActive]
@[simp] theorem watch_releaseCard (x : CardSlot) : watch (releaseCard x s) = watch s := by
  unfold releaseCard
  split <;> simp
@[simp] theorem watch_releaseDrainedCard (x : CardSlot) : watch (releaseDrainedCard x s) = watch s := by
  unfold releaseDrainedCard
  split <;> simp
@[simp] theorem watch_releaseDrained : watch (releaseDrained s) = watch s := by simp [releaseDrained]
@[simp] theorem watch_dropDone : watch (dropDone s) = watch s := watch_setClip rfl rfl rfl rfl
@[simp] theorem watch_pageReport (x : CardSlot) (mark : PageRecord → PageRecord) : watch (pageReport x mark s) = watch s := by
  simp only [pageReport, watch_dropDone]
  exact watch_setClip rfl rfl rfl rfl

/-- Abandoning reads changes no list of what waits for completions, where nothing on the list is abandoned (R72). -/
theorem filterMap_abandonReads {α : Type} {f : Issued → Option α} {lost : Destination → Bool}
    (h0 : ∀ {t}, f ⟨t, .ignored⟩ = none) (hf : ∀ i : Issued, lost i.dest = true → f i = none) :
    (abandonReads s lost).path.inFlight.filterMap f = s.path.inFlight.filterMap f := by
  simp only [abandonReads, State.setPath_path, List.filterMap_map]
  refine List.filterMap_congr fun i _ => ?_
  by_cases hl : lost i.dest = true
  · simp [hl, hf i hl, h0]
  · simp [hl]

theorem watch_abandonReads {lost : Destination → Bool} (hh : ∀ i : Issued, lost i.dest = true → hostSerial i = none)
    (hv : ∀ i : Issued, lost i.dest = true → videoEnd i = none) : watch (abandonReads s lost) = watch s := by
  have hvideo : videoEnds (abandonReads s lost) = videoEnds s := by
    rw [videoEnds_eq, videoEnds_eq]
    exact filterMap_abandonReads s rfl hv
  have hhost : hostSerials (abandonReads s lost) = hostSerials s := filterMap_abandonReads s rfl hh
  simp only [watch, hvideo, hhost]
  rfl

@[simp] theorem watch_dropFetch (x : CardSlot) : watch (dropFetch x s) = watch s := by
  simp only [dropFetch, watch_updateCard]
  refine watch_abandonReads s (fun i h => ?_) fun i h => ?_
  · simp [hostSerial, eq_of_beq h]
  · simp [videoEnd, eq_of_beq h]
@[simp] theorem watch_dropChain (x : CardSlot) : watch (dropChain x s) = watch s := by simp [dropChain]
@[simp] theorem watch_fetchGroup (x : CardSlot) (addr : Nat) : watch (fetchGroup x addr s) = watch s := by simp [fetchGroup]
@[simp] theorem watch_lookaheadResolved (x : CardSlot) (l : Lookahead) : watch (lookaheadResolved x l s) = watch s := by
  unfold lookaheadResolved
  dsimp only
  split <;> simp
@[simp] theorem watch_chainEmpty (x : CardSlot) : watch (chainEmpty x s) = watch s := by
  unfold chainEmpty
  dsimp only
  split <;> simp
@[simp] theorem watch_walkEnds (x : CardSlot) : watch (walkEnds x s) = watch s := by
  unfold walkEnds
  split <;> simp
@[simp] theorem watch_chainBad (x : CardSlot) (d : Descriptor) : watch (chainBad x d s) = watch s := by simp [chainBad]
@[simp] theorem watch_walk (x : CardSlot) (fuel : Nat) : watch (walk x fuel s) = watch s := by
  induction fuel generalizing s with
  | zero => rfl
  | succ fuel ih =>
    unfold walk
    dsimp only
    split
    · rfl
    · split
      · simp
      · split
        · simp
        · split
          · split <;> simp [ih]
          all_goals simp
@[simp] theorem watch_resolveLookahead (x : CardSlot) : watch (resolveLookahead x s) = watch s := by simp [resolveLookahead]
@[simp] theorem watch_sendSleep (x : CardSlot) : watch (sendSleep x s) = watch s := by simp [sendSleep]
@[simp] theorem watch_sendEject (x : CardSlot) : watch (sendEject x s) = watch s := by simp [sendEject]
@[simp] theorem watch_runRequest (x : CardSlot) : watch (runRequest x s) = watch s := by
  unfold runRequest
  split <;> simp
@[simp] theorem watch_drainNext (x : CardSlot) : watch (drainNext x s) = watch s := by
  unfold drainNext
  dsimp only
  split <;> simp
@[simp] theorem watch_afterErase (x : CardSlot) : watch (afterErase x s) = watch s := by
  unfold afterErase
  split <;> simp
@[simp] theorem watch_auBad (x : CardSlot) (au : Word16) : watch (auBad x au s) = watch s := by simp [auBad]
@[simp] theorem watch_presentClipRead : watch (presentClipRead s) = watch s := by
  unfold presentClipRead
  split
  · rfl
  · split
    · exact watch_setClip rfl rfl rfl rfl
    · rfl

end Sys2Proof.Machine

namespace Sys2Proof.Machine

/-! ### The two invariants part by part

`placesKept` and `streamKept` are properties of what is watched. Of `streamKept` three parts are told apart: the span of the ring and the
reads of the VIDEO chunk, which an operation may break for a moment, and the rest. -/

/-- A step from `s` to `t` keeps both invariants. -/
def keeps (s t : State) : Prop := (placesKept s → placesKept t) ∧ (streamKept s → streamKept t)

/-- The laws of `streamKept` but for the span of the ring and the reads of the VIDEO chunk. -/
structure StreamFrame (s : State) : Prop where
  order : s.tap.floor ≤ s.tap.cursor
  shipped : s.tap.ship = s.tap.floor
  rising : s.tap.entries.Pairwise fun e f => e.pos < f.pos
  inside : ∀ e ∈ s.tap.entries, s.tap.floor ≤ e.pos ∧ e.pos < s.tap.cursor
  filling : ∀ (i j : Nat) f g, s.view.slots[i]? = some (.filling f) → s.view.slots[j]? = some (.filling g) → i = j
  oneStream : ((regions s).filterMap Region.asStream).length ≤ 1
  sized : ∀ r, streamRegion s = some r → 0 < r.size ∧ r.prerecordBytes ≤ r.size
  idle : streamRegion s = none → s.clip.state = .idle
  stopped : s.clip.state = .stopping → s.clip.stopPos ≤ s.tap.cursor
  taken : ∀ e ∈ s.path.queue, e.serial < s.path.nextSerial
  flying : ∀ n ∈ hostSerials s, n < s.path.nextSerial
  hold : ∀ w, s.tap.held = some w → s.tap.cursor ≤ w.newCursor ∧
    ∃ e ∈ s.path.queue, e.progress = .held ∧ (∀ f ∈ s.path.queue, f.serial = e.serial → f.progress = .held) ∧
      e.serial ∉ hostSerials s

/-- The retained span fits the STREAM region (R3). -/
def spanFits (s : State) : Prop := ∀ r, streamRegion s = some r → s.tap.cursor ≤ s.tap.floor + r.size

theorem mem_hostSerials {s : State} {n : Nat} : n ∈ hostSerials s ↔ ∃ i ∈ s.path.inFlight, i.dest = .host n := by
  simp only [hostSerials, List.mem_filterMap]
  refine exists_congr fun i => and_congr_right fun _ => ?_
  obtain ⟨t, d⟩ := i
  cases d <;> simp [hostSerial]

theorem streamKept_iff {s : State} : streamKept s ↔ StreamFrame s ∧ spanFits s ∧ videoReadsKept s := by
  have fly : (∀ i ∈ s.path.inFlight, ∀ n, i.dest = .host n → n < s.path.nextSerial) ↔
      ∀ n ∈ hostSerials s, n < s.path.nextSerial := by
    simp only [mem_hostSerials]
    exact ⟨fun h n ⟨i, hi, hn⟩ => h i hi n hn, fun h i hi n hn => h n ⟨i, hi, hn⟩⟩
  have off : ∀ n, (∀ i ∈ s.path.inFlight, i.dest ≠ .host n) ↔ n ∉ hostSerials s := fun n => by
    simp [mem_hostSerials]
  constructor
  · rintro ⟨⟨order, shipped, span, rising, inside, filling⟩, one, sized, idle, stopped, video, taken, flying, hold⟩
    refine ⟨⟨order, shipped, rising, inside, filling, one, sized, idle, stopped, taken, fly.mp flying, fun w hw => ?_⟩, span, video⟩
    obtain ⟨hc, e, he, hp, hs, hf⟩ := hold w hw
    exact ⟨hc, e, he, hp, hs, (off _).mp hf⟩
  · rintro ⟨h, span, video⟩
    refine ⟨⟨h.order, h.shipped, span, h.rising, h.inside, h.filling⟩, h.oneStream, h.sized, h.idle, h.stopped, video, h.taken,
      fly.mpr h.flying, fun w hw => ?_⟩
    obtain ⟨hc, e, he, hp, hs, hf⟩ := h.hold w hw
    exact ⟨hc, e, he, hp, hs, (off _).mpr hf⟩

theorem placesKept_iff {s : State} : placesKept s ↔
    s.path.queue.length ≤ 8 ∧ s.path.hostGrants ≤ 8 ∧ s.tap.entries.length ≤ 64 ∧ s.audio.store.length ≤ 8 ∧
      (s.acc.queue.length ≤ s.acc.q ∧ s.acc.q ≤ 8 ∧ (s.acc.link ≠ .running → s.acc.queue = [])) ∧ noticesKept s := by
  simp only [placesKept, noticesKept, unread, and_assoc]

/-! #### States that are watched alike -/

section
variable {s t : State} (h : watch t = watch s)
include h

theorem queue_of_watch : t.path.queue = s.path.queue := congrArg Watched.queue h
theorem nextSerial_of_watch : t.path.nextSerial = s.path.nextSerial := congrArg Watched.nextSerial h
theorem hostSerials_of_watch : hostSerials t = hostSerials s := congrArg Watched.hostSerials h
theorem videoEnds_of_watch : videoEnds t = videoEnds s := congrArg Watched.videoEnds h
theorem cursor_of_watch : t.tap.cursor = s.tap.cursor := congrArg Watched.cursor h
theorem floor_of_watch : t.tap.floor = s.tap.floor := congrArg Watched.floor h
theorem ship_of_watch : t.tap.ship = s.tap.ship := congrArg Watched.ship h
theorem entries_of_watch : t.tap.entries = s.tap.entries := congrArg Watched.entries h
theorem held_of_watch : t.tap.held = s.tap.held := congrArg Watched.held h
theorem recording_of_watch : t.clip.state = s.clip.state := congrArg Watched.recording h
theorem stopPos_of_watch : t.clip.stopPos = s.clip.stopPos := congrArg Watched.stopPos h
theorem run_of_watch : t.clip.run = s.clip.run := congrArg Watched.run h
theorem closed_of_watch : t.clip.closed = s.clip.closed := congrArg Watched.closed h
theorem slots_of_watch : t.view.slots = s.view.slots := congrArg Watched.slots h
theorem regions_of_watch : regions t = regions s := by
  rw [regions, regions, show t.path.regions = s.path.regions from congrArg Watched.regions h]
theorem streamRegion_of_watch : streamRegion t = streamRegion s := by rw [streamRegion, streamRegion, regions_of_watch h]
theorem assembled_of_watch : assembled t = assembled s := by
  unfold assembled
  rw [recording_of_watch h, stopPos_of_watch h, ship_of_watch h]

theorem StreamFrame.of_watch (k : StreamFrame s) : StreamFrame t := by
  constructor
  · rw [floor_of_watch h, cursor_of_watch h]; exact k.order
  · rw [floor_of_watch h, ship_of_watch h]; exact k.shipped
  · rw [entries_of_watch h]; exact k.rising
  · rw [entries_of_watch h, floor_of_watch h, cursor_of_watch h]; exact k.inside
  · rw [slots_of_watch h]; exact k.filling
  · rw [regions_of_watch h]; exact k.oneStream
  · rw [streamRegion_of_watch h]; exact k.sized
  · rw [streamRegion_of_watch h, recording_of_watch h]; exact k.idle
  · rw [recording_of_watch h, stopPos_of_watch h, cursor_of_watch h]; exact k.stopped
  · rw [queue_of_watch h, nextSerial_of_watch h]; exact k.taken
  · rw [hostSerials_of_watch h, nextSerial_of_watch h]; exact k.flying
  · rw [held_of_watch h, cursor_of_watch h, queue_of_watch h, hostSerials_of_watch h]; exact k.hold

theorem spanFits_of_watch (k : spanFits s) : spanFits t := by
  unfold spanFits
  rw [streamRegion_of_watch h, cursor_of_watch h, floor_of_watch h]
  exact k

theorem placesKept_of_watch (k : placesKept s) : placesKept t := by
  rw [placesKept_iff] at k ⊢
  rw [queue_of_watch h, entries_of_watch h, show t.path.hostGrants = s.path.hostGrants from congrArg Watched.hostGrants h,
    show t.audio.store = s.audio.store from congrArg Watched.store h, show t.acc.queue = s.acc.queue from congrArg Watched.messages h,
    show t.acc.q = s.acc.q from congrArg Watched.messagePlaces h, show t.acc.link = s.acc.link from congrArg Watched.link h,
    show noticesKept t = noticesKept s from congrArg Watched.notices h]
  exact k
end

/-- The reads of a VIDEO chunk stay in order while the chunk and its reads are the same, its clip goes on and cursor does not fall
(R33). -/
theorem videoReadsKept_of {s t : State} (hr : t.clip.run = s.clip.run)
    (hs : s.clip.state = .recording ∨ s.clip.state = .stopping → t.clip.state = .recording ∨ t.clip.state = .stopping)
    (hl : t.clip.closed = s.clip.closed) (he : videoEnds t = videoEnds s) (hc : s.tap.cursor ≤ t.tap.cursor)
    (k : videoReadsKept s) : videoReadsKept t := by
  unfold videoReadsKept at k ⊢
  rw [hr, hl, he]
  split at k
  · obtain ⟨hn, hlast, hrise, hnext, hopen, hstate⟩ := k
    exact ⟨hn, hlast.trans hc, hrise, hnext, hopen, hs hstate⟩
  · exact k

theorem videoReadsKept_of_watch {s t : State} (h : watch t = watch s) (k : videoReadsKept s) : videoReadsKept t :=
  videoReadsKept_of (run_of_watch h) (fun k => by rwa [recording_of_watch h]) (closed_of_watch h) (videoEnds_of_watch h) (cursor_of_watch h).ge k

/-- No VIDEO chunk is in progress. -/
def noVideo (s : State) : Prop := ∀ next back last, s.clip.run ≠ .video next back last

/-- Outside a VIDEO chunk none of its payload reads is in flight (R33). -/
theorem videoEnds_eq_nil {s : State} (k : videoReadsKept s) (h : noVideo s) : videoEnds s = [] := by
  unfold videoReadsKept at k
  split at k
  · rename_i hrun
    exact absurd hrun (h _ _ _)
  · exact k

/-- Before a clip, and once its last chunk has been issued, no VIDEO chunk is in progress (R33). -/
theorem noVideo_of {s : State} (k : videoReadsKept s)
    (h : s.clip.closed = true ∨ s.clip.state = .idle ∨ s.clip.state = .armed) : noVideo s := by
  intro next back last hrun
  unfold videoReadsKept at k
  rw [hrun] at k
  obtain ⟨-, -, -, -, hopen, hstate⟩ := k
  rcases h with h | h | h
  · simp [hopen] at h
  · simp [h] at hstate
  · simp [h] at hstate

/-- With no VIDEO payload read in flight and no VIDEO chunk in progress the law of its reads holds. -/
theorem videoReadsKept_of_nil {s : State} (hr : noVideo s) (he : videoEnds s = []) :
    videoReadsKept s := by
  unfold videoReadsKept
  split
  · rename_i hrun
    exact absurd hrun (hr _ _ _)
  · exact he

theorem streamKept_of_watch {s t : State} (h : watch t = watch s) (k : streamKept s) : streamKept t := by
  obtain ⟨frame, span, video⟩ := streamKept_iff.mp k
  exact streamKept_iff.mpr ⟨frame.of_watch h, spanFits_of_watch h span, videoReadsKept_of_watch h video⟩

theorem keeps_of_watch {s t : State} (h : watch t = watch s) : keeps s t := ⟨placesKept_of_watch h, streamKept_of_watch h⟩
theorem keeps_refl (s : State) : keeps s s := ⟨id, id⟩
theorem keeps.trans {s t u : State} (h : keeps s t) (k : keeps t u) : keeps s u := ⟨k.1 ∘ h.1, k.2 ∘ h.2⟩
/-- What follows a step and leaves the watched fields alone keeps both invariants too. -/
theorem keeps.watched {s t u : State} (h : keeps s t) (k : watch u = watch t) : keeps s u := h.trans (keeps_of_watch k)

/-! #### Positions (R3 to R15) -/

/-- Cursor is at `c`, floor and ship have jumped to `f`, and the entries below it have left. -/
def jumped (f c : Nat) (s : State) : State :=
  s.setTap { s.tap with cursor := c, floor := f, ship := f, entries := entriesFrom f s.tap.entries }

/-- What happens to a write that is forwarded: the stream and the entries move on, and the watched rest is as it was. -/
theorem StreamFrame.jumped {s : State} (k : StreamFrame s) {f c : Nat} (hfc : f ≤ c)
    (hc : s.tap.cursor ≤ c) (hold : s.tap.held = none ∨ c = s.tap.cursor) : StreamFrame (jumped f c s) where
  order := hfc
  shipped := rfl
  rising := k.rising.filter _
  inside e he := by
    obtain ⟨hm, hp⟩ := List.mem_filter.mp he
    exact ⟨of_decide_eq_true hp, (k.inside e hm).2.trans_le hc⟩
  filling := k.filling
  oneStream := k.oneStream
  sized := k.sized
  idle := k.idle
  stopped h := (k.stopped h).trans hc
  taken := k.taken
  flying := k.flying
  hold w hw := by
    obtain ⟨hle, hq⟩ := k.hold w hw
    rcases hold with h | h
    · exact absurd (h.symm.trans hw) (by simp)
    · exact ⟨h.trans_le hle, hq⟩

theorem videoReadsKept_jumped {s : State} {f c : Nat} (hc : s.tap.cursor ≤ c) (k : videoReadsKept s) :
    videoReadsKept (jumped f c s) :=
  videoReadsKept_of (s := s) rfl id rfl rfl hc k

theorem placesKept_jumped {s : State} {f c : Nat} (k : placesKept s) : placesKept (jumped f c s) := by
  rw [placesKept_iff] at k ⊢
  obtain ⟨hq, hg, he, hrest⟩ := k
  exact ⟨hq, hg, (List.length_filter_le _ _).trans he, hrest⟩

/-- The position to which floor is recomputed while no clip is assembled (R4). -/
def restingFloor (s : State) (r : StreamRegion) : Nat := max s.tap.floor (s.tap.cursor - retainedSpan s.clip.state r)

theorem recomputeFloor_of_assembled {s : State} (h : assembled s = true) : recomputeFloor s = s := by
  simp [recomputeFloor, h]
theorem recomputeFloor_of_none {s : State} (h : streamRegion s = none) : recomputeFloor s = s := by
  simp [recomputeFloor, h]
theorem recomputeFloor_of_resting {s : State} {r : StreamRegion} (h : assembled s = false) (hr : streamRegion s = some r) :
    recomputeFloor s = jumped (restingFloor s r) s.tap.cursor s := by
  simp [recomputeFloor, h, hr, jumped, restingFloor]

/-- The three cases of R4. -/
theorem recomputeFloor_cases (s : State) : recomputeFloor s = s ∧ (assembled s = true ∨ streamRegion s = none) ∨
    ∃ r, assembled s = false ∧ streamRegion s = some r ∧ recomputeFloor s = jumped (restingFloor s r) s.tap.cursor s := by
  cases ha : assembled s
  · cases hr : streamRegion s with
    | none => exact .inl ⟨recomputeFloor_of_none hr, .inr rfl⟩
    | some r => exact .inr ⟨r, rfl, rfl, recomputeFloor_of_resting ha hr⟩
  · exact .inl ⟨recomputeFloor_of_assembled ha, .inl rfl⟩

theorem watch_jumped {s t : State} (h : watch t = watch s) (f c : Nat) : watch (jumped f c t) = watch (jumped f c s) := by
  have e : ∀ u : State, watch (jumped f c u) =
      { watch u with cursor := c, floor := f, ship := f, entries := entriesFrom f (watch u).entries } := fun _ => rfl
  rw [e, e, h]

/-- Recomputing floor gives the same of two states that are watched alike. -/
theorem watch_recomputeFloor {s t : State} (h : watch t = watch s) : watch (recomputeFloor t) = watch (recomputeFloor s) := by
  rcases recomputeFloor_cases s with ⟨e, hs⟩ | ⟨r, ha, hr, e⟩
  · have et : recomputeFloor t = t := by
      rcases hs with hs | hs
      · exact recomputeFloor_of_assembled ((assembled_of_watch h).trans hs)
      · exact recomputeFloor_of_none ((streamRegion_of_watch h).trans hs)
    rw [e, et, h]
  · have hf : restingFloor t r = restingFloor s r := by
      unfold restingFloor
      rw [floor_of_watch h, cursor_of_watch h, recording_of_watch h]
    rw [e, recomputeFloor_of_resting ((assembled_of_watch h).trans ha) ((streamRegion_of_watch h).trans hr), hf, cursor_of_watch h]
    exact watch_jumped h _ _

theorem StreamFrame.recomputeFloor {s : State} (k : StreamFrame s) : StreamFrame (recomputeFloor s) := by
  rcases recomputeFloor_cases s with ⟨e, -⟩ | ⟨r, -, -, e⟩ <;> rw [e]
  · exact k
  · exact k.jumped (max_le k.order (Nat.sub_le _ _)) le_rfl (.inr rfl)

theorem retainedSpan_le {st : RecState} {r : StreamRegion} (h : r.prerecordBytes ≤ r.size) : retainedSpan st r ≤ r.size := by
  cases st <;> simp [retainedSpan, h]

/-- Recomputed, floor leaves no more than the ring's size behind cursor (R4). -/
theorem spanFits_recomputeFloor {s : State} (k : StreamFrame s) (h : assembled s = true → spanFits s) :
    spanFits (recomputeFloor s) := by
  rcases recomputeFloor_cases s with ⟨e, hs⟩ | ⟨r, ha, hr, e⟩ <;> rw [e]
  · rcases hs with hs | hs
    · exact h hs
    · intro r hr
      simp [hs] at hr
  · intro q hq
    obtain rfl : r = q := Option.some.inj (hr.symm.trans hq)
    have hspan := retainedSpan_le (st := s.clip.state) (k.sized r hr).2
    simp only [jumped, State.setTap_tap, restingFloor]
    omega

theorem placesKept_recomputeFloor {s : State} (k : placesKept s) : placesKept (recomputeFloor s) := by
  rcases recomputeFloor_cases s with ⟨e, -⟩ | ⟨r, -, -, e⟩ <;> rw [e]
  · exact k
  · exact placesKept_jumped k

theorem videoReadsKept_recomputeFloor {s : State} (k : videoReadsKept s) : videoReadsKept (recomputeFloor s) := by
  rcases recomputeFloor_cases s with ⟨e, -⟩ | ⟨r, -, -, e⟩ <;> rw [e]
  · exact k
  · exact videoReadsKept_jumped le_rfl k

end Sys2Proof.Machine

namespace Sys2Proof.Machine

/-! ### Forwarded and held stream writes keep the laws (R7 to R15) -/

/-- A step from `s` to `t` keeps the places, the positions and the reads of the VIDEO chunk, each by itself: so an operation inside a
step does, which may meet the reads of a chunk that has just been given up. -/
def keepsEach (s t : State) : Prop :=
  (placesKept s → placesKept t) ∧ (StreamFrame s ∧ spanFits s → StreamFrame t ∧ spanFits t) ∧
    (StreamFrame s → videoReadsKept s → videoReadsKept t)

theorem keepsEach.keeps {s t : State} (h : keepsEach s t) : keeps s t := by
  refine ⟨h.1, fun k => ?_⟩
  obtain ⟨frame, span, video⟩ := streamKept_iff.mp k
  obtain ⟨frame', span'⟩ := h.2.1 ⟨frame, span⟩
  exact streamKept_iff.mpr ⟨frame', span', h.2.2 frame video⟩

theorem keepsEach_of_watch {s t : State} (h : watch t = watch s) : keepsEach s t :=
  ⟨placesKept_of_watch h, fun k => ⟨k.1.of_watch h, spanFits_of_watch h k.2⟩, fun _ => videoReadsKept_of_watch h⟩

theorem keepsEach.trans {s t u : State} (h : keepsEach s t) (k : keepsEach t u) (hf : StreamFrame s → StreamFrame t) :
    keepsEach s u :=
  ⟨k.1 ∘ h.1, k.2.1 ∘ h.2.1, fun f v => k.2.2 (hf f) (h.2.2 f v)⟩

/-- While the frame of the laws stands, moving cursor alone is a jump that leaves floor. -/
theorem setCursor_eq_jumped {s : State} (k : StreamFrame s) (c : Nat) :
    s.setTap { s.tap with cursor := c } = jumped s.tap.floor c s := by
  have he : entriesFrom s.tap.floor s.tap.entries = s.tap.entries :=
    List.filter_eq_self.mpr fun e he => decide_eq_true (k.inside e he).1
  simp only [jumped, he]
  congr 1
  simp [k.shipped]

theorem watch_advanceCursor (w : StreamWrite) (s : State) :
    watch (advanceCursor w s) = watch (recomputeFloor (s.setTap { s.tap with cursor := w.newCursor })) := by
  unfold advanceCursor
  rw [watch_overrunEndTest]
  refine watch_recomputeFloor ?_
  split
  · exact watch_tapEvent _ _ _ _
  · rfl

/-- What floor becomes where a write is forwarded as an overrun: floor and ship jump forward alone (R3, R13). -/
def overrunFloor (r : StreamRegion) (w : StreamWrite) (s : State) : Nat := max s.tap.floor (w.newCursor - r.size)

theorem watch_overrun (r : StreamRegion) (w : StreamWrite) (s : State) :
    watch (overrun r w s) = watch (recomputeFloor (jumped (overrunFloor r w s) w.newCursor s)) := by
  have setCursor : ∀ (u : State) (c : Nat), watch (u.setTap { u.tap with cursor := c }) = { watch u with cursor := c } :=
    fun _ _ => rfl
  have start : ∀ u : State, watch ((startCause .streamOverrun u).setTap
      { (startCause .streamOverrun u).tap with cursor := w.newCursor }) = { watch u with cursor := w.newCursor } := fun u => by
    rw [setCursor, watch_startCause]
  have moved : ∀ u : State, watch u = watch (jumped (overrunFloor r w s) w.newCursor s) →
      watch (if assembled u then overrunEndTest u else recomputeFloor (endCause .streamOverrun u)) =
        watch (recomputeFloor (jumped (overrunFloor r w s) w.newCursor s)) := fun u hu => by
    cases ha : assembled u
    · exact watch_recomputeFloor hu
    · have hj := (assembled_of_watch hu).symm.trans ha
      rw [if_pos rfl, watch_overrunEndTest, recomputeFloor_of_assembled hj, hu]
  refine moved _ ?_
  dsimp only
  split
  · rw [watch_tapEvent, start]
    rfl
  · rw [start]
    rfl

theorem assembled_setCursor (s : State) (c : Nat) : assembled (s.setTap { s.tap with cursor := c }) = assembled s := rfl

/-- A write that begins at or behind cursor and fits is forwarded: the laws stay, with cursor at its end (R4, R7, R9, R12). -/
theorem advanceCursor_kept {s : State} {w : StreamWrite} (k : StreamFrame s) (hn : s.tap.held = none)
    (hc : s.tap.cursor ≤ w.newCursor)
    (hfit : assembled s = true → ∀ r, streamRegion s = some r → w.newCursor ≤ s.tap.floor + r.size) :
    StreamFrame (advanceCursor w s) ∧ spanFits (advanceCursor w s) := by
  have frame := k.jumped (f := s.tap.floor) (k.order.trans hc) hc (.inl hn)
  rw [← setCursor_eq_jumped k] at frame
  have span := spanFits_recomputeFloor frame fun ha => hfit ha
  exact ⟨frame.recomputeFloor.of_watch (watch_advanceCursor w s), spanFits_of_watch (watch_advanceCursor w s) span⟩

theorem videoReadsKept_advanceCursor {s : State} {w : StreamWrite} (hc : s.tap.cursor ≤ w.newCursor) (k : videoReadsKept s) :
    videoReadsKept (advanceCursor w s) :=
  videoReadsKept_of_watch (watch_advanceCursor w s)
    (videoReadsKept_recomputeFloor (videoReadsKept_of (s := s) rfl id rfl rfl hc k))

theorem placesKept_advanceCursor {s : State} {w : StreamWrite} (k : placesKept s) : placesKept (advanceCursor w s) :=
  placesKept_of_watch (watch_advanceCursor w s) (placesKept_recomputeFloor k)

/-- An overrun leaves the ring's size behind the end of its write (R13). -/
theorem overrun_kept {s : State} {r : StreamRegion} {w : StreamWrite} (k : StreamFrame s) (hr : streamRegion s = some r)
    (hn : s.tap.held = none) (hc : s.tap.cursor ≤ w.newCursor) : StreamFrame (overrun r w s) ∧ spanFits (overrun r w s) := by
  have frame := k.jumped (f := overrunFloor r w s) (max_le (k.order.trans hc) (Nat.sub_le _ _)) hc (.inl hn)
  have span := spanFits_recomputeFloor frame fun _ q hq => by
    obtain rfl : r = q := Option.some.inj (hr.symm.trans hq)
    simp only [jumped, State.setTap_tap, overrunFloor]
    omega
  exact ⟨frame.recomputeFloor.of_watch (watch_overrun r w s), spanFits_of_watch (watch_overrun r w s) span⟩

theorem videoReadsKept_overrun {s : State} {r : StreamRegion} {w : StreamWrite} (hc : s.tap.cursor ≤ w.newCursor)
    (k : videoReadsKept s) : videoReadsKept (overrun r w s) :=
  videoReadsKept_of_watch (watch_overrun r w s) (videoReadsKept_recomputeFloor (videoReadsKept_jumped hc k))

theorem placesKept_overrun {s : State} {r : StreamRegion} {w : StreamWrite} (k : placesKept s) : placesKept (overrun r w s) :=
  placesKept_of_watch (watch_overrun r w s) (placesKept_recomputeFloor (placesKept_jumped k))

/-! #### The held write (R11, R12, R79) -/

/-- The held entry is let go: it is WAITING, and no write is recorded as held (R12, R79). -/
def unheld (s : State) : State := forwardHeld (s.setTap { s.tap with held := none, stopHold := false })

theorem forwardHeld_path (s : State) : (forwardHeld s).path = { s.path with
    queue := s.path.queue.map fun e => { e with progress := if e.progress = .held then .waiting else e.progress } } := by
  simp only [forwardHeld, State.setPath_path]
  congr 1
  refine List.map_congr_left fun e _ => ?_
  split <;> rfl

theorem StreamFrame.unheld {s : State} (k : StreamFrame s) : StreamFrame (unheld s) where
  order := k.order
  shipped := k.shipped
  rising := k.rising
  inside := k.inside
  filling := k.filling
  oneStream := k.oneStream
  sized := k.sized
  idle := k.idle
  stopped := k.stopped
  taken e he := by
    rw [Machine.unheld, forwardHeld_path] at he
    obtain ⟨e0, he0, rfl⟩ := List.mem_map.mp he
    exact k.taken e0 he0
  flying := k.flying
  hold w hw := absurd hw (by simp [Machine.unheld])

theorem placesKept_forwardHeld {s : State} (k : placesKept s) : placesKept (forwardHeld s) := by
  rw [placesKept_iff] at k ⊢
  rw [forwardHeld_path]
  obtain ⟨hq, hrest⟩ := k
  exact ⟨by simpa using hq, hrest⟩

/-- The re-test either leaves the state, or lets the held write go and forwards it, which while a clip is assembled it does only where
the write fits (R12, R15). -/
theorem retestHeld_cases (s : State) : retestHeld s = s ∨
    ∃ w, s.tap.held = some w ∧ retestHeld s = advanceCursor w (unheld s) ∧
      (assembled s = true → ∀ r, streamRegion s = some r → overwrites r s.tap w = false) := by
  unfold retestHeld
  split
  · rename_i w r hw hr
    split
    · exact .inl rfl
    · rename_i h
      refine .inr ⟨w, hw, by simp [releaseHeld, hw, unheld], fun ha q hq => ?_⟩
      obtain rfl : r = q := Option.some.inj (hr.symm.trans hq)
      simp [ha] at h
      exact h.1
  · rename_i w hw hr
    exact .inr ⟨w, hw, by simp [releaseHeld, hw, unheld], fun _ r h => by simp [hr] at h⟩
  · exact .inl rfl

theorem overwrites_eq_false {r : StreamRegion} {t : Tap} {w : StreamWrite} :
    overwrites r t w = false ↔ w.newCursor ≤ t.floor + r.size := by
  simp only [overwrites, decide_eq_false_iff_not]
  omega

theorem keepsEach_retestHeld (s : State) : keepsEach s (retestHeld s) := by
  rcases retestHeld_cases s with e | ⟨w, hw, e, hfit⟩
  · rw [e]
    exact keepsEach_of_watch rfl
  · rw [e]
    refine ⟨fun k => placesKept_advanceCursor (placesKept_forwardHeld k), fun k => ?_, fun k v => ?_⟩
    · refine advanceCursor_kept k.1.unheld rfl (k.1.hold w hw).1 fun ha r hr => ?_
      exact overwrites_eq_false.mp (hfit ha r hr)
    · exact videoReadsKept_advanceCursor (s := unheld s) (k.hold w hw).1 v

theorem keepsEach_assemblyEnded (s : State) : keepsEach s (assemblyEnded s) :=
  have ended : watch (endCause .streamOverrun s) = watch s := watch_endCause s _
  (keepsEach_of_watch ended).trans (keepsEach_retestHeld _) (StreamFrame.of_watch ended)

theorem watch_moveEntries (e : Nat) (s : State) : watch (moveEntries e s) = watch (jumped e s.tap.cursor s) := rfl

theorem watch_shipMoved (e : Nat) (s : State) : watch (overrunEndTest (moveEntries e s)) = watch (jumped e s.tap.cursor s) :=
  (watch_overrunEndTest _).trans (watch_moveEntries e s)

theorem placesKept_reportShipped {e : Nat} {s : State} (k : placesKept s) : placesKept (reportShipped e s) := by
  unfold reportShipped
  have moved : placesKept (overrunEndTest (moveEntries e s)) := placesKept_of_watch (watch_shipMoved e s) (placesKept_jumped k)
  split
  · dsimp only
    split
    · exact (keepsEach_retestHeld _).1 moved
    · exact (keepsEach_assemblyEnded _).1 moved
  · exact k

/-- A VIDEO range up to a place at or below cursor is reported: ship and the entries move on, and a held write is re-tested (R5,
R12). -/
theorem keepsEach_reportShipped {e : Nat} {s : State} (he : e ≤ s.tap.cursor) : keepsEach s (reportShipped e s) := by
  unfold reportShipped
  split
  · rename_i h
    obtain ⟨-, hship⟩ := Bool.and_eq_true_iff.mp h
    have hlt : s.tap.ship < e := of_decide_eq_true hship
    have hw := watch_shipMoved e s
    have frame : StreamFrame s → StreamFrame (overrunEndTest (moveEntries e s)) := fun k =>
      (k.jumped he le_rfl (.inr rfl)).of_watch hw
    have moved : keepsEach s (overrunEndTest (moveEntries e s)) := by
      refine ⟨fun k => placesKept_of_watch hw (placesKept_jumped k), fun k => ⟨frame k.1, ?_⟩,
        fun _ v => videoReadsKept_of_watch hw (videoReadsKept_jumped le_rfl v)⟩
      refine spanFits_of_watch hw fun r hr => ?_
      have hs := k.2 r hr
      have hfs := k.1.shipped
      simp only [jumped, State.setTap_tap]
      omega
    dsimp only
    split
    · exact moved.trans (keepsEach_retestHeld _) frame
    · exact moved.trans (keepsEach_assemblyEnded _) frame
  · exact keepsEach_of_watch rfl

end Sys2Proof.Machine

namespace Sys2Proof.Machine

/-! ### Transactions of the host join the queue and have their effect (R6 to R19, R70, R110) -/

/-! #### The queue -/

theorem placesKept_enqueue {s : State} (h : s.path.queue.length < 8) (t : Transaction) (pieces : List Piece) (p : Progress)
    (snooped : Bool) (k : placesKept s) : placesKept (enqueue t pieces p snooped s) := by
  rw [placesKept_iff] at k ⊢
  obtain ⟨-, hrest⟩ := k
  exact ⟨by simpa [enqueue] using h, hrest⟩

theorem StreamFrame.enqueue {s : State} (k : StreamFrame s) (t : Transaction) (pieces : List Piece) (p : Progress)
    (snooped : Bool) : StreamFrame (enqueue t pieces p snooped s) where
  order := k.order
  shipped := k.shipped
  rising := k.rising
  inside := k.inside
  filling := k.filling
  oneStream := k.oneStream
  sized := k.sized
  idle := k.idle
  stopped := k.stopped
  taken e he := by
    simp only [Machine.enqueue, State.setPath_path, List.mem_append, List.mem_singleton] at he ⊢
    rcases he with he | rfl
    · exact (k.taken e he).trans (Nat.lt_succ_self _)
    · exact Nat.lt_succ_self _
  flying n hn := (k.flying n hn).trans (Nat.lt_succ_self _)
  hold w hw := by
    obtain ⟨hc, e, he, hp, hs, hf⟩ := k.hold w hw
    refine ⟨hc, e, List.mem_append_left _ he, hp, fun f hm hserial => ?_, hf⟩
    simp only [Machine.enqueue, State.setPath_path, List.mem_append, List.mem_singleton] at hm
    rcases hm with hm | rfl
    · exact hs f hm hserial
    · exact absurd hserial (k.taken e he).ne'

theorem streamKept_enqueue {s : State} (k : streamKept s) (t : Transaction) (pieces : List Piece) (p : Progress)
    (snooped : Bool) : streamKept (enqueue t pieces p snooped s) := by
  obtain ⟨frame, span, video⟩ := streamKept_iff.mp k
  exact streamKept_iff.mpr ⟨frame.enqueue t pieces p snooped, span, video⟩

theorem keeps_enqueue {s : State} (h : s.path.queue.length < 8) (t : Transaction) (pieces : List Piece) (p : Progress)
    (snooped : Bool) : keeps s (enqueue t pieces p snooped s) :=
  ⟨placesKept_enqueue h t pieces p snooped, fun k => streamKept_enqueue k t pieces p snooped⟩

/-- With every entry past its hold no write is held (R79). -/
theorem StreamFrame.held_eq_none {s : State} (k : StreamFrame s) (h : ∀ e ∈ s.path.queue, e.progress ≠ .held) :
    s.tap.held = none := by
  cases hw : s.tap.held with
  | none => rfl
  | some w =>
    obtain ⟨-, e, he, hp, -⟩ := k.hold w hw
    exact absurd hp (h e he)

theorem holdNewest_append (q : List QueueEntry) (e : QueueEntry) :
    holdNewest (q ++ [e]) = q ++ [{ e with progress := .held }] := by
  induction q with
  | nil => rfl
  | cons a rest ih =>
    cases rest with
    | nil => rfl
    | cons b rest => exact congrArg (a :: ·) ih

/-! #### Stream writes (R6 to R11) -/

/-- The STREAM region is the one a record holds (R2). -/
theorem streamRegion_of_mem {s : State} {r : Region} {q : StreamRegion} (one : ((regions s).filterMap Region.asStream).length ≤ 1)
    (h : r ∈ regions s) (hq : r.asStream = some q) : streamRegion s = some q := by
  have hm : q ∈ (regions s).filterMap Region.asStream := List.mem_filterMap.mpr ⟨r, h, hq⟩
  rw [streamRegion, ← List.head?_filterMap]
  generalize (regions s).filterMap Region.asStream = l at one hm
  match l, one, hm with
  | [a], _, hm => rw [List.mem_singleton.mp hm]; rfl

/-- No stream write moves cursor back (R6). -/
theorem cursor_le_classify (r : StreamRegion) (t : Tap) (a n : Nat) : t.cursor ≤ (classify r t a n).newCursor := by
  unfold classify
  dsimp only
  split
  · exact Nat.le_add_right _ _
  · split
    · exact le_rfl
    · split
      · dsimp only
        omega
      · split
        · exact le_rfl
        · dsimp only
          omega

/-- What an append, a straddle or a gap does, once it has joined the queue (R7, R9, R11, R13). -/
def offerMoving (r : StreamRegion) (w : StreamWrite) (s : State) : State :=
  if assembled s && overwrites r s.tap w then
    if r.holdLimit = 0 then overrun r w s
    else (s.setTap { s.tap with held := some w }).setPath { s.path with queue := holdNewest s.path.queue }
  else advanceCursor w s

theorem offerStreamWrite_of_moving {r : StreamRegion} {a n : Nat} {s : State} (hp : (classify r s.tap a n).kase ≠ .patch)
    (hl : (classify r s.tap a n).kase ≠ .latePatch) : offerStreamWrite r a n s = offerMoving r (classify r s.tap a n) s := by
  unfold offerStreamWrite offerMoving
  dsimp only
  split
  · contradiction
  · contradiction
  · rfl

/-- A patch and a late patch are watched by nothing; each other write moves on (R6 to R10). -/
theorem offerStreamWrite_cases (r : StreamRegion) (a n : Nat) (s : State) :
    watch (offerStreamWrite r a n s) = watch s ∨ offerStreamWrite r a n s = offerMoving r (classify r s.tap a n) s := by
  by_cases hp : (classify r s.tap a n).kase = .patch
  · exact .inl (by simp [offerStreamWrite, hp])
  · by_cases hl : (classify r s.tap a n).kase = .latePatch
    · exact .inl (by simp [offerStreamWrite, hl])
    · exact .inr (offerStreamWrite_of_moving hp hl)

theorem placesKept_offerMoving {r : StreamRegion} {w : StreamWrite} {s : State} (k : placesKept s)
    (hq : ∃ q e, s.path.queue = q ++ [e]) : placesKept (offerMoving r w s) := by
  unfold offerMoving
  split
  · split
    · exact placesKept_overrun k
    · obtain ⟨q, e, hq⟩ := hq
      rw [placesKept_iff] at k ⊢
      obtain ⟨hlen, hrest⟩ := k
      refine ⟨?_, hrest⟩
      simpa [hq, holdNewest_append] using hlen
  · exact placesKept_advanceCursor k

/-- The newest entry of the queue is held, and nothing of it has been issued (R11, R79). -/
theorem StreamFrame.holdNewest {s : State} (k : StreamFrame s) {w : StreamWrite} (hc : s.tap.cursor ≤ w.newCursor)
    {q : List QueueEntry} {e : QueueEntry} (hq : s.path.queue = q ++ [e]) (hnew : ∀ f ∈ q, f.serial ≠ e.serial)
    (hfly : e.serial ∉ hostSerials s) :
    StreamFrame ((s.setTap { s.tap with held := some w }).setPath { s.path with queue := holdNewest s.path.queue }) where
  order := k.order
  shipped := k.shipped
  rising := k.rising
  inside := k.inside
  filling := k.filling
  oneStream := k.oneStream
  sized := k.sized
  idle := k.idle
  stopped := k.stopped
  taken f hf := by
    rw [State.setPath_path, hq, holdNewest_append, List.mem_append, List.mem_singleton] at hf
    rcases hf with hf | rfl
    · exact k.taken f (hq ▸ List.mem_append_left _ hf)
    · exact k.taken e (hq ▸ List.mem_append_right _ (List.mem_singleton.mpr rfl))
  flying := k.flying
  hold v hv := by
    obtain rfl : w = v := Option.some.inj hv
    refine ⟨hc, { e with progress := .held }, ?_, rfl, fun f hf hs => ?_, hfly⟩
    · rw [State.setPath_path, hq, holdNewest_append]
      exact List.mem_append_right _ (List.mem_singleton.mpr rfl)
    · rw [State.setPath_path, hq, holdNewest_append, List.mem_append, List.mem_singleton] at hf
      rcases hf with hf | rfl
      · exact absurd hs (hnew f hf)
      · rfl

theorem streamKept_offerMoving {r : StreamRegion} {w : StreamWrite} {s : State} (k : streamKept s) (hr : streamRegion s = some r)
    (hn : s.tap.held = none) (hc : s.tap.cursor ≤ w.newCursor) {q : List QueueEntry} {e : QueueEntry}
    (hq : s.path.queue = q ++ [e]) (hnew : ∀ f ∈ q, f.serial ≠ e.serial) (hfly : e.serial ∉ hostSerials s) :
    streamKept (offerMoving r w s) := by
  obtain ⟨frame, span, video⟩ := streamKept_iff.mp k
  unfold offerMoving
  split
  · split
    · obtain ⟨frame', span'⟩ := overrun_kept frame hr hn hc
      exact streamKept_iff.mpr ⟨frame', span', videoReadsKept_overrun hc video⟩
    · exact streamKept_iff.mpr ⟨frame.holdNewest hc hq hnew hfly, span, video⟩
  · rename_i h
    obtain ⟨frame', span'⟩ := advanceCursor_kept frame hn hc fun ha q hq => by
      obtain rfl : r = q := Option.some.inj (hr.symm.trans hq)
      simp only [ha, Bool.true_and, Bool.not_eq_true] at h
      exact overwrites_eq_false.mp h
    exact streamKept_iff.mpr ⟨frame', span', videoReadsKept_advanceCursor hc video⟩

/-- A stream write joins the queue and is offered (R6 to R11). -/
theorem keeps_offerStreamWrite {s : State} {r : Region} {q : StreamRegion} (hr : r ∈ regions s) (hq : r.asStream = some q)
    (hlen : s.path.queue.length < 8) (hh : ∀ e ∈ s.path.queue, e.progress ≠ .held) (t : Transaction) (a n : Nat) :
    keeps s (offerStreamWrite q a n (forward t s)) := by
  rcases offerStreamWrite_cases q a n (forward t s) with h | h
  · exact (keeps_enqueue hlen t _ _ _).watched h
  · rw [h]
    refine ⟨fun k => placesKept_offerMoving (placesKept_enqueue hlen t _ _ _ k) ⟨_, _, rfl⟩, fun k => ?_⟩
    have frame := (streamKept_iff.mp k).1
    refine streamKept_offerMoving (streamKept_enqueue k t _ _ _) ?_ (frame.held_eq_none hh) (cursor_le_classify _ _ _ _) rfl
      (fun f hf => (frame.taken f hf).ne) fun hf => (frame.flying _ hf).false
    exact streamRegion_of_mem frame.oneStream hr hq

/-! #### Frame starts (R110, R111) -/

/-- A frame start makes its slot the one that is FILLING (R111). -/
theorem filling_frameStart {slots : List SlotRecord} {k : Nat} {r : FrameRecord} {i : Nat} {f : FrameRecord}
    (h : ((slots.map finishFilling).set k (.filling r))[i]? = some (.filling f)) : i = k := by
  by_contra hne
  rw [List.getElem?_set_ne (Ne.symm hne), List.getElem?_map] at h
  cases hs : slots[i]? with
  | none => simp [hs] at h
  | some x => cases x <;> simp [hs, finishFilling] at h

theorem StreamFrame.setSlots {s : State} (k : StreamFrame s) {v : View}
    (h : ∀ (i j : Nat) f g, v.slots[i]? = some (.filling f) → v.slots[j]? = some (.filling g) → i = j) :
    StreamFrame (s.setView v) := { k with filling := h }

theorem keeps_setSlots {s : State} {v : View}
    (h : ∀ (i j : Nat) f g, v.slots[i]? = some (.filling f) → v.slots[j]? = some (.filling g) → i = j) :
    keeps s (s.setView v) := by
  refine ⟨id, fun k => ?_⟩
  obtain ⟨frame, span, video⟩ := streamKept_iff.mp k
  exact streamKept_iff.mpr ⟨frame.setSlots h, span, video⟩

theorem keeps_offerFrameWrite (f : FrameRegion) (addr : Nat) (s : State) : keeps s (offerFrameWrite f addr s) := by
  unfold offerFrameWrite
  dsimp only
  split
  · refine keeps.watched (keeps_setSlots ?_) (watch_requestStatus _)
    exact fun i j _ _ hi hj => (filling_frameStart hi).trans (filling_frameStart hj).symm
  · exact keeps_refl s

end Sys2Proof.Machine

namespace Sys2Proof.Machine

/-! ### What laying and filling leave of the assembler (R30, R36) -/

/-- Laying changes the pages and what waits to be laid, and nothing else (R36). -/
theorem lay_eq (c : Clip) : lay c = { c with pages := (lay c).pages, lay := (lay c).lay } := by
  unfold lay
  split <;> rfl

@[simp] theorem lay_state (c : Clip) : (lay c).state = c.state := by rw [lay_eq]
@[simp] theorem lay_stopPos (c : Clip) : (lay c).stopPos = c.stopPos := by rw [lay_eq]
@[simp] theorem lay_run (c : Clip) : (lay c).run = c.run := by rw [lay_eq]
@[simp] theorem lay_closed (c : Clip) : (lay c).closed = c.closed := by rw [lay_eq]

/-- A fill adds to what waits to be laid, and counts the PAD chunk (R36). -/
theorem fill_eq (n : Nat) (c : Clip) : fill n c = { c with lay := (fill n c).lay, chunkSeq := (fill n c).chunkSeq } := by
  unfold fill
  split
  · rfl
  · split <;> rfl

@[simp] theorem fill_state (n : Nat) (c : Clip) : (fill n c).state = c.state := by rw [fill_eq]
@[simp] theorem fill_stopPos (n : Nat) (c : Clip) : (fill n c).stopPos = c.stopPos := by rw [fill_eq]
@[simp] theorem fill_run (n : Nat) (c : Clip) : (fill n c).run = c.run := by rw [fill_eq]
@[simp] theorem fill_closed (n : Nat) (c : Clip) : (fill n c).closed = c.closed := by rw [fill_eq]

/-! ### The course of a recording

The positions of the clip are those of the Stream Tap; of the assembler itself the laws speak of the recording state, the stop position
and the VIDEO chunk. -/

/-- The assembler changes and the STREAM region stays: the laws stay, where the new recording state is allowed (R23, R27). -/
theorem StreamFrame.setClip {s : State} (k : StreamFrame s) {v : Clip} (hi : streamRegion s = none → v.state = .idle)
    (hp : v.state = .stopping → v.stopPos ≤ s.tap.cursor) : StreamFrame (s.setClip v) :=
  { k with idle := hi, stopped := hp }

/-- The entries that are not below the oldest are all (R19). -/
theorem entriesFrom_head {e : Entry} {rest : List Entry} (h : (e :: rest).Pairwise fun e f => e.pos < f.pos) :
    entriesFrom e.pos (e :: rest) = e :: rest := by
  refine List.filter_eq_self.mpr fun f hf => decide_eq_true ?_
  rcases List.mem_cons.mp hf with rfl | hf
  · exact le_rfl
  · exact ((List.pairwise_cons.mp h).1 f hf).le

theorem beginClip_nil {s : State} (f : Nat → Nat) (h : s.tap.entries = []) : beginClip f s = s := by
  unfold beginClip
  rw [h]

/-- A clip begins: the recording state is RECORDING, no chunk is in progress, and ship and floor stand at the oldest entry (R24). -/
theorem watch_beginClip {s : State} (f : Nat → Nat) {e : Entry} {rest : List Entry} (h : s.tap.entries = e :: rest)
    (hp : s.tap.entries.Pairwise fun e f => e.pos < f.pos) :
    watch (beginClip f s) =
      watch ((jumped e.pos s.tap.cursor s).setClip { s.clip with state := .recording, run := .none, closed := false }) := by
  have he : entriesFrom e.pos s.tap.entries = s.tap.entries := by rw [h] at hp ⊢; exact entriesFrom_head hp
  unfold beginClip
  rw [h]
  simp only [watch, jumped, he]
  simp only [State.setClip_clip, lay_state, lay_stopPos, lay_run, lay_closed]
  rfl

theorem placesKept_beginClip {s : State} (f : Nat → Nat) (k : placesKept s) : placesKept (beginClip f s) := by
  unfold beginClip
  split
  · exact k
  · exact k

theorem streamKept_beginClip {s : State} (f : Nat → Nat) (k : streamKept s) (hs : s.clip.state = .idle ∨ s.clip.state = .armed)
    (hr : streamRegion s ≠ none) : streamKept (beginClip f s) := by
  obtain ⟨frame, span, video⟩ := streamKept_iff.mp k
  cases he : s.tap.entries with
  | nil => rw [beginClip_nil f he]; exact k
  | cons e rest =>
    have hin := frame.inside e (he ▸ List.mem_cons_self)
    refine streamKept_of_watch (watch_beginClip f he frame.rising) (streamKept_iff.mpr ⟨?_, fun r h => ?_, ?_⟩)
    · exact (frame.jumped hin.2.le le_rfl (.inr rfl)).setClip (fun h => absurd h hr) (by simp)
    · exact (span r h).trans (Nat.add_le_add_right hin.1 _)
    · exact videoReadsKept_of_nil (fun _ _ _ => by simp) (videoEnds_eq_nil (s := s) video (noVideo_of video (.inr hs)))

/-! ### Index records (R16 to R19) -/

/-- The position that a record is accepted at is retained, lies above every entry, and is one of a STREAM region (R17). -/
theorem acceptedPosition_spec {s : State} {addr p : Nat} (h : acceptedPosition s addr = some p) :
    s.tap.floor ≤ p ∧ p < s.tap.cursor ∧ (∀ e, s.tap.entries.getLast? = some e → e.pos < p) ∧ streamRegion s ≠ none := by
  unfold acceptedPosition at h
  split at h
  · cases h
  · rename_i r hr
    simp only [Option.ite_none_right_eq_some] at h
    obtain ⟨⟨-, -, h0, hcur, hfl, habove⟩, hp⟩ := h
    obtain rfl := Option.some.inj hp
    refine ⟨by omega, by omega, fun e he => ?_, by simp [hr]⟩
    rw [he] at habove
    have := of_decide_eq_true habove
    omega

/-- Of a rising list no entry lies above the last (R19). -/
theorem pos_le_last {l : List Entry} (h : l.Pairwise fun e f => e.pos < f.pos) {e : Entry} (he : e ∈ l) :
    ∃ f, l.getLast? = some f ∧ e.pos ≤ f.pos := by
  induction l generalizing e with
  | nil => cases he
  | cons a rest ih =>
    obtain ⟨ha, hrest⟩ := List.pairwise_cons.mp h
    cases rest with
    | nil => exact ⟨a, rfl, by rw [List.mem_singleton.mp he]⟩
    | cons b tail =>
      rw [List.getLast?_cons_cons]
      rcases List.mem_cons.mp he with rfl | he
      · obtain ⟨f, hf, hb⟩ := ih hrest List.mem_cons_self
        exact ⟨f, hf, (ha b List.mem_cons_self).le.trans hb⟩
      · exact ih hrest he

theorem length_appendEntry {e : Entry} {l : List Entry} (h : l.length ≤ 64) : (appendEntry e l).length ≤ 64 := by
  unfold appendEntry
  split
  · rename_i hl
    simpa [Config.entryListCap] using hl
  · simp only [List.length_append, List.length_drop, List.length_singleton]
    omega

/-- What joins the Entry List joins its tail, after entries that were there (R19). -/
theorem appendEntry_eq (e : Entry) (l : List Entry) : ∃ k, appendEntry e l = l.drop k ++ [e] := by
  unfold appendEntry
  split
  · exact ⟨0, rfl⟩
  · exact ⟨1, rfl⟩

theorem rising_appendEntry {e : Entry} {l : List Entry} (h : l.Pairwise fun e f => e.pos < f.pos)
    (hl : ∀ f, l.getLast? = some f → f.pos < e.pos) : (appendEntry e l).Pairwise fun e f => e.pos < f.pos := by
  obtain ⟨k, hk⟩ := appendEntry_eq e l
  rw [hk]
  refine List.pairwise_append.mpr ⟨h.sublist (List.drop_sublist _ _), List.pairwise_singleton _ _, fun f hf g hg => ?_⟩
  obtain ⟨x, hx, hle⟩ := pos_le_last h (List.mem_of_mem_drop hf)
  rw [List.mem_singleton.mp hg]
  exact hle.trans_lt (hl x hx)

/-- An entry joins the Entry List (R19). -/
theorem StreamFrame.addEntry {s : State} (k : StreamFrame s) {e : Entry} (hf : s.tap.floor ≤ e.pos) (hc : e.pos < s.tap.cursor)
    (hl : ∀ f, s.tap.entries.getLast? = some f → f.pos < e.pos) :
    StreamFrame (s.setTap { s.tap with entries := appendEntry e s.tap.entries }) :=
  { k with
    rising := rising_appendEntry k.rising hl
    inside := fun x hx => by
      obtain ⟨n, hn⟩ := appendEntry_eq e s.tap.entries
      rw [State.setTap_tap, hn, List.mem_append, List.mem_singleton] at hx
      rcases hx with hx | rfl
      · exact k.inside x (List.mem_of_mem_drop hx)
      · exact ⟨hf, hc⟩ }

theorem placesKept_addEntry {s : State} (e : Entry) (k : placesKept s) :
    placesKept (s.setTap { s.tap with entries := appendEntry e s.tap.entries }) := by
  rw [placesKept_iff] at k ⊢
  obtain ⟨hq, hg, he, hrest⟩ := k
  exact ⟨hq, hg, length_appendEntry he, hrest⟩

/-- The first entry of ARMED begins the clip (R24). -/
theorem keeps_armedEntry {s : State} (h : streamRegion s ≠ none) : keeps s (armedEntry s) := by
  unfold armedEntry
  split
  · rename_i ha
    exact keeps.watched ⟨placesKept_beginClip _, fun k => streamKept_beginClip _ k (.inr ha) h⟩ (watch_postNotice _ _)
  · exact keeps_refl s

theorem keeps_takeRecord (offset : Nat) (e : EntryRecord) (s : State) : keeps s (takeRecord offset e s) := by
  unfold takeRecord
  split
  · rename_i p hp
    obtain ⟨hf, hc, hl, hr⟩ := acceptedPosition_spec hp
    refine keeps.trans ⟨placesKept_addEntry _, fun k => ?_⟩ (keeps_armedEntry hr)
    obtain ⟨frame, span, video⟩ := streamKept_iff.mp k
    exact streamKept_iff.mpr ⟨frame.addEntry hf hc hl, span, video⟩
  · exact keeps_of_watch (watch_tapEvent _ _ _ _)

theorem keeps_takePlace (base addr : Nat) (lanes : List LaneByte) (s : State) (place : Nat) :
    keeps s (takePlace base addr lanes s place) := by
  unfold takePlace
  split
  · exact keeps_takeRecord _ _ s
  · exact keeps_of_watch (watch_tapEvent _ _ _ _)

/-- Steps one after the other keep what each keeps. -/
theorem keeps_foldl {α : Type} {f : State → α → State} (h : ∀ s a, keeps s (f s a)) (l : List α) (s : State) :
    keeps s (l.foldl f s) := by
  induction l generalizing s with
  | nil => exact keeps_refl s
  | cons a rest ih => exact (h s a).trans (ih (f s a))

theorem keeps_offerIndexWrite (base addr : Nat) (lanes : List LaneByte) (s : State) : keeps s (offerIndexWrite base addr lanes s) :=
  keeps_foldl (keeps_takePlace base addr lanes) _ s

/-! ### HOST_TRANSACTION_TAKE (R70, R77) -/

theorem canTake_iff {s : State} : canTake s = true ↔ s.path.queue.length < 8 ∧ ∀ e ∈ s.path.queue, e.progress ≠ .held := by
  rw [canTake, Bool.and_eq_true_iff, List.all_eq_true]
  exact and_congr decide_eq_true_iff (forall₂_congr fun e _ => bne_iff_ne)

theorem regionAt_mem {s : State} {addr : Nat} {r : Region} (h : regionAt s addr = some r) : r ∈ regions s :=
  List.mem_of_find?_eq_some h

theorem keeps_takePageWrite {s : State} (h : s.path.queue.length < 8) (addr offset : Nat) (lanes : List LaneByte) :
    keeps s (takePageWrite addr offset lanes s) := by
  unfold takePageWrite takeIndexLineWrite
  dsimp only
  split
  · exact keeps_enqueue h _ _ _ _
  · split
    · split <;> exact keeps_enqueue h _ _ _ _
    · exact keeps_enqueue h _ _ _ _

theorem keeps_takeAliasRead {s : State} (h : s.path.queue.length < 8) (base : Nat) (g : AliasGeometry) (addr n : Nat) :
    keeps s (takeAliasRead base g addr n s) := by
  unfold takeAliasRead
  dsimp only
  split
  · split <;> exact keeps_enqueue h _ _ _ _
  · split
    · exact (keeps_enqueue h _ _ _ _).watched (watch_startCause _ _)
    · exact keeps_enqueue h _ _ _ _

theorem keeps_takeRegionWrite {s : State} (h : canTake s = true) {r : Region} (hr : r ∈ regions s) (addr : Nat)
    (lanes : List LaneByte) : keeps s (takeRegionWrite r addr lanes s) := by
  obtain ⟨hlen, hheld⟩ := canTake_iff.mp h
  unfold takeRegionWrite
  dsimp only
  split
  · rename_i p l hold hk
    exact keeps_offerStreamWrite hr (by simp [Region.asStream, hk]) hlen hheld _ _ _
  · exact (keeps_enqueue hlen _ _ _ _).trans (keeps_offerIndexWrite _ _ _ _)
  · exact (keeps_enqueue hlen _ _ _ _).trans (keeps_offerFrameWrite _ _ _)
  · exact (keeps_enqueue hlen _ _ _ _).watched (watch_tapEvent _ _ _ _)
  · exact keeps_enqueue hlen _ _ _ _

theorem keeps_treat {s : State} (h : canTake s = true) (t : Transaction) : keeps s (treat t s) := by
  have hlen := (canTake_iff.mp h).1
  unfold treat
  split
  · split
    · exact keeps_takeAliasRead hlen _ _ _ _
    · exact keeps_enqueue hlen _ _ _ _
  · exact keeps_enqueue hlen _ _ _ _
  · rename_i hr
    exact keeps_takeRegionWrite h (regionAt_mem hr) _ _
  · split
    · exact keeps_takePageWrite hlen _ _ _
    · exact keeps_enqueue hlen _ _ _ _

/-- A row keeps both invariants: so does the next state, where it answers one. -/
def rowKeeps (o : Outcome) (s : State) : Prop := ∀ t, o = .next t → keeps s t

theorem rowKeeps_next {s t : State} (h : keeps s t) : rowKeeps (.next t) s := fun _ e => by cases e; exact h
theorem rowKeeps_fault (f : Fault) (s : State) : rowKeeps (.fault f) s := fun _ e => by cases e
theorem rowKeeps_act {f : State → State} {s : State} (h : keeps s (f s)) : rowKeeps (act f s) s := by
  refine rowKeeps_next ?_
  split
  · exact keeps_refl s
  · exact h

theorem rowKeeps_hostTransactionTake (t : Transaction) (s : State) : rowKeeps (execHostTransactionTake t s) s := by
  unfold execHostTransactionTake
  split
  · exact rowKeeps_fault _ s
  · split
    · exact rowKeeps_next (keeps_refl s)
    · rename_i h
      have hc : canTake s = true := by simpa using h
      refine rowKeeps_next ?_
      split
      · exact keeps_enqueue (canTake_iff.mp hc).1 _ _ _ _
      · exact keeps_treat hc t

/-- The held write's timer (R13). -/
theorem rowKeeps_holdTimerExpiry (s : State) : rowKeeps (execHoldTimerExpiry s) s := by
  refine rowKeeps_act ?_
  unfold holdTimerExpiry
  split
  · rename_i w r hw hr
    refine ⟨fun k => placesKept_overrun (placesKept_forwardHeld k), fun k => ?_⟩
    obtain ⟨frame, span, video⟩ := streamKept_iff.mp k
    have hc := (frame.hold w hw).1
    obtain ⟨frame', span'⟩ := overrun_kept (s := unheld s) frame.unheld hr rfl hc
    exact streamKept_iff.mpr ⟨frame', span', videoReadsKept_overrun (s := unheld s) hc video⟩
  · exact keeps_refl s

end Sys2Proof.Machine

namespace Sys2Proof.Machine

/-! ### The assembler and the cards keep the laws (R23 to R42) -/

/-- The assembler changes outside a VIDEO chunk (R23, R26, R28, R32). -/
theorem streamKept_setClip {s : State} {v : Clip} (k : streamKept s) (hs : noVideo s) (hv : noVideo (s.setClip v))
    (hi : streamRegion s = none → v.state = .idle) (hp : v.state = .stopping → v.stopPos ≤ s.tap.cursor) :
    streamKept (s.setClip v) := by
  obtain ⟨frame, span, video⟩ := streamKept_iff.mp k
  exact streamKept_iff.mpr ⟨frame.setClip hi hp, span, videoReadsKept_of_nil hv (videoEnds_eq_nil (s := s) video hs)⟩

theorem noVideo_of_kept {s : State} (k : streamKept s) (h : s.clip.closed = true ∨ s.clip.state = .idle ∨ s.clip.state = .armed) :
    noVideo s := noVideo_of (streamKept_iff.mp k).2.2 h

theorem placesKept_setClip {s : State} (v : Clip) (k : placesKept s) : placesKept (s.setClip v) := k

/-! #### Starts and stops (R23, R26, R27) -/

theorem watch_activate (set : CardSet) (s : State) : watch (activate set s) = watch s := by
  unfold activate
  dsimp only
  split <;> split <;> simp

theorem recStartCheck_ok {s : State} (h : recStartCheck s = .ok) : s.clip.state = .idle ∧ streamRegion s ≠ none := by
  unfold recStartCheck at h
  dsimp only at h
  split at h
  · cases h
  · rename_i hidle
    split at h
    · cases h
    · rename_i hreg
      refine ⟨not_not.mp hidle, fun hn => hreg ?_⟩
      simp [regionsForClip, hn]

theorem keeps_acceptRecStart (clip : Word16) {s : State} (hidle : s.clip.state = .idle) (hreg : streamRegion s ≠ none) :
    keeps s (acceptRecStart clip s) := by
  unfold acceptRecStart
  dsimp only
  generalize hu : State.setClip (endCause _ _) _ = u
  have hw : watch u = watch s := by
    rw [← hu]
    refine (watch_setClip rfl rfl rfl rfl).trans ?_
    rw [watch_endCause, watch_activate]
    exact watch_setClip rfl rfl rfl rfl
  have hidle' := (recording_of_watch hw).trans hidle
  have hreg' : streamRegion u ≠ none := by rwa [streamRegion_of_watch hw]
  refine ((keeps_of_watch hw).trans ?_).watched (watch_postNotice _ _)
  split
  · exact ⟨placesKept_setClip _, fun k =>
      have still := noVideo_of_kept k (.inr (.inl hidle'))
      streamKept_setClip k still still (fun h => absurd h hreg') (by simp)⟩
  · exact ⟨placesKept_beginClip _, fun k => streamKept_beginClip _ k (.inl hidle') hreg'⟩

theorem keeps_recStart (clip : Word16) (s : State) : keeps s (recStart clip s).1 := by
  unfold recStart
  split
  · rename_i hok
    obtain ⟨hidle, hreg⟩ := recStartCheck_ok hok
    exact keeps_acceptRecStart clip hidle hreg
  · exact keeps_refl s

theorem keeps_recStop (cmd : Option Kept) (s : State) : keeps s (recStop cmd s).1 := by
  unfold recStop
  split
  · rename_i harmed
    dsimp only
    refine keeps.watched (t := s.setClip { s.clip with state := .idle }) ⟨placesKept_setClip _, fun k => ?_⟩ (by simp)
    have still := noVideo_of_kept k (.inr (.inr harmed))
    exact streamKept_setClip k still still (fun _ => rfl) (by simp)
  · rename_i hrec
    dsimp only
    generalize hu : State.setClip _ _ = u
    have stop : keeps s u := by
      rw [← hu]
      refine ⟨id, fun k => ?_⟩
      obtain ⟨frame, span, video⟩ := streamKept_iff.mp k
      have hreg : streamRegion s ≠ none := fun h => by simp [frame.idle h] at hrec
      have marked : StreamFrame (s.setTap { s.tap with stopHold := s.tap.held.isSome }) := frame.of_watch (watch_setTap rfl rfl rfl rfl rfl)
      refine streamKept_iff.mpr ⟨marked.setClip (fun h => absurd h hreg) fun _ => le_rfl, span, ?_⟩
      exact videoReadsKept_of (s := s) rfl (fun _ => .inr rfl) rfl rfl le_rfl video
    split
    · exact stop
    · exact stop.trans (keepsEach_assemblyEnded u).keeps
  · exact keeps_refl s

theorem keeps_gripPress (s : State) : keeps s (gripPress s) := by
  unfold gripPress
  split
  · split
    · dsimp only
      split
      · exact keeps_recStart _ s
      · exact (keeps_recStart _ s).watched (watch_postNotice _ _)
    · exact keeps_recStop none s
    · exact keeps_recStop none s
    · exact keeps_refl s
  · exact keeps_refl s

/-! #### The abort (R41) -/

@[simp] theorem closeOpenPage_state (c : Clip) : (closeOpenPage c).state = c.state := by
  unfold closeOpenPage; split <;> simp
@[simp] theorem closeOpenPage_stopPos (c : Clip) : (closeOpenPage c).stopPos = c.stopPos := by
  unfold closeOpenPage; split <;> simp
@[simp] theorem closeOpenPage_run (c : Clip) : (closeOpenPage c).run = c.run := by
  unfold closeOpenPage; split <;> simp
@[simp] theorem closeOpenPage_closed (c : Clip) : (closeOpenPage c).closed = c.closed := by
  unfold closeOpenPage; split <;> simp

/-- Once the payload reads are abandoned none of a VIDEO chunk is in flight (R41, R43). -/
theorem videoEnds_abandonPayload (s : State) : videoEnds (abandonReads s isPayload) = [] := by
  rw [videoEnds_eq, List.filterMap_eq_nil_iff]
  intro i hi
  obtain ⟨j, -, rfl⟩ := List.mem_map.mp hi
  obtain ⟨t, d⟩ := j
  cases d <;> rfl

theorem hostSerials_abandonPayload (s : State) : hostSerials (abandonReads s isPayload) = hostSerials s := by
  refine filterMap_abandonReads s rfl fun i h => ?_
  obtain ⟨t, d⟩ := i
  cases d <;> simp_all [isPayload, hostSerial]

theorem StreamFrame.abandonPayload {s : State} (k : StreamFrame s) : StreamFrame (abandonReads s isPayload) :=
  { k with
    flying := fun n hn => k.flying n (hostSerials_abandonPayload s ▸ hn)
    hold := fun w hw => by
      rw [hostSerials_abandonPayload]
      exact k.hold w hw }

theorem keeps_abortClip (s : State) : keeps s (abortClip s) := by
  unfold abortClip
  dsimp only
  generalize hv : State.setClip s _ = v
  have hrun : v.clip.run = .none := by rw [← hv]; rfl
  have hidle : v.clip.state = .idle := by rw [← hv]; rfl
  generalize hu : reports _ (assemblyEnded v) = u
  have hw : watch u = watch (assemblyEnded v) := by rw [← hu]; exact watch_reports _ _
  refine keeps.watched (t := abandonReads u isPayload) ⟨fun k => ?_, fun k => ?_⟩ ?_
  · have hp : placesKept v := by rw [← hv]; exact k
    have hpu : placesKept u := placesKept_of_watch hw ((keepsEach_assemblyEnded v).1 hp)
    exact hpu
  · obtain ⟨frame, span, -⟩ := streamKept_iff.mp k
    have hframe : StreamFrame v ∧ spanFits v := by
      rw [← hv]
      exact ⟨frame.setClip (fun _ => rfl) (by simp), span⟩
    obtain ⟨frame', span'⟩ := (keepsEach_assemblyEnded v).2.1 hframe
    have hspan : spanFits u := spanFits_of_watch hw span'
    refine streamKept_iff.mpr ⟨(frame'.of_watch hw).abandonPayload, hspan, ?_⟩
    refine videoReadsKept_of_nil (fun _ _ _ h => ?_) (videoEnds_abandonPayload u)
    rw [abandonReads_clip, run_of_watch hw, assemblyEnded_clip, hrun] at h
    cases h
  · rw [watch_releaseDrained]
    refine (watch_setClip rfl rfl rfl rfl).trans (watch_setClip ?_ ?_ ?_ ?_) <;> simp

/-! #### The end and the loss of a card (R26, R38 to R42) -/

theorem watch_retarget (x : CardSlot) (s : State) : watch (retarget x s) = watch s :=
  (watch_setClip rfl rfl rfl rfl).trans (watch_makeActive s _)

@[simp] theorem fillOpenPage_state (c : Clip) : (fillOpenPage c).state = c.state := by
  unfold fillOpenPage; split <;> simp
@[simp] theorem fillOpenPage_stopPos (c : Clip) : (fillOpenPage c).stopPos = c.stopPos := by
  unfold fillOpenPage; split <;> simp
@[simp] theorem fillOpenPage_run (c : Clip) : (fillOpenPage c).run = c.run := by
  unfold fillOpenPage; split <;> simp
@[simp] theorem fillOpenPage_closed (c : Clip) : (fillOpenPage c).closed = c.closed := by
  unfold fillOpenPage; split <;> simp

theorem keeps_clipCardEnd (s : State) : keeps s (clipCardEnd s) := by
  unfold clipCardEnd
  dsimp only
  split
  · split
    · refine keeps_of_watch ((watch_setClip rfl rfl rfl rfl).trans ?_)
      rw [watch_makeActive]
      exact watch_setClip (by simp) (by simp) (by simp) (by simp)
    · exact keeps_abortClip s
  · split
    · split
      · exact keeps_abortClip s
      · exact keeps_of_watch (watch_setClip (by simp) (by simp) (by simp) (by simp))
    · exact keeps_abortClip s

theorem keeps_fillRoom (room : Nat) (s : State) : keeps s (fillRoom room s) := by
  unfold fillRoom
  dsimp only
  have filled : keeps s (s.setClip (lay (fill room s.clip))) :=
    keeps_of_watch (watch_setClip (by simp) (by simp) (by simp) (by simp))
  split
  · exact filled.trans (keeps_clipCardEnd _)
  · exact filled

theorem keeps_clipLosesCard (x : CardSlot) (s : State) : keeps s (clipLosesCard x s) := by
  unfold clipLosesCard
  dsimp only
  have left : ∀ set, keeps s (s.setClip { s.clip with targets := set }) := fun _ => keeps_of_watch (watch_setClip rfl rfl rfl rfl)
  split
  · split
    · exact keeps_of_watch ((watch_dropDone _).trans (watch_retarget x s))
    · exact keeps_abortClip s
  · split
    · exact (left _).trans (keeps_abortClip _)
    · exact (left _).watched (watch_dropDone _)

theorem keeps_armedLosesCard (x : CardSlot) (s : State) : keeps s (armedLosesCard x s) := by
  unfold armedLosesCard
  dsimp only
  split
  · split
    · exact keeps_of_watch (watch_setClip rfl rfl rfl rfl)
    · split
      · exact keeps_of_watch ((watch_setClip rfl rfl rfl rfl).trans (watch_makeActive s _))
      · exact keeps_abortClip s
  · exact keeps_refl s

theorem keeps_cardLost (x : CardSlot) (s : State) : keeps s (cardLost x s) := by
  unfold cardLost
  dsimp only
  have failed : keeps s (s.setClip { s.clip with pages := s.clip.pages.map (markFailed x) }) :=
    keeps_of_watch (watch_setClip rfl rfl rfl rfl)
  split
  · exact failed.watched (by simp)
  · exact failed.trans (keeps_armedLosesCard x _)
  · split
    · exact failed.trans (keeps_clipLosesCard x _)
    · exact failed.watched (by simp)

theorem keeps_cardFull (x : CardSlot) (s : State) : keeps s (cardFull x s) := by
  unfold cardFull
  split
  · exact keeps_cardLost x s
  · exact keeps_of_watch (watch_releaseDrained s)

/-! ### Card rows (R45 to R69) -/

theorem keeps_failCard (x : CardSlot) (s : State) : keeps s (failCard x s) := by
  unfold failCard
  dsimp only
  generalize hu : dropChain x _ = u
  have hw : keeps s u := by
    rw [← hu]
    exact keeps_of_watch (by simp)
  have lost : keeps s (if (s.card x).state = .active then cardLost x u else u) := by
    split
    · exact hw.trans (keeps_cardLost x u)
    · exact hw
  refine lost.watched ?_
  rw [watch_continueErase]
  split <;> simp

theorem keeps_unlockRefused (x : CardSlot) (s : State) : keeps s (unlockRefused x s) := by
  unfold unlockRefused
  dsimp only
  have refused : keeps s (setCardState x .writeProtected (s.setCard x { s.card x with phase := .idle })) := keeps_of_watch (by simp)
  split
  · refine keeps.watched (t := if _ then _ else _) ?_ (watch_continueErase _ x)
    split
    · exact refused.trans (keeps_cardLost x _)
    · exact refused
  · exact keeps_failCard x s

theorem keeps_rollover (x : CardSlot) (s : State) : keeps s (rollover x s) := by
  unfold rollover
  dsimp only
  split
  · refine keeps_of_watch ?_
    split <;> simp
  · split
    · exact ((keeps_of_watch (by simp)).trans (keeps_cardFull x _)).watched (watch_postNotice _ _)
    · exact keeps_of_watch (by simp)
  · exact keeps_of_watch (by simp)

theorem keeps_eraseEnds (x : CardSlot) (err : Bool) (s : State) : keeps s (eraseEnds x err s) := by
  have outcome : ∀ e u, keeps u (eraseOutcome x e err u) := fun e u => by
    unfold eraseOutcome
    split
    · exact keeps_refl u
    · exact keeps_of_watch (by simp)
    · exact keeps_of_watch (by simp)
    · exact keeps_of_watch (by simp)
    · exact (keeps_of_watch (by simp)).trans (keeps_rollover x _)
  unfold eraseEnds
  dsimp only
  split
  · exact ((keeps_of_watch (watch_setCard _ _ _)).trans (outcome _ _)).watched (watch_afterErase _ x)
  · exact keeps_refl s

theorem watch_afterPage (x : CardSlot) (s : State) : watch (afterPage x s) = watch s := by
  unfold afterPage
  split <;> simp

theorem keeps_pageWritten (x : CardSlot) (s : State) : keeps s (pageWritten x s) := by
  unfold pageWritten
  dsimp only
  refine keeps.watched (t := if _ then _ else _) ?_ (watch_releaseDrained _)
  split
  · exact (keeps_of_watch (by simp [watch_afterPage])).trans (keeps_rollover x _)
  · exact keeps_of_watch (by simp [watch_afterPage])

theorem watch_heldNow (x : CardSlot) (s : State) : watch (heldNow x s) = watch s := by
  unfold heldNow
  dsimp only
  split <;> simp

theorem watch_wakeDone (x : CardSlot) (s : State) : watch (wakeDone x s) = watch s := by
  unfold wakeDone
  dsimp only
  rw [watch_reports]
  split <;> simp

theorem watch_unlockPageSeen_unlocked (x : CardSlot) {f : Byte} (s : State) (h : statusUnlocked f = true) :
    watch (unlockPageSeen x f s) = watch s := by
  unfold unlockPageSeen
  dsimp only
  rw [if_pos h]
  split <;> simp

/-- The response of every operation keeps the laws (R45, R57 to R63, R66, R69). -/
theorem keeps_statusSeen (x : CardSlot) (f : Byte) (s : State) : keeps s (statusSeen x f s) := by
  unfold statusSeen
  split
  · by_cases h : statusUnlocked f = true
    · exact keeps_of_watch (watch_unlockPageSeen_unlocked x s h)
    · simp only [unlockPageSeen, h]
      exact keeps_unlockRefused x s
  · unfold unlockEraseSeen
    dsimp only
    split
    · refine keeps_of_watch ?_
      split <;> simp
    · exact keeps_unlockRefused x s
  · unfold pageSeen
    split
    · exact keeps_refl s
    · split
      · exact keeps_failCard x s
      · exact keeps_pageWritten x s
  · split
    · unfold eraseSeen
      split
      · refine keeps_of_watch ?_
        split <;> simp
      · split
        · exact keeps_of_watch (watch_heldNow x s)
        · exact keeps_eraseEnds x _ s
    · exact keeps_refl s
  · unfold holdSeen
    split
    · exact keeps_of_watch (watch_heldNow x s)
    · split
      · exact keeps_of_watch (by simp)
      · exact keeps_eraseEnds x _ s
  · unfold continueSeen
    dsimp only
    split
    · exact keeps_of_watch (by simp)
    · exact (keeps_of_watch (by simp)).trans (keeps_eraseEnds x _ _)
  · split
    · exact keeps_refl s
    · exact keeps_of_watch (watch_wakeDone x s)
  · split
    · exact keeps_refl s
    · exact keeps_of_watch (by simp)
  · split
    · exact keeps_refl s
    · exact keeps_of_watch (by simp)
  · exact keeps_refl s

end Sys2Proof.Machine

namespace Sys2Proof.Machine

/-! ### Taking a completion and running a command (R72, R190, R191) -/

theorem filterMap_dropIgnored {β : Type} {f : Issued → Option β} (hf : ∀ i : Issued, i.dest = .ignored → f i = none) (l : List Issued) :
    (l.dropWhile fun i => i.dest == .ignored).filterMap f = l.filterMap f := by
  induction l with
  | nil => rfl
  | cons i l ih =>
    by_cases h : i.dest = .ignored
    · simp [List.dropWhile, h, ih, hf i h]
    · rw [List.dropWhile_cons_of_neg (by simpa using h)]

theorem hostSerial_ignored (i : Issued) (h : i.dest = .ignored) : hostSerial i = none := by simp [hostSerial, h]
theorem videoEnd_ignored (i : Issued) (h : i.dest = .ignored) : videoEnd i = none := by simp [videoEnd, h]

theorem nextCompletion_path {s s1 : State} {i : Issued} (h : nextCompletion s = some (i, s1)) :
    ∃ l, s.path.inFlight.dropWhile (fun i => i.dest == .ignored) = i :: l ∧ s1 = s.setPath { s.path with inFlight := l } := by
  unfold nextCompletion at h
  split at h
  · cases h
  · rename_i j l hl
    cases h
    exact ⟨l, hl, rfl⟩

/-- Completions come in issue order: what is in flight is what was, less the transaction that completed (R72). -/
theorem inFlight_nextCompletion {β : Type} {f : Issued → Option β} (hf : ∀ i : Issued, i.dest = .ignored → f i = none)
    {s s1 : State} {i : Issued} (h : nextCompletion s = some (i, s1)) :
    s.path.inFlight.filterMap f = (f i).toList ++ s1.path.inFlight.filterMap f := by
  obtain ⟨l, hl, rfl⟩ := nextCompletion_path h
  rw [← filterMap_dropIgnored hf, hl, List.filterMap_cons]
  cases f i <;> rfl

theorem hostSerials_nextCompletion {s s1 : State} {i : Issued} (h : nextCompletion s = some (i, s1)) :
    hostSerials s = (hostSerial i).toList ++ hostSerials s1 := inFlight_nextCompletion hostSerial_ignored h

theorem videoEnds_nextCompletion {s s1 : State} {i : Issued} (h : nextCompletion s = some (i, s1)) :
    videoEnds s = (videoEnd i).toList ++ videoEnds s1 := inFlight_nextCompletion videoEnd_ignored h

/-- A completion that belongs to no host entry and to no VIDEO chunk changes nothing that is watched. -/
theorem watch_nextCompletion {s s1 : State} {i : Issued} (h : nextCompletion s = some (i, s1)) (hh : hostSerial i = none)
    (hv : videoEnd i = none) : watch s1 = watch s := by
  have hosts : hostSerials s1 = hostSerials s := by simp [hostSerials_nextCompletion h, hh]
  have videos : videoEnds s1 = videoEnds s := by simp [videoEnds_nextCompletion h, hv]
  obtain ⟨l, -, rfl⟩ := nextCompletion_path h
  simp only [watch, hosts, videos]
  rfl

theorem watch_takeEntry {s s1 : State} (h : takeEntry s = some s1) : watch s1 = watch s := by
  unfold takeEntry at h
  split at h
  · cases h
  · split at h
    · rename_i hn
      cases h
      exact watch_nextCompletion hn rfl rfl
    · cases h

theorem keeps_runCommand {body : State → State × Result} (s : State) (h : ∀ u, keeps u (body u).1) : keeps s (runCommand s body) := by
  unfold runCommand
  split
  · exact keeps_refl s
  · rename_i s1 hs1
    exact ((keeps_of_watch (watch_takeEntry hs1)).trans (h s1)).watched (watch_finishCommand _ _)

/-- A command row whose effect is on nothing watched. -/
theorem rowKeeps_quietCommand {body : State → State × Result} (s : State) (h : ∀ u, watch (body u).1 = watch u) :
    rowKeeps (.next (runCommand s body)) s := rowKeeps_next (keeps_runCommand s fun u => keeps_of_watch (h u))

theorem keeps_runTableCommand (s : State) (good : Bool) (addr len : Nat) (phase : CommandPhase) :
    keeps s (runTableCommand s good addr len phase) := by
  unfold runTableCommand
  split
  · exact keeps_refl s
  · rename_i s1 hs1
    refine (keeps_of_watch (watch_takeEntry hs1)).watched ?_
    split
    · exact watch_setControl rfl rfl
    · exact watch_finishCommand _ _

/-! ### Card commands (R52, R65 to R67) -/

theorem watch_onSlot {f : CardSlot → State → State × Result} (h : ∀ x u, watch (f x u).1 = watch u) (slot : Byte) (s : State) :
    watch (onSlot slot f s).1 = watch s := by
  unfold onSlot
  split
  · exact h _ s
  · rfl

theorem watch_cardChainOn (h : EntryHead) (group : Word32) (x : CardSlot) (s : State) :
    watch (cardChainOn h group x s).1 = watch s := by
  unfold cardChainOn acceptChain
  dsimp only
  split
  · rfl
  · split <;> simp

theorem watch_cardSleepOn (h : EntryHead) (x : CardSlot) (s : State) : watch (cardSleepOn h x s).1 = watch s := by
  unfold cardSleepOn
  dsimp only
  split
  · rfl
  · split
    · split <;> simp
    · rfl

theorem watch_cardWakeOn (h : EntryHead) (x : CardSlot) (s : State) : watch (cardWakeOn h x s).1 = watch s := by
  unfold cardWakeOn
  dsimp only
  split
  · split <;> simp
  · rfl

theorem watch_cardEjectOn (h : EntryHead) (x : CardSlot) (s : State) : watch (cardEjectOn h x s).1 = watch s := by
  unfold cardEjectOn
  dsimp only
  split
  · rfl
  · split
    · rfl
    · rfl
    · rfl
    · split <;> simp
    · split <;> simp

theorem rowKeeps_cardChain (h : EntryHead) (slot : Byte) (group : Word32) (s : State) : rowKeeps (execCardChain h slot group s) s := by
  refine rowKeeps_quietCommand s (watch_onSlot (fun x u => ?_) slot)
  split
  · exact watch_cardChainOn h group x u
  · rfl

theorem rowKeeps_cardSleep (h : EntryHead) (slot : Byte) (s : State) : rowKeeps (execCardSleep h slot s) s :=
  rowKeeps_quietCommand s (watch_onSlot (watch_cardSleepOn h) slot)

theorem rowKeeps_cardWake (h : EntryHead) (slot : Byte) (s : State) : rowKeeps (execCardWake h slot s) s :=
  rowKeeps_quietCommand s (watch_onSlot (watch_cardWakeOn h) slot)

theorem rowKeeps_cardEject (h : EntryHead) (slot : Byte) (s : State) : rowKeeps (execCardEject h slot s) s :=
  rowKeeps_quietCommand s (watch_onSlot (watch_cardEjectOn h) slot)

/-! ### Insertion, probe and removal (R46, R47, R49) -/

theorem rowKeeps_cardDetectActive (x : CardSlot) (s : State) : rowKeeps (execCardDetectActive x s) s := by
  refine rowKeeps_next (keeps_of_watch ?_)
  split <;> simp

theorem rowKeeps_cardSettleExpiry (x : CardSlot) (s : State) : rowKeeps (execCardSettleExpiry x s) s := by
  refine rowKeeps_act (keeps_of_watch ?_)
  unfold settleExpiry
  dsimp only
  split <;> simp

theorem keeps_removeCard (x : CardSlot) (s : State) : keeps s (removeCard x s) := by
  unfold removeCard
  dsimp only
  have failed : keeps s (if (s.card x).state = .active then failCard x s else s) := by
    split
    · exact keeps_failCard x s
    · exact keeps_refl s
  exact failed.watched (by simp)

theorem rowKeeps_cardRemoval (x : CardSlot) (s : State) : rowKeeps (execCardRemoval x s) s := by
  refine rowKeeps_next ?_
  dsimp only
  split
  · exact keeps_refl s
  · split
    · exact keeps_of_watch (by simp)
    · exact (keeps_of_watch (watch_setCard _ _ _)).trans (keeps_removeCard x _)

theorem rowKeeps_cardIdentRetry (x : CardSlot) (s : State) : rowKeeps (execCardIdentRetry x s) s :=
  rowKeeps_act (keeps_of_watch (watch_updateCard _ _ _))

theorem keeps_identified (x : CardSlot) (i : CardIdentity) (s : State) : keeps s (identified x i s) := by
  unfold identified
  dsimp only
  split
  · exact (keeps_of_watch (watch_setCard _ _ _)).trans (keeps_failCard x _)
  · split <;> exact keeps_of_watch (by simp)

theorem rowKeeps_cardIdentResponse (x : CardSlot) (response : List Byte) (p : Bool) (s : State) :
    rowKeeps (execCardIdentResponse x response p s) s := by
  refine rowKeeps_act ?_
  unfold identResponse
  split
  · split
    · exact (keeps_of_watch (watch_updateCard _ _ _)).trans (keeps_identified x _ _)
    · exact keeps_refl s
  · exact keeps_refl s

theorem rowKeeps_cardIdentTimeout (x : CardSlot) (s : State) : rowKeeps (execCardIdentTimeout x s) s := by
  refine rowKeeps_act ?_
  split
  · exact keeps_failCard x s
  · exact keeps_refl s

/-! ### Polls, responses and timeouts (R45, R60, R64, R66) -/

theorem rowKeeps_cardStatusPoll (x : CardSlot) (elapsed : Nat) (s : State) : rowKeeps (execCardStatusPoll x elapsed s) s := by
  refine rowKeeps_act (keeps_of_watch ?_)
  unfold statusPoll
  dsimp only
  split
  · split <;> simp
  · rfl

theorem rowKeeps_cardStatusResponse (x : CardSlot) (response : List Byte) (p : Bool) (elapsed : Nat) (s : State) :
    rowKeeps (execCardStatusResponse x response p elapsed s) s := by
  refine rowKeeps_act ?_
  unfold statusResponse withProtect
  dsimp only
  split
  · exact (keeps_of_watch (by simp)).trans (keeps_statusSeen x _ _)
  · exact keeps_refl s

theorem rowKeeps_cardPageWriteTimeout (x : CardSlot) (s : State) : rowKeeps (execCardPageWriteTimeout x s) s := by
  refine rowKeeps_act ?_
  unfold pageWriteTimeout
  split
  · exact keeps_failCard x s
  · exact keeps_of_watch (by simp)
  · exact keeps_refl s

theorem keeps_eraseTimeout (x : CardSlot) (s : State) : keeps s (eraseTimeout x s) := by
  unfold eraseTimeout
  dsimp only
  split
  · split
    · exact keeps_of_watch (by simp)
    · split
      · exact keeps_of_watch (by simp)
      · exact ((keeps_of_watch (by simp)).trans (keeps_failCard x _)).watched (watch_reports _ _)
      · exact (keeps_of_watch (watch_setCard _ _ _)).trans (keeps_failCard x _)
  · exact keeps_refl s

theorem rowKeeps_cardEraseTimeout (x : CardSlot) (s : State) : rowKeeps (execCardEraseTimeout x s) s :=
  rowKeeps_act (keeps_eraseTimeout x s)

theorem rowKeeps_cardWakeTimeout (x : CardSlot) (s : State) : rowKeeps (execCardWakeTimeout x s) s := by
  refine rowKeeps_act ?_
  unfold wakeTimeout
  dsimp only
  split
  · exact ((keeps_of_watch (watch_setCard _ _ _)).trans (keeps_failCard x _)).watched (watch_reports _ _)
  · exact keeps_of_watch (by simp)
  · exact keeps_refl s

/-! ### Fetches, rollovers and starts (R53, R56, R58, R62) -/

theorem rowKeeps_cardDescriptorFetchDone (x : CardSlot) (data : List Byte) (p : Bool) (s : State) :
    rowKeeps (execCardDescriptorFetchDone x data p s) s := by
  refine rowKeeps_act (keeps_of_watch ?_)
  unfold descriptorFetchDone withProtect
  split
  · rename_i hn
    split
    · simp [watch_nextCompletion hn rfl rfl]
    · rfl
  · rfl

theorem rowKeeps_cardRollover (x : CardSlot) (s : State) : rowKeeps (execCardRollover x s) s := by
  refine rowKeeps_act ?_
  split
  · exact keeps_rollover x s
  · exact keeps_refl s

theorem rowKeeps_cardEraseStart (x : CardSlot) (s : State) : rowKeeps (execCardEraseStart x s) s := by
  refine rowKeeps_act (keeps_of_watch ?_)
  unfold eraseStart
  dsimp only
  split
  · split <;> simp
  · rfl

theorem rowKeeps_cardPageWriteStart (x : CardSlot) (s : State) : rowKeeps (execCardPageWriteStart x s) s := by
  refine rowKeeps_act (keeps_of_watch ?_)
  split <;> simp

end Sys2Proof.Machine

namespace Sys2Proof.Machine

/-! ### The rows of the Clip Assembler (R22 to R38) -/

theorem rowKeeps_recConfig (h : EntryHead) (mode gripRec : Byte) (chunkMax chunkMin : Word32) (s : State) :
    rowKeeps (execRecConfig h mode gripRec chunkMax chunkMin s) s := by
  refine rowKeeps_quietCommand s fun u => ?_
  unfold recConfigBody
  split
  · rfl
  · split <;> rfl

theorem rowKeeps_recStart (h : EntryHead) (clip : Word16) (s : State) : rowKeeps (execRecStart h clip s) s :=
  rowKeeps_next (keeps_runCommand s (keeps_recStart clip))

theorem rowKeeps_recStop (h : EntryHead) (s : State) : rowKeeps (execRecStop h s) s :=
  rowKeeps_next (keeps_runCommand s (keeps_recStop _))

/-! #### The choice of a chunk (R32, R33, R34, R38) -/

theorem atBoundary_spec {c : Clip} (h : atBoundary c = true) :
    (c.state = .recording ∨ c.state = .stopping) ∧ c.closed = false ∧ c.run = .none := by
  simp only [atBoundary, Bool.and_eq_true, Bool.or_eq_true, beq_iff_eq, Bool.not_eq_true'] at h
  obtain ⟨⟨⟨⟨⟨hstate, hclosed⟩, hrun⟩, -⟩, -⟩, -⟩ := h
  exact ⟨hstate, hclosed, hrun⟩

theorem noVideo_of_run {s : State} (h : s.clip.run = .none) : noVideo s := fun _ _ _ hv => by
  rw [h] at hv
  cases hv

theorem videoLength_le (s : State) : videoLength s ≤ backlog s := by
  unfold videoLength
  dsimp only
  split
  · exact (min_le_left _ _).trans (min_le_left _ _)
  · exact min_le_left _ _

/-- The backlog ends at or below cursor (R32). -/
theorem StreamFrame.backlog_le {s : State} (k : StreamFrame s) : s.tap.ship + backlog s ≤ s.tap.cursor := by
  have order := k.order
  have shipped := k.shipped
  unfold backlog
  split
  · have stopped := k.stopped ‹_›
    omega
  · omega

/-- A VIDEO chunk of the clip on the way ends at or below cursor (R33). -/
def pickFits (s : State) (p : ChunkPick) : Prop := ∀ l, p = .video l → l ≤ backlog s

theorem pickFits_chooseChunk {s : State} {p : ChunkPick} (h : chooseChunk s = some p) : pickFits s p := by
  rintro l rfl
  unfold chooseChunk at h
  split at h
  · cases h
  · split at h
    · cases h
    · split at h
      · cases h
        exact videoLength_le s
      · cases h

/-- The clip takes another run of payload reads (R33, R34). -/
def inRun (r : PayloadRun) (s : State) : State := s.setClip { s.clip with run := r }

theorem streamKept_inRun {r : PayloadRun} {s : State} (k : streamKept s) (hs : noVideo s) (hr : noVideo (inRun r s)) :
    streamKept (inRun r s) := by
  obtain ⟨frame, -, -⟩ := streamKept_iff.mp k
  exact streamKept_setClip k hs hr frame.idle frame.stopped

/-- A VIDEO chunk begins at ship, with none of its reads issued (R33). -/
theorem streamKept_beginVideo {s : State} {l : Nat} (k : streamKept s) (hb : atBoundary s.clip = true) (hl : l ≤ backlog s) :
    streamKept (inRun (.video s.tap.ship s.tap.ship (s.tap.ship + l)) s) := by
  obtain ⟨hstate, hclosed, hrun⟩ := atBoundary_spec hb
  obtain ⟨frame, span, video⟩ := streamKept_iff.mp k
  have none : videoEnds s = [] := videoEnds_eq_nil video (noVideo_of_run hrun)
  have hend := frame.backlog_le
  refine streamKept_iff.mpr ⟨frame.setClip frame.idle frame.stopped, span, ?_⟩
  have none' : videoEnds (inRun (.video s.tap.ship s.tap.ship (s.tap.ship + l)) s) = [] := none
  simp only [videoReadsKept, none']
  exact ⟨Nat.le_add_right _ _, show s.tap.ship + l ≤ s.tap.cursor by omega, .nil, by simp, hclosed, hstate⟩

@[simp] theorem watch_audioOverrunEndTest (s : State) : watch (audioOverrunEndTest s) = watch s := by
  unfold audioOverrunEndTest
  split
  · split <;> simp
  · rfl

theorem watch_beginAudio (i : BlockInfo) (s : State) : ∃ slot base, watch (beginAudio i s) = watch (inRun (.audio slot base 0 0) s) :=
  ⟨_, _, watch_audioOverrunEndTest _⟩

theorem keeps_layChunk {p : ChunkPick} {s : State} (hb : atBoundary s.clip = true) (hp : pickFits s p) : keeps s (layChunk p s) := by
  have still := noVideo_of_run (atBoundary_spec hb).2.2
  unfold layChunk
  dsimp only
  refine keeps.watched ?_ ((watch_presentClipRead _).trans (watch_setClip (lay_state _) (lay_stopPos _) (lay_run _) (lay_closed _)))
  split
  · exact keeps_of_watch (watch_setClip rfl rfl rfl rfl)
  · rename_i i
    obtain ⟨slot, base, hw⟩ := watch_beginAudio i s
    exact keeps.watched (t := inRun (.audio slot base 0 0) s)
      ⟨id, fun k => streamKept_inRun k still fun _ _ _ h => by simp [inRun] at h⟩ hw
  · rename_i l
    exact keeps.watched (t := inRun (.video s.tap.ship s.tap.ship (s.tap.ship + l)) s)
      ⟨id, fun k => streamKept_beginVideo k hb (hp l rfl)⟩ rfl

theorem fits_iff {r : Room} {n m : Nat} (h : r.bytes = some m) : fits r n = true ↔ n ≤ m := by simp [fits, h]

theorem keeps_fitChunk {p : ChunkPick} {s : State} (hb : atBoundary s.clip = true) (hp : pickFits s p) : keeps s (fitChunk p s) := by
  unfold fitChunk
  dsimp only
  split
  · exact keeps_layChunk hb hp
  · rename_i hfit
    split
    · exact keeps_refl s
    · split
      · rename_i l m hm
        split
        · refine keeps_layChunk hb fun l' e => ?_
          cases e
          have hl := hp l rfl
          have hover : ¬32 + l ≤ m := fun h => hfit ((fits_iff hm).mpr h)
          omega
        · exact keeps_fillRoom m s
      · exact keeps_fillRoom _ s
      · exact keeps_refl s

theorem rowKeeps_chunkChoice (s : State) : rowKeeps (execChunkChoice s) s := by
  refine rowKeeps_act ?_
  unfold chunkChoice
  split
  · exact keeps_refl s
  · rename_i hb
    have hb : atBoundary s.clip = true := by simpa using hb
    split
    · exact keeps_clipCardEnd s
    · split
      · rename_i p hp
        exact keeps_fitChunk hb (pickFits_chooseChunk hp)
      · exact keeps_refl s

/-! #### Payload returns (R5, R33, R34) -/

@[simp] theorem layPayload_state (bytes : List Byte) (c : Clip) : (layPayload bytes c).state = c.state := lay_state _
@[simp] theorem layPayload_stopPos (bytes : List Byte) (c : Clip) : (layPayload bytes c).stopPos = c.stopPos := lay_stopPos _
@[simp] theorem layPayload_run (bytes : List Byte) (c : Clip) : (layPayload bytes c).run = c.run := lay_run _
@[simp] theorem layPayload_closed (bytes : List Byte) (c : Clip) : (layPayload bytes c).closed = c.closed := lay_closed _

/-- The run of a VIDEO chunk once the range up to `stop` has returned (R33). -/
def runAfter (stop : Nat) : PayloadRun → PayloadRun
  | .video next _ last => if stop < last then .video next stop last else .none
  | r => r

theorem videoReturn_eq (data : List Byte) (start stop skip : Nat) (s : State) : videoReturn data start stop skip s =
    reportShipped stop (s.setClip (layPayload ((data.drop skip).take (stop - start)) { s.clip with run := runAfter stop s.clip.run })) :=
  rfl

/-- What is in flight of a VIDEO chunk when its oldest read returns (R33). -/
theorem videoReadsKept_return {s s1 : State} {i : Issued} {stop : Nat} (hn : nextCompletion s = some (i, s1))
    (hi : videoEnd i = some stop) (k : videoReadsKept s) :
    stop ≤ s.tap.cursor ∧ videoReadsKept (inRun (runAfter stop s1.clip.run) s1) := by
  have hends : videoEnds s = stop :: videoEnds s1 := by rw [videoEnds_nextCompletion hn, hi]; rfl
  have hclip : s1.clip = s.clip := by
    obtain ⟨l, -, rfl⟩ := nextCompletion_path hn
    rfl
  have htap : s1.tap = s.tap := by
    obtain ⟨l, -, rfl⟩ := nextCompletion_path hn
    rfl
  unfold videoReadsKept at k
  rw [hends] at k
  split at k
  · rename_i next back last hrun
    obtain ⟨hnext, hlast, hrise, hle, hopen, hstate⟩ := k
    obtain ⟨hfirst, hrise⟩ := List.pairwise_cons.mp hrise
    have hstop := hle stop (List.mem_cons_self ..)
    refine ⟨by omega, ?_⟩
    rw [hclip, hrun, runAfter]
    split
    · simp only [videoReadsKept, inRun, State.setClip_clip, State.setClip_tap, hclip, htap]
      exact ⟨hnext, hlast, hrise, fun e he => hle e (List.mem_cons_of_mem _ he), hopen, hstate⟩
    · refine videoReadsKept_of_nil (noVideo_of_run rfl) (List.eq_nil_iff_forall_not_mem.mpr fun e he => ?_)
      have h1 := hfirst e he
      have h2 := hle e (List.mem_cons_of_mem _ he)
      omega
  · cases k

theorem keeps_videoReturn {data : List Byte} {start stop skip : Nat} {s s1 : State} {t : Transaction}
    (hn : nextCompletion s = some (⟨t, .video start stop skip⟩, s1)) : keeps s (videoReturn data start stop skip s1) := by
  have hw : watch (s1.setClip (layPayload ((data.drop skip).take (stop - start)) { s1.clip with run := runAfter stop s1.clip.run })) =
      watch (inRun (runAfter stop s1.clip.run) s1) := by
    refine (watch_setClip (s := inRun (runAfter stop s1.clip.run) s1) ?_ ?_ ?_ ?_) <;> simp [inRun]
  have hosts : hostSerials s1 = hostSerials s := by simp [hostSerials_nextCompletion hn, hostSerial]
  obtain ⟨l, -, hs1⟩ := nextCompletion_path hn
  rw [videoReturn_eq]
  constructor
  · intro k
    refine placesKept_reportShipped (placesKept_of_watch hw ?_)
    rw [hs1]
    exact k
  · intro k
    obtain ⟨frame, span, video⟩ := streamKept_iff.mp k
    obtain ⟨hstop, video'⟩ := videoReadsKept_return hn rfl video
    have frame' : StreamFrame (inRun (runAfter stop s1.clip.run) s1) := by
      have f1 : StreamFrame s1 := by
        rw [hs1] at hosts ⊢
        exact { frame with flying := hosts ▸ frame.flying, hold := hosts ▸ frame.hold }
      exact f1.setClip f1.idle f1.stopped
    have span' : spanFits (inRun (runAfter stop s1.clip.run) s1) := by
      rw [hs1]
      exact span
    refine (keepsEach_reportShipped ?_).keeps.2 (streamKept_of_watch hw (streamKept_iff.mpr ⟨frame', span', video'⟩))
    rw [cursor_of_watch hw, hs1]
    exact hstop

theorem rowKeeps_videoPayloadReadReturn (data : List Byte) (s : State) : rowKeeps (execVideoPayloadReadReturn data s) s := by
  refine rowKeeps_act ?_
  unfold videoPayloadReadReturn
  split
  · rename_i hn
    split
    · exact keeps_videoReturn hn
    · exact keeps_refl s
  · exact keeps_refl s

/-- The run of an AUDIO chunk once a line has returned (R34). -/
def runAfterLine : PayloadRun → PayloadRun
  | .audio slot base next returned => if returned + 1 < Config.blockLines then .audio slot base next (returned + 1) else .none
  | r => r

theorem runAfterLine_eq_video {r : PayloadRun} {next back last : Nat} : runAfterLine r = .video next back last ↔ r = .video next back last := by
  cases r with
  | audio slot base next returned =>
    simp only [runAfterLine]
    split <;> simp
  | _ => rfl

theorem streamKept_runAfterLine {s : State} (k : streamKept s) : streamKept (inRun (runAfterLine s.clip.run) s) := by
  by_cases h : noVideo s
  · exact streamKept_inRun k h fun _ _ _ hv => h _ _ _ (runAfterLine_eq_video.mp hv)
  · have same : runAfterLine s.clip.run = s.clip.run := by
      unfold noVideo at h
      push Not at h
      obtain ⟨next, back, last, hv⟩ := h
      rw [hv]
      rfl
    rw [same]
    exact k

theorem rowKeeps_audioPayloadReadReturn (data : List Byte) (s : State) : rowKeeps (execAudioPayloadReadReturn data s) s := by
  refine rowKeeps_act ?_
  unfold audioPayloadReadReturn
  split
  · rename_i t s1 hn
    split
    · have taken : keeps s s1 := keeps_of_watch (watch_nextCompletion hn rfl rfl)
      refine taken.trans (keeps.watched (t := inRun (runAfterLine s1.clip.run) s1) ⟨id, streamKept_runAfterLine⟩ ?_)
      exact watch_setClip (s := inRun (runAfterLine s1.clip.run) s1) (layPayload_state _ _) (layPayload_stopPos _ _) (layPayload_run _ _)
        (layPayload_closed _ _)
    · exact keeps_refl s
  · exact keeps_refl s

/-! #### Pages and the end of a clip (R28, R36, R37, R39) -/

theorem rowKeeps_pageOpen (s : State) : rowKeeps (execPageOpen s) s := by
  refine rowKeeps_act ?_
  unfold pageOpen
  split
  · refine keeps_of_watch ((watch_presentClipRead _).trans (watch_setClip ?_ ?_ ?_ ?_)) <;> split <;> simp [addClipHead]
  · exact keeps_refl s

theorem keeps_layClosing {s : State} (hb : atBoundary s.clip = true) : keeps s (layClosing s) := by
  obtain ⟨-, -, hrun⟩ := atBoundary_spec hb
  refine ⟨id, fun k => ?_⟩
  obtain ⟨frame, -, -⟩ := streamKept_iff.mp k
  unfold layClosing
  dsimp only
  refine streamKept_setClip k (noVideo_of_run hrun) (noVideo_of_run ?_) ?_ ?_ <;> simp [layIndex, addChunk, hrun]
  · exact frame.idle
  · exact frame.stopped

theorem rowKeeps_clipClose (s : State) : rowKeeps (execClipClose s) s := by
  refine rowKeeps_act ?_
  unfold clipClose
  split
  · exact keeps_refl s
  · rename_i hdue
    have hdue : closingDue s = true := by simpa using hdue
    have hb : atBoundary s.clip = true := by
      simp only [closingDue, Bool.and_eq_true] at hdue
      obtain ⟨⟨⟨-, hb⟩, -⟩, -⟩ := hdue
      exact hb
    dsimp only
    split
    · exact keeps_clipCardEnd s
    · split
      · exact keeps_layClosing hb
      · split
        · exact keeps_refl s
        · exact keeps_fillRoom _ s

theorem rowKeeps_recordingStopped (s : State) : rowKeeps (execRecordingStopped s) s := by
  refine rowKeeps_act ?_
  unfold recordingStopped
  split
  · rename_i h
    obtain ⟨-, hclosed, -, -⟩ := h
    dsimp only
    refine keeps.watched (t := s.setClip { s.clip with
      state := .idle, stopCmd := none, closed := false, shipPtr := none, audioDiscontinuity := false }) ⟨id, fun k => ?_⟩ (by simp)
    have still := noVideo_of_kept k (.inl hclosed)
    exact streamKept_setClip k still still (fun _ => rfl) (by simp)
  · exact keeps_refl s

end Sys2Proof.Machine

namespace Sys2Proof.Machine

/-! ### The rows of the Audio Unit (R145 to R160) -/

theorem keeps_setAudio {s : State} {v : Audio} (h : s.audio.store.length ≤ 8 → v.store.length ≤ 8) : keeps s (s.setAudio v) := by
  refine ⟨fun k => ?_, fun k => ?_⟩
  · obtain ⟨hq, hg, he, hst, rest⟩ := placesKept_iff.mp k
    exact placesKept_iff.mpr ⟨hq, hg, he, h hst, rest⟩
  · obtain ⟨frame, span, video⟩ := streamKept_iff.mp k
    exact streamKept_iff.mpr ⟨{ frame with }, span, video⟩

theorem keeps.after {s t u : State} (k : keeps t u) (h : watch t = watch s) : keeps s u := (keeps_of_watch h).trans k

theorem keeps_emptyStore {s : State} {v : Audio} (h : v.store = []) : keeps s (s.setAudio v) :=
  keeps_setAudio fun _ => by simp [h]

theorem watch_markSlotStart (slot : Nat) (s : State) : watch (markSlotStart slot s) = watch s := by
  unfold markSlotStart
  split
  · split
    · exact watch_setClip rfl rfl rfl rfl
    · rfl
  · rfl

theorem watch_overwriteEffect (b : Word32) (old : BlockRecord) (s : State) : watch (overwriteEffect b old s) = watch s := by
  unfold overwriteEffect
  split
  · split
    · exact (watch_startCause _ _).trans (watch_setClip rfl rfl rfl rfl)
    · rfl
  · rfl

theorem watch_startBlock (s : State) : watch (startBlock s) = watch s := by
  unfold startBlock
  dsimp only
  rw [watch_audioOverrunEndTest, watch_overwriteEffect, watch_markSlotStart]
  exact watch_setAudio rfl

theorem flagCurrent_store (f : BlockFlags → BlockFlags) (a : Audio) : (flagCurrent f a).store = a.store := by
  unfold flagCurrent
  split <;> rfl

theorem watch_audioSlip (s : State) : watch (audioSlip s) = watch s :=
  (watch_startCause _ _).trans (watch_setAudio (flagCurrent_store _ _))

theorem takeFrame_store (base : Nat) (f : AudioFrame) (a : Audio) : (takeFrame base f a).store = a.store := by
  unfold takeFrame
  split
  · rfl
  · dsimp only
    split <;> rfl

theorem keeps_drain (s : State) : keeps s (drain s).2 := by
  unfold drain
  split
  · rename_i f rest hs
    refine keeps_setAudio fun h => ?_
    rw [hs] at h
    exact (Nat.le_succ _).trans h
  · exact keeps_of_watch (watch_audioSlip s)

theorem keeps_periodFrame (received : BitVec 128) (s : State) : keeps s (periodFrame received s).2 := by
  unfold periodFrame
  split
  · exact keeps_refl s
  · split
    · exact keeps_refl s
    · exact keeps_drain s
  · split
    · exact keeps_refl s
    · exact keeps_drain s
  · exact keeps_refl s

theorem usePeriodFrame_store (base : Nat) (p : PeriodFrame) (a : Audio) : (usePeriodFrame base p a).store = a.store :=
  (takeFrame_store _ _ _).trans (flagCurrent_store _ _)

theorem rowKeeps_samplePeriod (received : BitVec 128) (s : State) : rowKeeps (execSamplePeriod received s) s := by
  refine rowKeeps_act ?_
  unfold samplePeriod
  split
  · exact keeps_refl s
  · dsimp only
    generalize hs1 : (if windowFull s.audio then s.setAudio (windowEnd s.audio) else s) = s1
    generalize hs2 : (if blockDue s1.audio then startBlock s1 else s1) = s2
    have h1 : watch s1 = watch s := by
      rw [← hs1]
      split
      · exact watch_setAudio rfl
      · rfl
    have h2 : watch s2 = watch s := by
      rw [← hs2, ← h1]
      split
      · exact watch_startBlock s1
      · rfl
    exact ((keeps_of_watch h2).trans (keeps_periodFrame received s2)).watched (watch_setAudio (usePeriodFrame_store _ _ _))

theorem rowKeeps_meterWindowEnd (s : State) : rowKeeps (execMeterWindowEnd s) s := by
  refine rowKeeps_act (keeps_of_watch ?_)
  split
  · exact watch_setAudio rfl
  · rfl

/-- The elastic store gives up its head when a ninth frame arrives (R150, R151). -/
theorem keeps_arrival (f : AudioFrame) (r : Bool) (s : State) : keeps s (arrival f r s) := by
  have primed : ∀ t, watch (primingTest t) = watch t := fun t => by
    unfold primingTest
    split
    · exact (watch_endCause _ _).trans (watch_setAudio rfl)
    · rfl
  unfold arrival
  refine keeps.watched ?_ (primed _)
  dsimp only
  split
  · rename_i h
    refine keeps_setAudio fun _ => ?_
    have h : s.audio.store.length < 8 := h
    simp only [List.length_append, List.length_singleton]
    omega
  · refine (keeps_of_watch (watch_audioSlip s)).trans (keeps_setAudio fun h => ?_)
    have same : (audioSlip s).audio.store = s.audio.store := congrArg Watched.store (watch_audioSlip s)
    rw [same] at h
    simp only [List.length_append, List.length_drop, List.length_singleton]
    omega

theorem keeps_enterSeek (run : Nat) (s : State) : keeps s (enterSeek run s) := by
  unfold enterSeek
  dsimp only
  generalize hu : s.setAudio _ = u
  have emptied : keeps s u := by
    rw [← hu]
    exact keeps_emptyStore rfl
  split
  · exact emptied.watched (watch_startCause _ _)
  · exact emptied

theorem keeps_seekSync (bits : Nat) (s : State) : keeps s (seekSync bits s) := by
  unfold seekSync
  extract_lets run
  split
  · exact keeps_emptyStore rfl
  · exact keeps_of_watch (watch_setAudio rfl)

theorem keeps_lockedSync (bits : Nat) (sdin : BitVec 128) (s : State) : keeps s (lockedSync bits sdin s) := by
  unfold lockedSync
  split
  · exact (keeps_arrival _ _ _).after (watch_setAudio rfl)
  · exact (keeps_enterSeek _ _).after (watch_setAudio rfl)

theorem rowKeeps_frameSync (edges : Nat) (sdin : BitVec 128) (s : State) : rowKeeps (execFrameSync edges sdin s) s := by
  refine rowKeeps_act ?_
  unfold frameSync
  split
  · exact keeps_seekSync _ s
  · exact keeps_lockedSync _ _ s
  · exact keeps_lockedSync _ _ s
  · exact keeps_refl s

theorem rowKeeps_missingFrame (s : State) : rowKeeps (execMissingFrame s) s := by
  refine rowKeeps_act ?_
  unfold missingFrame
  dsimp only
  split
  · exact (keeps_arrival _ _ _).after (watch_setAudio rfl)
  · split
    · exact (keeps_enterSeek _ _).after (watch_setAudio rfl)
    · exact (keeps_arrival _ _ _).after (watch_setAudio rfl)
  · exact keeps_refl s

theorem rowKeeps_audioSlipTimerExpiry (s : State) : rowKeeps (execAudioSlipTimerExpiry s) s := by
  refine rowKeeps_act (keeps_of_watch ?_)
  split
  · exact (watch_endCause _ _).trans (watch_setAudio rfl)
  · rfl

theorem keeps_audioConfigBody (role enables : Byte) (s : State) : keeps s (audioConfigBody role enables s).1 := by
  unfold audioConfigBody
  split
  · exact keeps_refl s
  · split
    · exact keeps_refl s
    · exact (keeps_emptyStore rfl).watched (watch_reports _ _)

theorem rowKeeps_audioConfig (h : EntryHead) (role enables : Byte) (s : State) : rowKeeps (execAudioConfig h role enables s) s :=
  rowKeeps_next (keeps_runCommand s (keeps_audioConfigBody role enables))

theorem keeps_audioOffBody (s : State) : keeps s (audioOffBody s).1 := by
  unfold audioOffBody
  split
  · exact keeps_refl s
  · dsimp only
    generalize hu : s.setAudio _ = u
    have emptied : keeps s u := by
      rw [← hu]
      exact keeps_emptyStore rfl
    refine emptied.watched ((watch_reports _ _).trans ?_)
    split
    · rfl
    · exact watch_setClip rfl rfl rfl rfl

theorem rowKeeps_audioOff (h : EntryHead) (s : State) : rowKeeps (execAudioOff h s) s :=
  rowKeeps_next (keeps_runCommand s keeps_audioOffBody)

end Sys2Proof.Machine

namespace Sys2Proof.Machine

/-! ### Free places of the report ring (R175, R176, R196) -/

/-- The receive queue holds at most Q of at most 8 messages, and none unless the link runs (R172, R175). -/
def linkKept (a : Acc) : Prop := a.queue.length ≤ a.q ∧ a.q ≤ 8 ∧ (a.link ≠ .running → a.queue = [])

theorem keeps_setAcc {s : State} {v : Acc} (h : linkKept s.acc → linkKept v) : keeps s (s.setAcc v) := by
  refine ⟨fun k => ?_, fun k => ?_⟩
  · obtain ⟨hq, hg, he, hst, hl, hn⟩ := placesKept_iff.mp k
    exact placesKept_iff.mpr ⟨hq, hg, he, hst, h hl, hn⟩
  · obtain ⟨frame, span, video⟩ := streamKept_iff.mp k
    exact streamKept_iff.mpr ⟨{ frame with }, span, video⟩

theorem keeps_setControl {s : State} {v : Control} (h : noticesKept s → noticesKept (s.setControl v)) : keeps s (s.setControl v) := by
  refine ⟨fun k => ?_, fun k => ?_⟩
  · obtain ⟨hq, hg, he, hst, hl, hn⟩ := placesKept_iff.mp k
    exact placesKept_iff.mpr ⟨hq, hg, he, hst, hl, h hn⟩
  · obtain ⟨frame, span, video⟩ := streamKept_iff.mp k
    exact streamKept_iff.mpr ⟨{ frame with }, span, video⟩

theorem keeps_writeRing (bytes : List Byte) {s : State} (h : unread s < 64) : keeps s (writeRing bytes s) :=
  keeps_setControl (v := (writeRing bytes s).control) fun k =>
    ⟨(unread_succ (s := s) (t := s.setControl (writeRing bytes s).control) rfl rfl h).trans_le h, k.2⟩

theorem keeps_writeNotice (p : StampedNotice) {s : State} (h : unread s < 64) : keeps s (writeNotice p s) :=
  (keeps_writeRing _ h).watched (watch_clearNoticeCount _ _)

theorem keeps_writeQueueHead {m : QueueMessage} {rest : List QueueMessage} {s : State} (hq : s.acc.queue = m :: rest)
    (h : unread s < 64) : keeps s (writeQueueHead m rest s) := by
  unfold writeQueueHead
  dsimp only
  generalize noticeBytes _ _ _ _ _ = bytes
  have taken : keeps (writeRing bytes s) ((writeRing bytes s).setAcc { s.acc with queue := rest }) := by
    refine keeps_setAcc fun k => ?_
    obtain ⟨hle, hcap, hoff⟩ : linkKept s.acc := k
    rw [hq] at hle hoff
    exact ⟨(Nat.le_succ _).trans hle, hcap, fun hn => by cases hoff hn⟩
  refine ((keeps_writeRing bytes h).trans taken).watched ?_
  split
  · exact watch_endCause _ _
  · rfl

theorem keeps_fillRing (fuel : Nat) (s : State) : keeps s (fillRing fuel s) := by
  induction fuel generalizing s with
  | zero => exact keeps_refl s
  | succ fuel ih =>
    unfold fillRing
    split
    · rename_i hroom
      split
      · rename_i p rest hp
        have left : keeps s (s.setControl { s.control with pendingNotices := rest }) := by
          refine keeps_setControl fun k => ⟨k.1, ?_⟩
          have pairs := k.2
          rw [hp] at pairs
          exact (List.pairwise_cons.mp pairs).2
        exact (left.trans (keeps_writeNotice p hroom)).trans (ih _)
      · split
        · exact (keeps_writeQueueHead ‹_› hroom).trans (ih _)
        · exact keeps_refl s
    · exact keeps_refl s

/-! ### The rows of the Accessory Link Controller (R164 to R184) -/

theorem watch_setLinkBuffer (i : Fin 16) (b : LinkBuffer) (s : State) : watch (setLinkBuffer i b s) = watch s := watch_setAcc rfl rfl rfl

theorem watch_linkError (s : State) : watch (linkError s) = watch s := by
  refine (watch_setAcc rfl rfl rfl).trans ?_
  split
  · exact watch_startCause _ _
  · rfl

theorem watch_moveWindow (s : State) : watch (moveWindow s) = watch s := by
  unfold moveWindow
  dsimp only
  split
  · exact (watch_endCause _ _).trans (watch_setAcc rfl rfl rfl)
  · exact watch_setAcc rfl rfl rfl

theorem keeps_enterConfig (s : State) : keeps s (enterConfig s) := by
  unfold enterConfig
  dsimp only
  generalize hu : s.setAcc _ = u
  have emptied : keeps s u := by
    rw [← hu]
    exact keeps_setAcc fun k => ⟨Nat.zero_le _, k.2.1, fun _ => rfl⟩
  exact emptied.watched (watch_reports _ _)

theorem watch_ageBuffer (s : State) (i : Fin 16) : watch (ageBuffer s i) = watch s := by
  have stale : ∀ r t, watch (becomesStale i r t) = watch t := fun r t => by
    unfold becomesStale
    split
    · exact watch_startCause _ _
    · exact (watch_postNotice _ _).trans (watch_setLinkBuffer _ _ _)
    · rfl
  unfold ageBuffer
  split
  · dsimp only
    split
    · exact (stale _ _).trans (watch_setLinkBuffer _ _ _)
    · exact watch_setLinkBuffer _ _ _
  · rfl

theorem watch_fillBound (s : State) (i : Fin 16) : watch (fillBound s i) = watch s := by
  unfold fillBound
  split
  · split
    · exact watch_setLinkBuffer _ _ _
    · rfl
  · rfl

theorem watch_foldl {α : Type} {f : State → α → State} (h : ∀ s a, watch (f s a) = watch s) (l : List α) (s : State) :
    watch (l.foldl f s) = watch s := by
  induction l generalizing s with
  | nil => rfl
  | cons a l ih => exact (ih _).trans (h s a)

theorem keeps_startCycle (s : State) : keeps s (startCycle s) := by
  unfold startCycle
  dsimp only
  generalize hu : s.setAcc _ = u
  have run : keeps s u := by
    rw [← hu]
    exact keeps_setAcc fun k => ⟨k.1, k.2.1, fun h => absurd rfl h⟩
  have aged : watch (bufferIndices.foldl ageBuffer (moveWindow u)) = watch u :=
    (watch_foldl watch_ageBuffer _ _).trans (watch_moveWindow u)
  generalize bufferIndices.foldl ageBuffer (moveWindow u) = v at aged ⊢
  have filled : watch (bufferIndices.foldl fillBound v) = watch u := (watch_foldl watch_fillBound _ _).trans aged
  generalize bufferIndices.foldl fillBound v = t at filled ⊢
  exact run.watched ((watch_setAcc rfl rfl rfl).trans filled)

theorem rowKeeps_cycleInstant (s : State) : rowKeeps (execCycleInstant s) s := by
  refine rowKeeps_act ?_
  unfold cycleInstant
  split
  · exact keeps_refl s
  · split
    · exact (keeps_startCycle s).watched (watch_reports _ _)
    · exact keeps_refl s
  · split
    · exact (keeps_enterConfig s).watched (watch_reports _ _)
    · exact keeps_startCycle s

/-! #### Reception (R166 to R180) -/

theorem keeps_bufferReceives (i : Fin 16) (old : ReceiveBuffer) (data : List Byte) (s : State) : keeps s (bufferReceives i old data s) := by
  have grip : ∀ t, keeps t (gripReceived old data t) := fun t => by
    unfold gripReceived
    split
    · exact keeps_of_watch (watch_endCause _ _)
    · split
      · exact keeps_gripPress t
      · exact keeps_refl t
  have host : ∀ r t, watch (hostReceived i r data t) = watch t := fun r t => by
    unfold hostReceived
    split
    · rfl
    · exact (watch_postNotice _ _).trans (watch_setLinkBuffer _ _ _)
  unfold bufferReceives
  dsimp only
  split
  · exact (grip _).after (watch_setLinkBuffer _ _ _)
  · exact keeps_of_watch ((host _ _).trans (watch_setLinkBuffer _ _ _))
  · exact keeps_of_watch (watch_setLinkBuffer _ _ _)

theorem keeps_queueReceives {m : QueueMessage} {s : State} (hl : s.acc.link = .running) : keeps s (queueReceives m s) := by
  unfold queueReceives
  split
  · rename_i h
    have joins : keeps s (s.setAcc { s.acc with queue := s.acc.queue ++ [m] }) :=
      keeps_setAcc fun k => ⟨by simpa using h, k.2.1, fun hn => absurd hl hn⟩
    exact joins.trans (keeps_fillRing _ _)
  · exact keeps_of_watch (watch_startCause _ _)

theorem keeps_routeMessage {n : BitVec 4} {data : List Byte} {s : State} (hl : s.acc.link = .running) :
    keeps s (routeMessage n data s) := by
  unfold routeMessage
  split
  · split
    · exact keeps_bufferReceives _ _ _ s
    · exact keeps_refl s
  · split
    · exact keeps_queueReceives hl
    · exact keeps_refl s

theorem watch_markHeard (n : BitVec 4) (s : State) : watch (markHeard n s) = watch s := watch_setAcc rfl rfl rfl

theorem rowKeeps_accMessageReceive (slot : BitVec 4) (m : LinkMessage) (s : State) : rowKeeps (execAccMessageReceive slot m s) s := by
  unfold execAccMessageReceive
  split
  · exact rowKeeps_fault _ s
  · refine rowKeeps_act ?_
    unfold messageReceive
    split
    · rename_i h
      have hl : s.acc.link = .running := by
        simp only [slotOpen, Bool.and_eq_true, beq_iff_eq] at h
        obtain ⟨⟨hl, -⟩, -⟩ := h
        exact hl
      dsimp only
      split
      · exact (keeps_routeMessage (s := markHeard slot s) hl).after (watch_markHeard slot s)
      · exact keeps_of_watch ((watch_linkError _).trans (watch_markHeard slot s))
    · exact keeps_refl s

theorem rowKeeps_accSlotEnd (slot : BitVec 4) (s : State) : rowKeeps (execAccSlotEnd slot s) s := by
  refine rowKeeps_act (keeps_of_watch ?_)
  split
  · exact (watch_linkError _).trans (watch_markHeard slot s)
  · rfl

theorem rowKeeps_accSlotStart (slot : BitVec 4) (s : State) : rowKeeps (execAccSlotStart slot s) s := by
  have idle : watch (s.setAcc { s.acc with line := .released }) = watch s := watch_setAcc rfl rfl rfl
  refine rowKeeps_act (keeps_of_watch ?_)
  unfold slotStart
  dsimp only
  split
  · split
    · split
      · split
        · exact (watch_setAcc rfl rfl rfl).trans (watch_setLinkBuffer _ _ _)
        · exact idle
      · exact idle
    · exact idle
  · rfl

theorem rowKeeps_accTransmitDone (s : State) : rowKeeps (execAccTransmitDone s) s := by
  refine rowKeeps_act (keeps_of_watch ?_)
  unfold transmitDone
  split
  · exact (watch_reports _ _).trans (watch_setAcc rfl rfl rfl)
  · rfl

/-! #### Commands of the link (R169 to R174, R181) -/

theorem rowKeeps_accConfigBegin (h : EntryHead) (s : State) : rowKeeps (execAccConfigBegin h s) s := by
  refine rowKeeps_next (keeps_runCommand s fun u => ?_)
  unfold configBeginBody
  split
  · exact keeps_enterConfig u
  · exact keeps_of_watch ((watch_reports _ _).trans (watch_setAcc rfl rfl rfl))
  · split
    · exact keeps_refl u
    · exact keeps_of_watch (watch_setAcc rfl rfl rfl)

theorem rowKeeps_accConfigEnd (h : EntryHead) (s : State) : rowKeeps (execAccConfigEnd h s) s := by
  refine rowKeeps_quietCommand s fun u => ?_
  unfold configEndBody
  split
  · split
    · rfl
    · exact watch_setAcc rfl rfl rfl
  · rfl

/-- Q is set in CONFIG, where the receive queue is empty, and to at most 8 (R172). -/
theorem keeps_linkSetBody (period q : Byte) (s : State) : keeps s (linkSetBody period q s).1 := by
  unfold linkSetBody
  split
  · rename_i hconf
    split
    · split
      · exact keeps_refl s
      · rename_i hq
        refine keeps_setAcc fun k => ?_
        have hle : queueLengthOf q ≤ 8 := by
          by_contra h
          exact hq (.inl (by omega))
        have hl : s.acc.link = .config := by
          simp only [configurable, Bool.and_eq_true, beq_iff_eq] at hconf
          exact hconf.1
        have empty := k.2.2 (by simp [hl])
        exact ⟨by simp [empty], hle, fun _ => empty⟩
    · exact keeps_refl s
  · exact keeps_refl s

theorem rowKeeps_accLinkSet (h : EntryHead) (period q : Byte) (s : State) : rowKeeps (execAccLinkSet h period q s) s :=
  rowKeeps_next (keeps_runCommand s (keeps_linkSetBody period q))

theorem rowKeeps_accFilterSet (h : EntryHead) (ae ac am re rc rm : Byte) (s : State) :
    rowKeeps (execAccFilterSet h ae ac am re rc rm s) s := by
  refine rowKeeps_quietCommand s fun u => ?_
  unfold filterSetBody
  split
  · split
    · exact watch_setAcc rfl rfl rfl
    · rfl
  · rfl

theorem rowKeeps_accBufferSet (h : EntryHead) (index direction identifier owner mode staleCycles : Byte) (s : State) :
    rowKeeps (execAccBufferSet h index direction identifier owner mode staleCycles s) s := by
  refine rowKeeps_quietCommand s fun u => ?_
  unfold bufferSetBody
  dsimp only
  split
  · split
    · split
      · split
        · refine (watch_setLinkBuffer _ _ _).trans ?_
          split
          · exact watch_endCause _ _
          · rfl
        · rfl
      · rfl
    · rfl
  · rfl

theorem rowKeeps_accSend (h : EntryHead) (index length : Byte) (data : List Byte) (s : State) :
    rowKeeps (execAccSend h index length data s) s := by
  have send : ∀ k i t d u, watch (sendContent k i t d u).1 = watch u := fun k i t d u => by
    unfold sendContent
    split
    · exact (watch_reports _ _).trans (watch_setLinkBuffer _ _ _)
    · exact watch_setLinkBuffer _ _ _
  unfold execAccSend
  split
  · exact rowKeeps_fault _ s
  · refine rowKeeps_quietCommand s fun u => ?_
    unfold accSendBody
    dsimp only
    split
    · split
      · split
        · exact send _ _ _ _ u
        · rfl
      · rfl
    · rfl

end Sys2Proof.Machine

namespace Sys2Proof.Machine

/-! ### The arbiter (R81 to R84) -/

/-- One entry of the queue is changed, and what is in flight becomes `l` (R70, R72). -/
def touched (n : Nat) (f : QueueEntry → QueueEntry) (l : List Issued) (s : State) : State :=
  s.setPath { s.path with queue := s.path.queue.map fun e => if e.serial = n then f e else e, inFlight := l }

/-- The serial belongs to an entry that is not held, or to a transaction in flight: so it is none of a held write (R79). -/
def neverHeld (n : Nat) (s : State) : Prop := (∃ e ∈ s.path.queue, e.serial = n ∧ e.progress ≠ .held) ∨ n ∈ hostSerials s

theorem mem_touched {n : Nat} {f : QueueEntry → QueueEntry} (hf : ∀ e, (f e).serial = e.serial) {q : List QueueEntry} {e : QueueEntry}
    (h : e ∈ q.map fun e => if e.serial = n then f e else e) : ∃ e' ∈ q, e.serial = e'.serial ∧ (e.serial ≠ n → e = e') := by
  obtain ⟨e', he', rfl⟩ := List.mem_map.mp h
  refine ⟨e', he', ?_, fun hn => ?_⟩
  · split
    · exact hf e'
    · rfl
  · split
    · rename_i hs
      rw [if_pos hs, hf] at hn
      exact absurd hs hn
    · rfl

theorem StreamFrame.touched {n : Nat} {f : QueueEntry → QueueEntry} {l : List Issued} {s : State} (k : StreamFrame s)
    (hf : ∀ e, (f e).serial = e.serial) (hn : neverHeld n s)
    (hl : ∀ m ∈ l.filterMap hostSerial, m ∈ hostSerials s ∨ m = n) : StreamFrame (touched n f l s) := by
  have known : n < s.path.nextSerial := by
    rcases hn with ⟨e, he, rfl, -⟩ | hn
    · exact k.taken e he
    · exact k.flying n hn
  refine { k with taken := fun e he => ?_, flying := fun m hm => ?_, hold := fun w hw => ?_ }
  · obtain ⟨e', he', hs, -⟩ := mem_touched hf he
    exact hs ▸ k.taken e' he'
  · rcases hl m hm with h | rfl
    · exact k.flying m h
    · exact known
  · obtain ⟨hc, e, he, hp, hall, hoff⟩ := k.hold w hw
    have hne : e.serial ≠ n := by
      rintro rfl
      rcases hn with ⟨e', he', hs, hp'⟩ | hn
      · exact hp' (hall e' he' hs)
      · exact hoff hn
    refine ⟨hc, e, List.mem_map.mpr ⟨e, he, if_neg hne⟩, hp, fun g hg hs => ?_, fun hm => ?_⟩
    · obtain ⟨g', hg', hs', hsame⟩ := mem_touched hf hg
      rw [hsame (hs ▸ hne)]
      exact hall g' hg' (hs' ▸ hs)
    · rcases hl e.serial hm with h | h
      · exact hoff h
      · exact hne h

theorem keeps_touched {n : Nat} {f : QueueEntry → QueueEntry} {l : List Issued} {s : State} (hf : ∀ e, (f e).serial = e.serial)
    (hn : neverHeld n s) (hl : ∀ m ∈ l.filterMap hostSerial, m ∈ hostSerials s ∨ m = n)
    (hv : l.filterMap videoEnd = s.path.inFlight.filterMap videoEnd) : keeps s (touched n f l s) := by
  refine ⟨fun k => ?_, fun k => ?_⟩
  · obtain ⟨hq, rest⟩ := placesKept_iff.mp k
    exact placesKept_iff.mpr ⟨(List.length_map (as := s.path.queue) _).trans_le hq, rest⟩
  · obtain ⟨frame, span, video⟩ := streamKept_iff.mp k
    exact streamKept_iff.mpr ⟨frame.touched hf hn hl, span, videoReadsKept_of (s := s) rfl id rfl hv le_rfl video⟩

/-! #### The index words (R78, R189, R196) -/

theorem watch_handOverProducer (p : Word16) (s : State) : watch (handOverProducer p s) = watch s := by
  unfold handOverProducer
  split
  · exact (watch_presentEntryRead _).trans ((watch_endCause _ _).trans (watch_setControl rfl rfl))
  · exact (watch_presentEntryRead _).trans ((watch_startCause _ _).trans (watch_setControl rfl rfl))

theorem watch_snoopProducer (addr : Nat) (lanes : List LaneByte) (s : State) : watch (snoopProducer addr lanes s) = watch s := by
  unfold snoopProducer
  split
  · exact (watch_handOverProducer _ _).trans rfl
  · rfl

/-- An impossible value of the consumer word counts as the producer, so that at most 64 notices are unread (R196). -/
theorem keeps_handOverConsumer (v : Word16) (s : State) : keeps s (handOverConsumer v s) := by
  unfold handOverConsumer
  dsimp only
  refine keeps.trans ⟨fun k => ?_, fun k => ?_⟩ (keeps_fillRing _ _)
  · obtain ⟨hq, hg, he, hst, hl, hn⟩ := placesKept_iff.mp k
    refine placesKept_iff.mpr ⟨hq, hg, he, hst, hl, ?_, hn.2⟩
    simp only [unread, State.setPath_path, State.setPath_control]
    split
    · simp
    · rename_i h
      exact not_lt.mp h
  · obtain ⟨frame, span, video⟩ := streamKept_iff.mp k
    exact streamKept_iff.mpr ⟨{ frame with }, span, video⟩

theorem keeps_snoop (t : Transaction) (s : State) : keeps s (snoop t s) := by
  unfold snoop
  split
  · unfold snoopConsumer
    split
    · exact (keeps_handOverConsumer _ _).after (watch_snoopProducer _ _ _)
    · exact keeps_of_watch (watch_snoopProducer _ _ _)
  · exact keeps_refl s

/-! #### Grants (R82, R83) -/

theorem keeps_setHostGrants {n : Nat} (h : n ≤ 8) (s : State) : keeps s (setHostGrants n s) := by
  refine ⟨fun k => ?_, fun k => ?_⟩
  · obtain ⟨hq, -, rest⟩ := placesKept_iff.mp k
    exact placesKept_iff.mpr ⟨hq, h, rest⟩
  · obtain ⟨frame, span, video⟩ := streamKept_iff.mp k
    exact streamKept_iff.mpr ⟨{ frame with }, span, video⟩

theorem issuedEntry_serial (e : QueueEntry) : (issuedEntry e).serial = e.serial := rfl

theorem hostRequest_spec {s : State} {e : QueueEntry} {p : Piece} (h : hostRequest s = some (e, p)) :
    e ∈ s.path.queue ∧ e.progress = .waiting := by
  unfold hostRequest at h
  split at h
  · rename_i e' hfind
    obtain ⟨q, -, hq⟩ := Option.map_eq_some_iff.mp h
    obtain ⟨rfl, -⟩ := Prod.mk.injEq .. ▸ hq
    exact ⟨List.mem_of_find?_eq_some hfind, by simpa using List.find?_some hfind⟩
  · cases h

theorem keeps_grantHost {e : QueueEntry} (p : Piece) {s : State} (he : e ∈ s.path.queue) (hp : e.progress = .waiting) :
    keeps s (grantHost e p s) := by
  unfold grantHost
  dsimp only
  have issued : keeps s (updateEntry e.serial issuedEntry (issueDown p.txn (.host e.serial) s)) := by
    refine keeps_touched (s := s) (l := s.path.inFlight ++ [⟨p.txn, .host e.serial⟩]) issuedEntry_serial
      (.inl ⟨e, he, rfl, by simp [hp]⟩) (fun m hm => ?_) ?_
    · rw [List.filterMap_append, List.mem_append] at hm
      refine hm.imp id fun h => ?_
      simpa [hostSerial] using h
    · simp [videoEnd]
  split
  · exact issued.trans (keeps_snoop _ _)
  · exact issued

/-- A transaction of the part's own goes downstream, which is no read of a VIDEO chunk (R72). -/
theorem watch_issueDown {t : Transaction} {d : Destination} (hh : hostSerial ⟨t, d⟩ = none) (hv : videoEnd ⟨t, d⟩ = none) (s : State) :
    watch (issueDown t d s) = watch s := by
  have hosts : hostSerials (issueDown t d s) = hostSerials s := by simp [hostSerials, issueDown, hh]
  have videos : videoEnds (issueDown t d s) = videoEnds s := by simp [videoEnds_eq, issueDown, hv]
  simp only [watch, hosts, videos]
  rfl

theorem watch_grantAudio (s : State) : watch (grantAudio s) = watch s := by
  unfold grantAudio
  split
  · rfl
  · exact (watch_issueDown rfl rfl _).trans (watch_setAudio rfl)

theorem watch_grantCard (x : CardSlot) (s : State) : watch (grantCard x s) = watch s := by
  unfold grantCard
  dsimp only
  split
  · exact (watch_issueDown rfl rfl _).trans (watch_setCard _ _ _)
  · rfl

theorem watch_grantCommand (s : State) : watch (grantCommand s) = watch s := by
  unfold grantCommand
  split
  · refine (watch_issueDown ?_ ?_ _).trans (watch_setControl rfl rfl) <;> cases s.control.phase <;> rfl
  · rfl

theorem watch_grantReport (s : State) : watch (grantReport s) = watch s := by
  have rewritten : ∀ t, watch (rewriteStatus t) = watch t := fun t => by
    unfold rewriteStatus
    split
    · exact (watch_takeSnapshot _).trans (watch_setControl rfl rfl)
    · rfl
  unfold grantReport
  split
  · rfl
  · rename_i w rest hw
    refine (rewritten _).trans ((watch_issueDown ?_ ?_ _).trans (watch_setControl rfl rfl)) <;>
      cases h : w.tag <;> simp [writeDestination, hostSerial, videoEnd]

/-! #### Payload reads (R33, R34) -/

theorem nextPayloadRead_cases {s : State} {t : Transaction} {d : Destination} (h : nextPayloadRead s = some (t, d)) :
    (∃ next back stop r off n, s.clip.run = .video next back stop ∧ streamRegion s = some r ∧ next < stop ∧ off = next % r.size ∧
        n = min (min (toLineEnd (r.base + off)) (r.size - off)) (stop - next) ∧ d = .video next (next + n) ((r.base + off) % 8)) ∨
      ∃ slot base next back, s.clip.run = .audio slot base next back ∧ d = .audioPayload := by
  unfold nextPayloadRead at h
  split at h
  · rename_i next back stop r hrun hr
    split at h
    · rename_i hlt
      cases h
      exact .inl ⟨next, back, stop, r, _, _, hrun, hr, hlt, rfl, rfl, rfl⟩
    · cases h
  · rename_i slot base next back hrun
    split at h
    · cases h
      exact .inr ⟨slot, base, next, back, hrun, rfl⟩
    · cases h
  · cases h

/-- The reads of a VIDEO chunk rise: each ends beyond its beginning, at or below the end of the chunk (R33). -/
theorem streamKept_grantVideo {s : State} {t : Transaction} {next back stop n k : Nat} (hk : streamKept s)
    (hrun : s.clip.run = .video next back stop) (h0 : 0 < n) (hn : next + n ≤ stop) :
    streamKept (issueDown t (.video next (next + n) k) (inRun (.video (next + n) back stop) s)) := by
  obtain ⟨frame, span, video⟩ := streamKept_iff.mp hk
  have hosts : hostSerials (issueDown t (.video next (next + n) k) (inRun (.video (next + n) back stop) s)) = hostSerials s := by
    simp [hostSerials, issueDown, hostSerial, inRun]
  have videos : videoEnds (issueDown t (.video next (next + n) k) (inRun (.video (next + n) back stop) s)) =
      videoEnds s ++ [next + n] := by
    simp [videoEnds_eq, issueDown, videoEnd, inRun]
  refine streamKept_iff.mpr ⟨{ frame with flying := hosts ▸ frame.flying, hold := hosts ▸ frame.hold }, span, ?_⟩
  unfold videoReadsKept at video ⊢
  rw [hrun] at video
  obtain ⟨-, hstop, rise, below, hopen, hstate⟩ := video
  rw [videos]
  refine ⟨hn, hstop, List.pairwise_append.mpr ⟨rise, List.pairwise_singleton _ _, fun a ha b hb => ?_⟩, fun e he => ?_, hopen, hstate⟩
  · have := below a ha
    simp only [List.mem_singleton] at hb
    omega
  · rcases List.mem_append.mp he with he | he
    · have := below e he
      omega
    · simp only [List.mem_singleton] at he
      omega

theorem keeps_grantClip (s : State) : keeps s (grantClip s) := by
  unfold grantClip
  split
  · rename_i t d h
    refine keeps.watched (t := issueDown t d (inRun (advanceRun d s.clip.run) s)) ?_ (watch_presentClipRead _)
    rcases nextPayloadRead_cases h with ⟨next, back, stop, r, off, n, hrun, hr, hlt, hoff, hn, rfl⟩ | ⟨slot, base, next, back, hrun, rfl⟩
    · rw [hrun]
      refine ⟨id, fun k => streamKept_grantVideo k hrun ?_ ?_⟩
      · obtain ⟨frame, -, -⟩ := streamKept_iff.mp k
        have hsize := (frame.sized r hr).1
        have hmod := Nat.mod_lt next hsize
        have hline : toLineEnd (r.base + off) = 128 - (r.base + off) % 128 := rfl
        omega
      · omega
    · rw [hrun]
      refine keeps.watched (t := inRun (.audio slot base (next + 1) back) s) ⟨id, fun k => streamKept_inRun k ?_ ?_⟩
        (watch_issueDown rfl rfl _) <;> intro a b c hv
      · rw [hrun] at hv
        cases hv
      · cases hv
  · exact keeps_refl s

theorem keeps_grantInternal (r : Requester) (s : State) : keeps s (grantInternal r s) := by
  cases r with
  | audioUnit => exact keeps_of_watch (watch_grantAudio s)
  | card x => exact keeps_of_watch (watch_grantCard x s)
  | clipAssembler => exact keeps_grantClip s
  | commandReads => exact keeps_of_watch (watch_grantCommand s)
  | reportWrites => exact keeps_of_watch (watch_grantReport s)

theorem keeps_grant (s : State) : keeps s (grant s) := by
  unfold grant
  split
  · trace_state
    rename_i e p h
    obtain ⟨he, hp⟩ := hostRequest_spec h
    have host : ∀ n, n ≤ 8 → keeps s (grantHost e p (setHostGrants n s)) := fun n hn =>
      (keeps_setHostGrants hn s).trans (keeps_grantHost (s := setHostGrants n s) p he hp)
    split
    · exact keeps_grantHost p he hp
    · split
      · exact host 0 (Nat.zero_le 8)
      · split
        · rename_i hcap
          exact host _ hcap
        · exact (keeps_setHostGrants (Nat.zero_le 8) s).trans (keeps_grantInternal _ _)
  · split
    · exact keeps_refl s
    · exact (keeps_setHostGrants (Nat.zero_le 8) s).trans (keeps_grantInternal _ _)
  · exact keeps_refl s

theorem rowKeeps_downstreamGrant (s : State) : rowKeeps (execDownstreamGrant s) s := rowKeeps_next (keeps_grant s)

theorem keeps_grantIf (b : Bool) (s : State) : keeps s (if b then grant s else s) := by
  split
  · exact keeps_grant s
  · exact keeps_refl s

theorem rowKeeps_commandProducerWrite (s : State) : rowKeeps (execCommandProducerWrite s) s := rowKeeps_next (keeps_grantIf _ s)
theorem rowKeeps_reportConsumerWrite (s : State) : rowKeeps (execReportConsumerWrite s) s := rowKeeps_next (keeps_grantIf _ s)

/-! ### Completions (R71, R72, R80, R197) -/

theorem completeEntry_serial (data : List Byte) (e : QueueEntry) : (completeEntry data e).serial = e.serial := rfl

theorem rowKeeps_hostDownstreamCompletion (data : List Byte) (s : State) : rowKeeps (execHostDownstreamCompletion data s) s := by
  refine rowKeeps_next ?_
  unfold hostCompletion
  split
  · rename_i t n s1 hn
    split
    · have hosts := hostSerials_nextCompletion hn
      have videos := videoEnds_nextCompletion hn
      obtain ⟨l, -, rfl⟩ := nextCompletion_path hn
      refine keeps_touched (s := s) (l := l) (completeEntry_serial data) (.inr ?_) (fun m hm => .inl ?_) ?_
      · simp [hosts, hostSerial]
      · rw [hosts]
        exact List.mem_append_right _ hm
      · exact videos.symm
    · exact keeps_refl s
  · exact keeps_refl s

/-- The entry that completes to the host is DONE, and so none of a held write (R71, R79). -/
theorem rowKeeps_upstreamCompletion (s : State) : rowKeeps (execUpstreamCompletion s) s := by
  refine rowKeeps_next ?_
  unfold upstreamCompletion
  split
  · rename_i e rest hq
    split
    · rename_i hdone
      refine ⟨fun k => ?_, fun k => ?_⟩
      · obtain ⟨hlen, others⟩ := placesKept_iff.mp k
        rw [hq] at hlen
        exact placesKept_iff.mpr ⟨(Nat.le_succ _).trans hlen, others⟩
      · obtain ⟨frame, span, video⟩ := streamKept_iff.mp k
        have sub : ∀ g ∈ rest, g ∈ s.path.queue := fun g hg => hq ▸ List.mem_cons_of_mem e hg
        refine streamKept_iff.mpr ⟨{ frame with taken := fun g hg => frame.taken g (sub g hg), hold := fun w hw => ?_ }, span, video⟩
        obtain ⟨hc, g, hg, hp, hall, hoff⟩ := frame.hold w hw
        rw [hq] at hg
        rcases List.mem_cons.mp hg with rfl | hg
        · rw [hdone] at hp
          cases hp
        · exact ⟨hc, g, hg, hp, fun g' hg' => hall g' (sub g' hg'), hoff⟩
    · exact keeps_refl s
  · exact keeps_refl s

theorem rowKeeps_reportProducerAck (s : State) : rowKeeps (execReportProducerAck s) s := by
  refine rowKeeps_act ?_
  unfold reportProducerAck
  split
  · rename_i hn
    exact (keeps_of_watch (watch_nextCompletion hn rfl rfl)).watched (watch_setControl rfl rfl)
  · exact keeps_refl s

theorem rowKeeps_statusTimerExpiry (s : State) : rowKeeps (execStatusTimerExpiry s) s := by
  refine rowKeeps_act (keeps_of_watch ?_)
  split
  · exact watch_requestStatus s
  · rfl

end Sys2Proof.Machine

namespace Sys2Proof.Machine

/-! ### The rows of the Motion Unit and of the Zoom Drive (R88 to R143) -/

theorem watch_goodRead (yaw pitch : Int) (s : State) : watch (goodRead yaw pitch s) = watch s := by
  unfold goodRead
  dsimp only
  split
  · exact (watch_setMotion _ _).trans ((watch_endCause _ _).trans (watch_setMotion _ _))
  · exact (watch_setMotion _ _).trans (watch_setMotion _ _)

theorem watch_failedRead (s : State) : watch (failedRead s) = watch s := by
  unfold failedRead
  dsimp only
  split
  · exact (watch_setMotion _ _).trans ((watch_startCause _ _).trans (watch_setMotion _ _))
  · exact (watch_setMotion _ _).trans (watch_setMotion _ _)

theorem rowKeeps_gyroSampleInstant (s : State) : rowKeeps (execGyroSampleInstant s) s := by
  refine rowKeeps_act (keeps_of_watch ?_)
  split
  · exact watch_setMotion _ _
  · rfl

theorem rowKeeps_gyroAnswer (status yawLow yawHigh pitchLow pitchHigh : PortBits) (s : State) :
    rowKeeps (execGyroAnswer status yawLow yawHigh pitchLow pitchHigh s) s := by
  refine rowKeeps_act (keeps_of_watch ?_)
  unfold gyroAnswer
  split
  · split
    · exact watch_goodRead _ _ s
    · exact watch_failedRead s
  · rfl

theorem rowKeeps_gyroReadTimeout (s : State) : rowKeeps (execGyroReadTimeout s) s := by
  refine rowKeeps_act (keeps_of_watch ?_)
  split
  · exact watch_failedRead s
  · rfl

theorem rowKeeps_stabConfig (h : EntryHead) (biasX biasY : Word16) (dirX dirY kSteady kPan : Byte) (panThreshold : Word16)
    (panEnter : Byte) (panExit : Word16) (s : State) :
    rowKeeps (execStabConfig h biasX biasY dirX dirY kSteady kPan panThreshold panEnter panExit s) s := by
  refine rowKeeps_quietCommand s fun u => ?_
  unfold stabConfigBody
  split
  · split <;> rfl
  · rfl

theorem rowKeeps_stabEnable (h : EntryHead) (s : State) : rowKeeps (execStabEnable h s) s :=
  rowKeeps_quietCommand s fun _ => watch_setMotion _ _

theorem rowKeeps_stabDisable (h : EntryHead) (s : State) : rowKeeps (execStabDisable h s) s :=
  rowKeeps_quietCommand s fun _ => (watch_endCause _ _).trans (watch_setMotion _ _)

theorem rowKeeps_focalLoad (h : EntryHead) (addr : Word32) (s : State) : rowKeeps (execFocalLoad h addr s) s :=
  rowKeeps_next (keeps_runTableCommand _ _ _ _ _)

theorem rowKeeps_focalLoadReadReturn (data : List Byte) (s : State) : rowKeeps (execFocalLoadReadReturn data s) s := by
  refine rowKeeps_act ?_
  unfold focalReturn
  split
  · rename_i hn
    split
    · refine (keeps_of_watch (watch_nextCompletion hn rfl rfl)).watched ?_
      split
      · exact (watch_finishCommand _ _).trans (watch_setMotion _ _)
      · exact watch_finishCommand _ _
    · exact keeps_refl s
  · exact keeps_refl s

theorem watch_applyZoom (r : ZoomResult) (s : State) : watch (applyZoom r s) = watch s :=
  (watch_reports _ _).trans (watch_setZoom _ _)

theorem rowKeeps_rampTick (s : State) : rowKeeps (execRampTick s) s := rowKeeps_act (keeps_of_watch (watch_applyZoom _ s))
theorem rowKeeps_lensTimerUnderflow (s : State) : rowKeeps (execLensTimerUnderflow s) s :=
  rowKeeps_act (keeps_of_watch (watch_applyZoom _ s))
theorem rowKeeps_encoderEdge (samples : List Bool) (s : State) : rowKeeps (execEncoderEdge samples s) s :=
  rowKeeps_act (keeps_of_watch (watch_setZoom _ _))
theorem rowKeeps_homeRise (samples : List Bool) (s : State) : rowKeeps (execHomeRise samples s) s :=
  rowKeeps_act (keeps_of_watch (watch_applyZoom _ s))

theorem keeps_runMove (f : Zoom → (ZoomResult × Result) × List Report) (s : State) : keeps s (runMove f s) := by
  unfold runMove
  split
  · exact keeps_refl s
  · rename_i hs1
    exact (keeps_of_watch (watch_takeEntry hs1)).watched
      ((watch_reports _ _).trans ((watch_finishCommand _ _).trans (watch_applyZoom _ _)))

theorem rowKeeps_zoomHome (h : EntryHead) (s : State) : rowKeeps (execZoomHome h s) s := rowKeeps_next (keeps_runMove _ s)
theorem rowKeeps_zoomGoto (h : EntryHead) (target : Word16) (maxLevel : Byte) (s : State) :
    rowKeeps (execZoomGoto h target maxLevel s) s := rowKeeps_next (keeps_runMove _ s)
theorem rowKeeps_zoomSpeed (h : EntryHead) (level : Byte) (s : State) : rowKeeps (execZoomSpeed h level s) s :=
  rowKeeps_quietCommand s fun _ => watch_applyZoom _ _
theorem rowKeeps_zoomStop (h : EntryHead) (s : State) : rowKeeps (execZoomStop h s) s :=
  rowKeeps_quietCommand s fun _ => watch_applyZoom _ _
theorem rowKeeps_zoomConfig (h : EntryHead) (addr : Word32) (seg : Word16) (e tolerance : Byte) (s : State) :
    rowKeeps (execZoomConfig h addr seg e tolerance s) s := rowKeeps_next (keeps_runTableCommand _ _ _ _ _)

theorem rowKeeps_zoomConfigReadReturn (data : List Byte) (s : State) : rowKeeps (execZoomConfigReadReturn data s) s := by
  refine rowKeeps_act ?_
  unfold zoomConfigReturn
  split
  · rename_i hn _
    split
    · refine (keeps_of_watch (watch_nextCompletion hn rfl rfl)).watched ?_
      split
      · exact watch_finishCommand _ _
      · split
        · exact (watch_finishCommand _ _).trans (watch_setZoom _ _)
        · exact watch_finishCommand _ _
    · exact keeps_refl s
  · exact keeps_refl s

/-! ### The commands of the Command and Notice Unit (R190, R199, R200) -/

theorem rowKeeps_unknownCommand (h : EntryHead) (code : Word16) (s : State) : rowKeeps (execUnknownCommand h code s) s := by
  unfold execUnknownCommand
  split
  · exact rowKeeps_fault _ s
  · exact rowKeeps_quietCommand s fun _ => rfl

theorem rowKeeps_ackConditions (h : EntryHead) (set : Word16) (s : State) : rowKeeps (execAckConditions h set s) s := by
  refine rowKeeps_quietCommand s fun u => ?_
  unfold ackConditionsBody
  split
  · rfl
  · exact watch_setControl rfl rfl

theorem rowKeeps_setNoticeMask (h : EntryHead) (set : Word16) (s : State) : rowKeeps (execSetNoticeMask h set s) s := by
  refine rowKeeps_quietCommand s fun u => ?_
  unfold setNoticeMaskBody
  split
  · rfl
  · exact watch_setControl rfl rfl

/-! ### The Region Table (R74, R75) -/

/-- The STREAM regions of a Region Table (R1). -/
def tableStreams (table : Vector (Option Region) 8) : List StreamRegion := table.toList.filterMap fun o => o.bind Region.asStream

theorem filterMap_asStream_regions (s : State) : (regions s).filterMap Region.asStream = tableStreams s.path.regions := by
  rw [regions, List.filterMap_filterMap]
  rfl

theorem streamRegion_eq_head? (s : State) : streamRegion s = (tableStreams s.path.regions).head? := by
  rw [← filterMap_asStream_regions, List.head?_filterMap, streamRegion]

theorem filterMap_set {α β : Type} (f : α → Option β) {l : List α} {i : Nat} (h : i < l.length) (x : α) : ∃ p q,
    l.filterMap f = p ++ (f l[i]).toList ++ q ∧ (l.set i x).filterMap f = p ++ (f x).toList ++ q := by
  induction l generalizing i with
  | nil => cases h
  | cons a l ih =>
    cases i with
    | zero =>
      refine ⟨[], l.filterMap f, ?_, ?_⟩
      · cases ha : f a <;> simp [ha]
      · cases hx : f x <;> simp [hx]
    | succ i =>
      obtain ⟨p, q, h1, h2⟩ := ih (Nat.lt_of_succ_lt_succ h)
      refine ⟨(f a).toList ++ p, q, ?_, ?_⟩
      · cases ha : f a <;> simp [ha, h1]
      · cases ha : f a <;> simp [ha, h2]

/-- A table with one record changed keeps the STREAM regions of the others (R74, R75). -/
theorem tableStreams_set (table : Vector (Option Region) 8) (i : Fin 8) (x : Option Region) : ∃ p q,
    tableStreams table = p ++ ((table[i]).bind Region.asStream).toList ++ q ∧
      tableStreams (table.set i x) = p ++ (x.bind Region.asStream).toList ++ q := by
  have hlen : i.val < table.toList.length := by simp
  obtain ⟨p, q, h1, h2⟩ := filterMap_set (fun o : Option Region => o.bind Region.asStream) hlen x
  exact ⟨p, q, by rw [tableStreams, h1]; simp, by rw [tableStreams, Vector.toList_set, h2]⟩

/-- The Region Table changes and the STREAM regions do not (R74, R75, R107, R108). -/
def withTable (table : Vector (Option Region) 8) (s : State) : State := s.setPath { s.path with regions := table }

theorem keeps_withTable {table : Vector (Option Region) 8} {s : State} (h : tableStreams table = tableStreams s.path.regions) :
    keeps s (withTable table s) := by
  have hr : streamRegion (withTable table s) = streamRegion s := by
    rw [streamRegion_eq_head?, streamRegion_eq_head?, ← h]
    rfl
  refine ⟨id, fun k => ?_⟩
  obtain ⟨frame, span, video⟩ := streamKept_iff.mp k
  refine streamKept_iff.mpr ⟨{ frame with oneStream := ?_, sized := hr ▸ frame.sized, idle := hr ▸ frame.idle }, ?_, video⟩
  · rw [filterMap_asStream_regions]
    exact h ▸ filterMap_asStream_regions s ▸ frame.oneStream
  · intro r hs
    exact span r (hr ▸ hs)

theorem asStream_eq_none {r : Region} (h : kindNumber r.kind ≠ 1) : r.asStream = none := by
  obtain ⟨base, size, kind⟩ := r
  cases kind with
  | stream => exact absurd rfl h
  | _ => rfl

theorem keeps_setRecord {i : Fin 8} {x : Option Region} {s : State}
    (h : (x.bind Region.asStream) = (s.path.regions[i]).bind Region.asStream) : keeps s (setRecord i x s) := by
  refine keeps_withTable ?_
  obtain ⟨p, q, h1, h2⟩ := tableStreams_set s.path.regions i x
  rw [h1, ← h]
  exact h2

theorem keeps_emptySlots (s : State) : keeps s (emptySlots s) := by
  refine keeps_setSlots fun i j f g hi _ => ?_
  rw [List.getElem?_map, Option.map_eq_some_iff] at hi
  obtain ⟨-, -, hi⟩ := hi
  cases hi

/-! #### SET_REGION (R1, R74) -/

theorem keeps_regionSet_other (size : Nat) {k : RegionKind} (h : kindNumber k ≠ 1) (s : State) : keeps s (regionSet size k s) := by
  cases k with
  | stream => exact absurd rfl h
  | index => exact keeps_refl s
  | frame n bpp w hIn st =>
    have slots : keeps s (s.setView { s.view with slots := List.replicate n .empty }) := by
      refine keeps_setSlots fun i j f g hi _ => ?_
      rw [List.getElem?_replicate] at hi
      split at hi <;> cases hi
    exact slots.watched ((watch_setControl rfl rfl).trans (watch_setMotion _ _))
  | aliasView g => exact (keeps_emptySlots s).watched (watch_setMotion _ _)
  | audio => exact keeps_of_watch (watch_setAudio rfl)

/-- A STREAM region that is entered holds its pre-record bytes (R1). -/
theorem streamKind_spec {size : Nat} {p l : Word32} {h : Word16} {k : RegionKind} (hk : streamKind size p l h = some k) :
    ∃ pre late hold, k = .stream pre late hold ∧ 0 < size ∧ pre ≤ size := by
  unfold streamKind at hk
  dsimp only at hk
  split at hk
  · rename_i hs
    cases hk
    exact ⟨_, _, _, rfl, by omega, by omega⟩
  · cases hk

theorem kindOf_stream {s : State} {size : Nat} {spec : RegionSpec} {k : RegionKind} (hk : kindOf s size spec = some k)
    (h1 : kindNumber k = 1) : ∃ pre late hold, k = .stream pre late hold ∧ 0 < size ∧ pre ≤ size := by
  cases spec with
  | stream p l h => exact streamKind_spec hk
  | index => cases hk; cases h1
  | frame n bpp w hIn st =>
    have hk : frameKind size n bpp w hIn st = some k := hk
    unfold frameKind at hk
    dsimp only at hk
    split at hk
    · cases hk; cases h1
    · cases hk
  | aliasView r w hOut =>
    have hk : aliasKind s size r w hOut = some k := hk
    unfold aliasKind at hk
    split at hk
    · cases hk
    · dsimp only at hk
      split at hk
      · cases hk; cases h1
      · cases hk
  | audio =>
    have hk : audioKind size = some k := hk
    unfold audioKind at hk
    split at hk
    · cases hk; cases h1
    · cases hk
  | unknown => cases hk

/-- The STREAM region is entered where there is none, so that recording is IDLE, and the Stream Tap starts at 0 (R1, R74). -/
theorem keeps_streamSet {i : Fin 8} {base size pre late hold : Nat} {s : State} (hfree : kindFree s (.stream pre late hold) = true)
    (hempty : s.path.regions[i] = none) (hsize : 0 < size) (hpre : pre ≤ size) :
    keeps s ((setRecord i (some ⟨base, size, .stream pre late hold⟩) s).setTap Tap.reset) := by
  have none : tableStreams s.path.regions = [] := by
    rw [← filterMap_asStream_regions, List.filterMap_eq_nil_iff]
    intro r hr
    refine asStream_eq_none ?_
    simpa [kindNumber] using List.all_eq_true.mp hfree r hr
  have idle : streamRegion s = Option.none := by rw [streamRegion_eq_head?, none]; rfl
  generalize ht : (setRecord i (some ⟨base, size, .stream pre late hold⟩) s).setTap Tap.reset = t
  have streams : tableStreams t.path.regions = [⟨base, size, pre, late, hold⟩] := by
    obtain ⟨p, q, h1, h2⟩ := tableStreams_set s.path.regions i (some ⟨base, size, .stream pre late hold⟩)
    rw [hempty, none] at h1
    obtain ⟨rfl, rfl⟩ : p = [] ∧ q = [] := by simpa using h1.symm
    rw [← ht]
    exact h2
  have region : streamRegion t = some ⟨base, size, pre, late, hold⟩ := by rw [streamRegion_eq_head?, streams]; rfl
  refine ⟨fun k => ?_, fun k => ?_⟩
  · obtain ⟨hq, hg, -, others⟩ := placesKept_iff.mp k
    rw [← ht]
    exact placesKept_iff.mpr ⟨hq, hg, Nat.zero_le 64, others⟩
  · obtain ⟨frame, -, video⟩ := streamKept_iff.mp k
    have hidle := frame.idle idle
    have frame' : StreamFrame t :=
      { order := by rw [← ht]; exact le_rfl
        shipped := by rw [← ht]; rfl
        rising := by rw [← ht]; exact .nil
        inside := fun e he => by rw [← ht] at he; cases he
        filling := by rw [← ht]; exact frame.filling
        oneStream := by rw [filterMap_asStream_regions, streams]; exact le_rfl
        sized := fun r hr => by
          rw [region] at hr
          cases hr
          exact ⟨hsize, hpre⟩
        idle := fun h => by rw [region] at h; cases h
        stopped := fun h => by
          rw [← ht] at h
          exact absurd (hidle.symm.trans h) (by decide)
        taken := by rw [← ht]; exact frame.taken
        flying := by rw [← ht]; exact frame.flying
        hold := fun w hw => by rw [← ht] at hw; cases hw }
    have still : noVideo s := noVideo_of video (.inr (.inl hidle))
    have ends : videoEnds s = [] := videoEnds_eq_nil video still
    refine streamKept_iff.mpr ⟨frame', fun r _ => ?_, ?_⟩
    · rw [← ht]
      exact Nat.zero_le _
    · rw [← ht]
      exact videoReadsKept_of_nil still ends

theorem keeps_setRegionBody (record : Byte) (base size : Word32) (spec : RegionSpec) (s : State) :
    keeps s (setRegionBody record base size spec s).1 := by
  unfold setRegionBody
  split
  · rename_i h
    split
    · rename_i k hempty hk
      split
      · rename_i hgood
        have hfree : kindFree s k = true := (Bool.and_eq_true_iff.mp hgood).2
        by_cases h1 : kindNumber k = 1
        · obtain ⟨pre, late, hold, rfl, hsize, hpre⟩ := kindOf_stream hk h1
          exact keeps_streamSet (i := ⟨record.toNat, h⟩) hfree hempty hsize hpre
        · refine keeps.trans (keeps_setRecord ?_) (keeps_regionSet_other _ h1 _)
          rw [show s.path.regions[(⟨record.toNat, h⟩ : Fin 8)] = none from hempty]
          exact asStream_eq_none h1
      · exact keeps_refl s
    · exact keeps_refl s
  · exact keeps_refl s

theorem rowKeeps_setRegion (h : EntryHead) (record : Byte) (base size : Word32) (spec : RegionSpec) (s : State) :
    rowKeeps (execSetRegion h record base size spec s) s := by
  unfold execSetRegion
  split
  · exact rowKeeps_fault _ s
  · exact rowKeeps_next (keeps_runCommand s (keeps_setRegionBody record base size spec))

/-! #### CLEAR_REGION (R2, R75, R108) -/

theorem unbind_asStream (r : Option Region) : (unbind r).bind Region.asStream = r.bind Region.asStream := by
  unfold unbind
  split <;> rfl

theorem keeps_regionCleared_other {k : RegionKind} (h : kindNumber k ≠ 1) (s : State) : keeps s (regionCleared k s) := by
  cases k with
  | stream => exact absurd rfl h
  | index => exact keeps_refl s
  | frame n bpp w hIn st =>
    have slots : keeps s (s.setView { s.view with slots := [] }) := keeps_setSlots fun i j f g hi _ => by cases hi
    have table : tableStreams (s.path.regions.map unbind) = tableStreams s.path.regions := by
      rw [tableStreams, Vector.toList_map, List.filterMap_map]
      exact List.filterMap_congr fun o _ => unbind_asStream o
    have unbound : keeps (zeroShifts (s.setView { s.view with slots := [] }))
        (withTable (s.path.regions.map unbind) (zeroShifts (s.setView { s.view with slots := [] }))) := keeps_withTable table
    exact ((slots.watched (watch_setMotion _ _)).trans unbound).watched (watch_setControl rfl rfl)
  | aliasView g => exact (keeps_emptySlots s).watched ((watch_endCause _ _).trans (watch_setMotion _ _))
  | audio => exact keeps_of_watch (watch_setAudio rfl)

/-- The STREAM region is cleared in recording IDLE, and with it the positions and the Entry List (R2). -/
theorem keeps_streamCleared {i : Fin 8} {r : Region} {q : StreamRegion} {s : State} (hidle : s.clip.state = .idle)
    (hr : s.path.regions[i] = some r) (hq : r.asStream = some q) :
    keeps s ((setRecord i none s).setTap { s.tap with cursor := 0, floor := 0, ship := 0, entries := [] }) := by
  generalize ht : (setRecord i none s).setTap { s.tap with cursor := 0, floor := 0, ship := 0, entries := [] } = t
  refine ⟨fun k => ?_, fun k => ?_⟩
  · obtain ⟨hlen, hg, -, others⟩ := placesKept_iff.mp k
    rw [← ht]
    exact placesKept_iff.mpr ⟨hlen, hg, Nat.zero_le 64, others⟩
  · obtain ⟨frame, -, video⟩ := streamKept_iff.mp k
    have one := frame.oneStream
    rw [filterMap_asStream_regions] at one
    have streams : tableStreams t.path.regions = [] := by
      obtain ⟨p, u, h1, h2⟩ := tableStreams_set s.path.regions i none
      rw [hr, Option.bind_some, hq] at h1
      rw [h1] at one
      have hp : p = [] := List.length_eq_zero_iff.mp (by simp at one; omega)
      have hu : u = [] := List.length_eq_zero_iff.mp (by simp at one; omega)
      rw [hp, hu] at h2
      rw [← ht]
      exact h2
    have region : streamRegion t = none := by rw [streamRegion_eq_head?, streams]; rfl
    have frame' : StreamFrame t :=
      { order := by rw [← ht]; exact le_rfl
        shipped := by rw [← ht]; rfl
        rising := by rw [← ht]; exact .nil
        inside := fun e he => by rw [← ht] at he; cases he
        filling := by rw [← ht]; exact frame.filling
        oneStream := by rw [filterMap_asStream_regions, streams]; exact Nat.zero_le 1
        sized := fun r hr => by rw [region] at hr; cases hr
        idle := fun _ => by rw [← ht]; exact hidle
        stopped := fun h => by
          rw [← ht] at h
          exact absurd (hidle.symm.trans h) (by decide)
        taken := by rw [← ht]; exact frame.taken
        flying := by rw [← ht]; exact frame.flying
        hold := fun w hw => by
          rw [← ht] at hw ⊢
          exact ⟨Nat.zero_le _, (frame.hold w hw).2⟩ }
    have still : noVideo s := noVideo_of video (.inr (.inl hidle))
    have ends : videoEnds s = [] := videoEnds_eq_nil video still
    refine streamKept_iff.mpr ⟨frame', fun r hr => ?_, ?_⟩
    · rw [region] at hr
      cases hr
    · rw [← ht]
      exact videoReadsKept_of_nil still ends

theorem keeps_clearRegionBody (record : Byte) (s : State) : keeps s (clearRegionBody record s).1 := by
  unfold clearRegionBody
  split
  · rename_i h
    split
    · exact keeps_refl s
    · rename_i r hr
      split
      · exact keeps_refl s
      · rename_i hidle
        have hr : s.path.regions[(⟨record.toNat, h⟩ : Fin 8)] = some r := hr
        by_cases h1 : kindNumber r.kind = 1
        · obtain ⟨base, size, kind⟩ := r
          cases kind with
          | stream p l hold => exact keeps_streamCleared (by simpa [needsIdle] using hidle) hr rfl
          | _ => cases h1
        · refine keeps.trans (keeps_setRecord ?_) (keeps_regionCleared_other h1 _)
          rw [hr]
          exact (asStream_eq_none h1).symm
  · exact keeps_refl s

theorem rowKeeps_clearRegion (h : EntryHead) (record : Byte) (s : State) : rowKeeps (execClearRegion h record s) s :=
  rowKeeps_next (keeps_runCommand s (keeps_clearRegionBody record))

end Sys2Proof.Machine

namespace Sys2Proof.Machine

/-! ### The resets (R21, R43, R85, R86, R203) -/

/-- Only host transactions stay in flight at the fall of RESET_N (R85). -/
theorem videoEnds_abandonInternal (s : State) : videoEnds (abandonReads s internalDestination) = [] := by
  rw [videoEnds_eq, List.filterMap_eq_nil_iff]
  intro i hi
  obtain ⟨j, -, rfl⟩ := List.mem_map.mp hi
  obtain ⟨t, d⟩ := j
  cases d <;> rfl

theorem hostSerials_abandonInternal (s : State) : hostSerials (abandonReads s internalDestination) = hostSerials s := by
  refine filterMap_abandonReads s rfl fun i h => ?_
  obtain ⟨t, d⟩ := i
  cases d <;> simp_all [internalDestination, hostSerial]

theorem taken_forwardHeld {s : State} (k : StreamFrame s) : ∀ e ∈ (forwardHeld s).path.queue, e.serial < s.path.nextSerial := by
  intro e he
  rw [forwardHeld_path] at he
  obtain ⟨e0, he0, rfl⟩ := List.mem_map.mp he
  exact k.taken e0 he0

/-- A state with an empty Stream Tap, no clip and no read of a VIDEO chunk keeps the laws of the stream (R21, R43). -/
theorem streamKept_of_emptyTap {s t : State} (k : StreamFrame s) (htap : t.tap = Tap.reset) (hclip : t.clip.state = .idle)
    (hslots : t.view.slots = s.view.slots ∨ t.view.slots = [])
    (htable : tableStreams t.path.regions = tableStreams s.path.regions ∨ tableStreams t.path.regions = [])
    (hqueue : t.path.queue = (forwardHeld s).path.queue) (hnext : t.path.nextSerial = s.path.nextSerial)
    (hhosts : hostSerials t = hostSerials s) (hvideo : videoEnds t = []) (hrun : noVideo t) : streamKept t := by
  have frame : StreamFrame t :=
    { order := by rw [htap]; exact le_rfl
      shipped := by rw [htap]; rfl
      rising := by rw [htap]; exact .nil
      inside := fun e he => by rw [htap] at he; cases he
      filling := by
        rcases hslots with h | h
        · rw [h]
          exact k.filling
        · intro i j f g hi
          rw [h] at hi
          cases hi
      oneStream := by
        rw [filterMap_asStream_regions]
        rcases htable with h | h
        · rw [h, ← filterMap_asStream_regions]
          exact k.oneStream
        · rw [h]
          exact Nat.zero_le 1
      sized := fun r hr => by
        rw [streamRegion_eq_head?] at hr
        rcases htable with h | h
        · rw [h, ← streamRegion_eq_head?] at hr
          exact k.sized r hr
        · rw [h] at hr
          cases hr
      idle := fun _ => hclip
      stopped := fun h => absurd (hclip.symm.trans h) (by decide)
      taken := by
        rw [hqueue, hnext]
        exact taken_forwardHeld k
      flying := by
        rw [hhosts, hnext]
        exact k.flying
      hold := fun w hw => by rw [htap] at hw; cases hw }
  refine streamKept_iff.mpr ⟨frame, fun r _ => ?_, videoReadsKept_of_nil hrun hvideo⟩
  rw [htap]
  exact Nat.zero_le _

theorem keeps_softResetTapClip (s : State) : keeps s (softResetClip (softResetTap s)) := by
  refine ⟨fun k => ?_, fun k => ?_⟩
  · obtain ⟨hq, hg, -, others⟩ := placesKept_iff.mp (placesKept_forwardHeld k)
    exact placesKept_iff.mpr ⟨hq, hg, Nat.zero_le 64, others⟩
  · obtain ⟨frame, -, -⟩ := streamKept_iff.mp k
    refine streamKept_of_emptyTap frame rfl rfl (.inl rfl) (.inl rfl) rfl rfl (hostSerials_abandonPayload (softResetTap s))
      (videoEnds_abandonPayload (softResetTap s)) fun _ _ _ h => by cases h

theorem watch_drainCard (x : CardSlot) (p : CardPhase) (s : State) : watch (drainCard x p s) = watch s := by
  unfold drainCard
  split
  case h_7 => split <;> simp
  all_goals simp

theorem watch_softResetCard (x : CardSlot) (s : State) : watch (softResetCard x s) = watch s := by
  unfold softResetCard
  dsimp only
  have cleared : watch ((abandonReads s (· == .card x)).setCard x (clearCard (s.card x))) = watch s := by
    refine (watch_setCard _ _ _).trans (watch_abandonReads s (fun i h => ?_) fun i h => ?_) <;>
      simp [hostSerial, videoEnd, eq_of_beq h]
  split
  · exact cleared
  · split
    · exact (watch_drainCard _ _ _).trans ((watch_updateCard _ _ _).trans cleared)
    · exact cleared
  · exact (watch_drainCard _ _ _).trans ((watch_updateCard _ _ _).trans cleared)

theorem keeps_softResetAudio (s : State) : keeps s (softResetAudio s) := by
  unfold softResetAudio
  exact keeps.watched (t := s.setAudio _) (keeps_emptyStore rfl) (watch_reports _ _)

theorem keeps_softResetAcc (s : State) : keeps s (softResetAcc s) := by
  unfold softResetAcc
  exact keeps.watched (t := s.setAcc Acc.reset) (keeps_setAcc fun _ => ⟨le_rfl, Nat.zero_le 8, fun _ => rfl⟩) (watch_reports _ _)

theorem keeps_softResetControl (s : State) : keeps s (softResetControl s) := keeps_setControl fun k => ⟨k.1, .nil⟩

theorem keeps_softReset (s : State) : keeps s (softReset s) := by
  unfold softReset
  generalize hu : softResetZoom _ = u at *
  have reset : keeps s u := by
    rw [← hu]
    refine (keeps_softResetTapClip s).watched ?_
    refine (watch_endCause _ _).trans ((watch_setZoom _ _).trans ((watch_setView rfl).trans ?_))
    exact (watch_endCause _ _).trans ((watch_setMotion _ _).trans ((watch_softResetCard _ _).trans (watch_softResetCard _ _)))
  exact ((reset.trans (keeps_softResetAudio u)).trans (keeps_softResetAcc _)).trans (keeps_softResetControl _)

theorem rowKeeps_softReset (h : EntryHead) (s : State) : rowKeeps (execSoftReset h s) s := by
  refine rowKeeps_next ?_
  split
  · exact keeps_refl s
  · rename_i s1 hs1
    exact ((keeps_softReset s1).after (watch_takeEntry hs1)).watched ((watch_requestStatus _).trans (watch_finishCommand _ _))

theorem keeps_resetAssert (s : State) : keeps s (resetAssert s) := by
  refine ⟨fun k => ?_, fun k => ?_⟩
  · obtain ⟨hq, -⟩ := placesKept_iff.mp (placesKept_forwardHeld k)
    exact placesKept_iff.mpr ⟨hq, Nat.zero_le 8, Nat.zero_le 64, Nat.zero_le 8, ⟨le_rfl, Nat.zero_le 8, fun _ => rfl⟩,
      show ((0 : Word16) - 0).toNat ≤ 64 by decide, .nil⟩
  · obtain ⟨frame, -, -⟩ := streamKept_iff.mp k
    exact streamKept_of_emptyTap frame rfl rfl (.inr rfl) (.inr rfl) rfl rfl (hostSerials_abandonInternal (forwardHeld s))
      (videoEnds_abandonInternal (forwardHeld s)) fun _ _ _ h => by cases h

theorem rowKeeps_resetNAssert (s : State) : rowKeeps (execResetNAssert s) s := by
  refine rowKeeps_next ?_
  split
  · exact keeps_refl s
  · exact keeps_resetAssert s

theorem watch_resetRelease (memtop : BitVec 3) (enc home : Bool) (s : State) : watch (resetRelease memtop enc home s) = watch s :=
  (watch_requestStatus _).trans ((watch_presentWrite _ _).trans (watch_presentWrite _ _))

theorem rowKeeps_resetNRelease (memtop : BitVec 3) (enc home : Bool) (s : State) :
    rowKeeps (execResetNRelease memtop enc home s) s := by
  refine rowKeeps_next ?_
  split
  · exact keeps_of_watch (watch_resetRelease memtop enc home s)
  · exact keeps_refl s

/-! ### Every row (R3, R19, R109) -/

/-- Every row of the table keeps both invariants. -/
theorem rowKeeps_exec (i : Instr) (s : State) : rowKeeps (exec i s) s := by
  cases i with
  | hostTransactionTake t => exact rowKeeps_hostTransactionTake t s
  | holdTimerExpiry => exact rowKeeps_holdTimerExpiry s
  | downstreamGrant => exact rowKeeps_downstreamGrant s
  | hostDownstreamCompletion data => exact rowKeeps_hostDownstreamCompletion data s
  | upstreamCompletion => exact rowKeeps_upstreamCompletion s
  | commandProducerWrite => exact rowKeeps_commandProducerWrite s
  | reportConsumerWrite => exact rowKeeps_reportConsumerWrite s
  | reportProducerAck => exact rowKeeps_reportProducerAck s
  | statusTimerExpiry => exact rowKeeps_statusTimerExpiry s
  | unknownCommand h code => exact rowKeeps_unknownCommand h code s
  | setRegion h record base size spec => exact rowKeeps_setRegion h record base size spec s
  | clearRegion h record => exact rowKeeps_clearRegion h record s
  | recConfig h mode gripRec chunkMax chunkMin => exact rowKeeps_recConfig h mode gripRec chunkMax chunkMin s
  | recStart h clip => exact rowKeeps_recStart h clip s
  | recStop h => exact rowKeeps_recStop h s
  | cardChain h slot group => exact rowKeeps_cardChain h slot group s
  | cardSleep h slot => exact rowKeeps_cardSleep h slot s
  | cardWake h slot => exact rowKeeps_cardWake h slot s
  | cardEject h slot => exact rowKeeps_cardEject h slot s
  | stabConfig h biasX biasY dirX dirY kSteady kPan panThreshold panEnter panExit =>
    exact rowKeeps_stabConfig h biasX biasY dirX dirY kSteady kPan panThreshold panEnter panExit s
  | stabEnable h => exact rowKeeps_stabEnable h s
  | stabDisable h => exact rowKeeps_stabDisable h s
  | focalLoad h addr => exact rowKeeps_focalLoad h addr s
  | focalLoadReadReturn data => exact rowKeeps_focalLoadReadReturn data s
  | zoomConfig h addr seg e tolerance => exact rowKeeps_zoomConfig h addr seg e tolerance s
  | zoomConfigReadReturn data => exact rowKeeps_zoomConfigReadReturn data s
  | zoomHome h => exact rowKeeps_zoomHome h s
  | zoomGoto h target maxLevel => exact rowKeeps_zoomGoto h target maxLevel s
  | zoomSpeed h level => exact rowKeeps_zoomSpeed h level s
  | zoomStop h => exact rowKeeps_zoomStop h s
  | audioConfig h role enables => exact rowKeeps_audioConfig h role enables s
  | audioOff h => exact rowKeeps_audioOff h s
  | accConfigBegin h => exact rowKeeps_accConfigBegin h s
  | accBufferSet h index direction identifier owner mode staleCycles =>
    exact rowKeeps_accBufferSet h index direction identifier owner mode staleCycles s
  | accFilterSet h acceptEnable acceptCode acceptMask rejectEnable rejectCode rejectMask =>
    exact rowKeeps_accFilterSet h acceptEnable acceptCode acceptMask rejectEnable rejectCode rejectMask s
  | accLinkSet h period q => exact rowKeeps_accLinkSet h period q s
  | accConfigEnd h => exact rowKeeps_accConfigEnd h s
  | accSend h index length data => exact rowKeeps_accSend h index length data s
  | ackConditions h set => exact rowKeeps_ackConditions h set s
  | setNoticeMask h set => exact rowKeeps_setNoticeMask h set s
  | softReset h => exact rowKeeps_softReset h s
  | chunkChoice => exact rowKeeps_chunkChoice s
  | videoPayloadReadReturn data => exact rowKeeps_videoPayloadReadReturn data s
  | audioPayloadReadReturn data => exact rowKeeps_audioPayloadReadReturn data s
  | pageOpen => exact rowKeeps_pageOpen s
  | clipClose => exact rowKeeps_clipClose s
  | recordingStopped => exact rowKeeps_recordingStopped s
  | cardDetectActive slot => exact rowKeeps_cardDetectActive slot s
  | cardSettleExpiry slot => exact rowKeeps_cardSettleExpiry slot s
  | cardRemoval slot => exact rowKeeps_cardRemoval slot s
  | cardIdentRetry slot => exact rowKeeps_cardIdentRetry slot s
  | cardIdentResponse slot response protectInput => exact rowKeeps_cardIdentResponse slot response protectInput s
  | cardIdentTimeout slot => exact rowKeeps_cardIdentTimeout slot s
  | cardStatusPoll slot elapsed => exact rowKeeps_cardStatusPoll slot elapsed s
  | cardStatusResponse slot response protectInput elapsed => exact rowKeeps_cardStatusResponse slot response protectInput elapsed s
  | cardPageWriteTimeout slot => exact rowKeeps_cardPageWriteTimeout slot s
  | cardEraseTimeout slot => exact rowKeeps_cardEraseTimeout slot s
  | cardWakeTimeout slot => exact rowKeeps_cardWakeTimeout slot s
  | cardDescriptorFetchDone slot data protectInput => exact rowKeeps_cardDescriptorFetchDone slot data protectInput s
  | cardRollover slot => exact rowKeeps_cardRollover slot s
  | cardEraseStart slot => exact rowKeeps_cardEraseStart slot s
  | cardPageWriteStart slot => exact rowKeeps_cardPageWriteStart slot s
  | gyroSampleInstant => exact rowKeeps_gyroSampleInstant s
  | gyroAnswer status yawLow yawHigh pitchLow pitchHigh => exact rowKeeps_gyroAnswer status yawLow yawHigh pitchLow pitchHigh s
  | gyroReadTimeout => exact rowKeeps_gyroReadTimeout s
  | rampTick => exact rowKeeps_rampTick s
  | lensTimerUnderflow => exact rowKeeps_lensTimerUnderflow s
  | encoderEdge samples => exact rowKeeps_encoderEdge samples s
  | homeRise samples => exact rowKeeps_homeRise samples s
  | samplePeriod received => exact rowKeeps_samplePeriod received s
  | frameSync edges sdin => exact rowKeeps_frameSync edges sdin s
  | missingFrame => exact rowKeeps_missingFrame s
  | audioSlipTimerExpiry => exact rowKeeps_audioSlipTimerExpiry s
  | meterWindowEnd => exact rowKeeps_meterWindowEnd s
  | cycleInstant => exact rowKeeps_cycleInstant s
  | accMessageReceive slot m => exact rowKeeps_accMessageReceive slot m s
  | accSlotEnd slot => exact rowKeeps_accSlotEnd slot s
  | accSlotStart slot => exact rowKeeps_accSlotStart slot s
  | accTransmitDone => exact rowKeeps_accTransmitDone s
  | resetNAssert => exact rowKeeps_resetNAssert s
  | resetNRelease memtop encSample homeSample => exact rowKeeps_resetNRelease memtop encSample homeSample s

theorem keeps_step {s t : State} (h : step s = .next t) : keeps s t := by
  unfold step at h
  split at h
  · cases h
    exact keeps_refl s
  · exact (rowKeeps_exec _ _ t h).after (watch_setPending s _)

/-- Settles O58: every row keeps the places and the laws of the stream and of the slots. -/
theorem listsKeepWithinTheirPlaces : Obligations.ListsKeepWithinTheirPlaces := by
  unfold Obligations.ListsKeepWithinTheirPlaces
  exact ⟨fun s t k h => (keeps_step h).1 k, fun s t k h => (keeps_step h).2 k⟩

end Sys2Proof.Machine

namespace Sys2Proof.Machine

/-! ### The bytes of a record (R205, R207) -/

theorem fromLittleEndian_littleEndian (n v : Nat) : fromLittleEndian (littleEndian n v) = v % 256 ^ n := by
  induction n generalizing v with
  | zero => simp [littleEndian, fromLittleEndian, Nat.mod_one]
  | succ n ih =>
    rw [littleEndian, fromLittleEndian, ih, BitVec.toNat_ofNat, Nat.pow_succ' (n := n) (m := 256),
      Nat.mod_mul (x := v) (a := 256) (b := 256 ^ n)]

@[simp] theorem littleEndian_length (n v : Nat) : (littleEndian n v).length = n := by
  induction n generalizing v with
  | zero => rfl
  | succ n ih => simp [littleEndian, ih]

@[simp] theorem toLength_length (n : Nat) (bytes : List Byte) : (toLength n bytes).length = n := by simp [toLength]

/-- A field of a record that begins with other bytes (R205). -/
theorem field_append_right {a b : List Byte} {i n : Nat} (h : a.length ≤ i) : field (a ++ b) i n = field b (i - a.length) n := by
  rw [field, field, List.drop_append, List.drop_eq_nil_of_le h, List.nil_append]

theorem field_littleEndian_append (n v : Nat) (b : List Byte) : field (littleEndian n v ++ b) 0 n = v % 256 ^ n := by
  rw [field, List.drop_zero, List.take_left' (littleEndian_length n v), fromLittleEndian_littleEndian]

theorem byteAt_cons (b : Byte) (rest : List Byte) : byteAt (b :: rest) 0 = b := by simp [byteAt, field, fromLittleEndian]

theorem byteAt_cons_succ (b : Byte) (rest : List Byte) (i : Nat) : byteAt (b :: rest) (i + 1) = byteAt rest i := rfl

/-! ### The bytes of a notice (R194, R207) -/

section

variable (kind source : Byte) (seq : Word16) (frame : Word32) {payload : List Byte}

theorem noticeBytes_length (h : payload.length = 24) : (noticeBytes kind source seq frame payload).length = 32 := by
  simp [noticeBytes, h]

theorem noticeBytes_sequence : field (noticeBytes kind source seq frame payload) 2 2 = seq.toNat := by
  rw [noticeBytes, List.append_assoc, List.append_assoc, field_append_right (by simp)]
  simp only [List.length_cons, List.length_nil, Nat.reduceAdd, Nat.sub_self]
  rw [field_littleEndian_append]
  exact Nat.mod_eq_of_lt seq.isLt

theorem noticeBytes_frame : field (noticeBytes kind source seq frame payload) 4 4 = frame.toNat := by
  rw [noticeBytes, List.append_assoc, field_append_right (by simp)]
  simp only [List.length_append, List.length_cons, List.length_nil, littleEndian_length, Nat.reduceAdd, Nat.sub_self]
  rw [field_littleEndian_append]
  exact Nat.mod_eq_of_lt frame.isLt

theorem noticeBytes_payload : (noticeBytes kind source seq frame payload).drop 8 = payload := by
  rw [noticeBytes, List.drop_left' (by simp)]

end

theorem kind_eq_noticeFields (s : State) (folds : Nat) (n : Notice) : n.kind = (noticeFields s folds n).1 := by cases n <;> rfl

theorem source_eq_noticeFields (s : State) (folds : Nat) (n : Notice) : n.source = (noticeFields s folds n).2.1 := by
  cases n with
  | cardState slot => cases slot <;> rfl
  | chainBad slot => cases slot <;> rfl
  | auBad slot => cases slot <;> rfl
  | _ => rfl

/-- The payload that the unit builds is the one that R207 gives the kind, filled with zeros. -/
theorem noticePayload_eq (s : State) (n : Notice) (frame : Word32) (folds : Nat) :
    noticePayload s ⟨n, frame, folds⟩ = ((noticeFields s folds n).2.2 ++ List.replicate 24 (0 : Byte)).take 24 := by
  rw [noticePayload, toLength]
  congr 2
  cases n with
  | recState ev st r => cases ev <;> cases r <;> rfl
  | cardState slot new old au page probed => cases probed <;> rfl
  | _ => rfl

theorem noticePayload_length (s : State) (p : StampedNotice) : (noticePayload s p).length = 24 := toLength_length 24 _

/-! ### The writes of a notice (R188, R194) -/

theorem producerWordWrite_lanes (v : Word16) : beatLanes 0 (littleEndian 4 v.toNat) =
    [(v.extractLsb' 0 8, true), (v.extractLsb' 8 8, true), (0, true), (0, true), (0, false), (0, false), (0, false), (0, false)] := by
  have h0 : BitVec.ofNat 8 v.toNat = v.extractLsb' 0 8 := by
    apply BitVec.eq_of_toNat_eq; simp
  have h1 : BitVec.ofNat 8 (v.toNat / 256) = v.extractLsb' 8 8 := by
    apply BitVec.eq_of_toNat_eq; simp [Nat.shiftRight_eq_div_pow]
  have h2 : v.toNat / 256 / 256 = 0 := by have := v.isLt; omega
  simp [beatLanes, littleEndian, allLanes, h0, h1, h2]

/-- The bytes that a stamped notice takes in the ring when it is written in the state `s` (R194, R207). -/
def ringBytes (p : StampedNotice) (s : State) : List Byte :=
  noticeBytes p.notice.kind p.notice.source s.control.reportProducer p.frame (noticePayload s p)

theorem ringBytes_length (p : StampedNotice) (s : State) : (ringBytes p s).length = 32 :=
  noticeBytes_length _ _ _ _ (noticePayload_length s p)

theorem writeNotice_eq (p : StampedNotice) (s : State) : writeNotice p s = clearNoticeCount p.notice (writeRing (ringBytes p s) s) := rfl

theorem writeRing_control (bytes : List Byte) (s : State) : (writeRing bytes s).control = { s.control with
    reportProducer := s.control.reportProducer + 1
    writes := s.control.writes ++
      [⟨controlPage s + 0x400 + 32 * (s.control.reportProducer.toNat % 64), bytes.map fun b => (b, true), .plain⟩,
       ⟨controlPage s + 0xE08,
        [((s.control.reportProducer + 1).extractLsb' 0 8, true), ((s.control.reportProducer + 1).extractLsb' 8 8, true),
          (0, true), (0, true), (0, false), (0, false), (0, false), (0, false)],
        .producerWord (s.control.reportProducer + 1)⟩] } := by
  rw [← producerWordWrite_lanes]
  simp only [writeRing, presentWrite, producerWordWrite, allLanes, controlPage, State.setControl_control, List.append_assoc]
  rfl

theorem writeRing_changesOnly (bytes : List Byte) (s : State) : changesOnly [.control] s (writeRing bytes s) := by
  intro p hp
  cases p <;> simp [Part.same] at hp ⊢

/-! ### Pending notices (R195) -/

/-- The folds with which a notice pends: a CMD_DONE that takes the place of another counts one more (R192, R195). -/
def pendFolds (n : Notice) (l : List StampedNotice) : Nat :=
  match l.find? fun q => sameSource q.notice n with
  | some q => if isCmdDone n then q.folds + 1 else 0
  | none => 0

theorem sameSource_eq_false {m n : Notice} (h : m.kind ≠ n.kind ∨ m.source ≠ n.source) : sameSource m n = false := by
  rw [Bool.eq_false_iff, ne_eq, sameSource_iff]
  tauto

theorem pendNotice_absent {p : StampedNotice} {l : List StampedNotice} (h : ∀ q ∈ l, sameSource q.notice p.notice = false) :
    pendNotice p l = l ++ [p] := by
  induction l with
  | nil => rfl
  | cons q l ih =>
    simp only [List.forall_mem_cons] at h
    rw [pendNotice, if_neg (by simp [h.1]), ih h.2]
    rfl

theorem pendNotice_replaces {p q : StampedNotice} {pre post : List StampedNotice}
    (hpre : ∀ x ∈ pre, sameSource x.notice p.notice = false) (hq : sameSource q.notice p.notice = true) :
    pendNotice p (pre ++ q :: post) = pre ++ { p with folds := if isCmdDone p.notice then q.folds + 1 else 0 } :: post := by
  induction pre with
  | nil => exact if_pos hq
  | cons x pre ih =>
    simp only [List.forall_mem_cons] at hpre
    rw [List.cons_append, pendNotice, if_neg (by simp [hpre.1]), ih hpre.2]
    rfl

theorem pendFolds_absent {n : Notice} {l : List StampedNotice} (h : ∀ q ∈ l, sameSource q.notice n = false) : pendFolds n l = 0 := by
  rw [pendFolds, List.find?_eq_none.mpr (by simpa using h)]

theorem pendFolds_replaces {n : Notice} {q : StampedNotice} {pre post : List StampedNotice}
    (hpre : ∀ x ∈ pre, sameSource x.notice n = false) (hq : sameSource q.notice n = true) :
    pendFolds n (pre ++ q :: post) = if isCmdDone n then q.folds + 1 else 0 := by
  have hnone : pre.find? (fun q => sameSource q.notice n) = none := List.find?_eq_none.mpr (by simpa using hpre)
  have hsome : (q :: post).find? (fun q => sameSource q.notice n) = some q := by simp [hq]
  rw [pendFolds, List.find?_append, hnone, Option.none_or, hsome]

/-! ### A notice is posted (R193, R195, R207) -/

theorem postNotice_of_room {n : Notice} {s : State} (h : unread s < 64) :
    postNotice n s = clearNoticeCount n (writeRing (ringBytes ⟨n, s.view.frameCount, 0⟩ s) s) := if_pos h

theorem postNotice_of_full {n : Notice} {s : State} (h : 64 ≤ unread s) : postNotice n s =
    s.setControl { s.control with pendingNotices := pendNotice ⟨n, s.view.frameCount, 0⟩ s.control.pendingNotices } :=
  if_neg (Nat.not_lt.mpr h)

theorem setTapCount_same (v : Word16) (src : TapSource) (s : State) : tapCount (setTapCount s v src) src = v := by cases src <;> rfl

theorem setTapCount_other (v : Word16) {src d : TapSource} (h : d ≠ src) (s : State) :
    tapCount (setTapCount s v src) d = tapCount s d := by
  cases src <;> cases d <;> simp_all [setTapCount, tapCount]

theorem setTapCount_changesOnly (v : Word16) (src : TapSource) (s : State) : changesOnly [.tap, .view] s (setTapCount s v src) := by
  intro p hp
  cases src <;> cases p <;> simp_all [Part.same, setTapCount]

theorem toNat_saturatingSucc (v : Word16) : (saturatingSucc v).toNat = min 65535 (v.toNat + 1) := by
  unfold saturatingSucc
  split
  · rename_i h
    rw [h]
    rfl
  · rename_i h
    have : v.toNat ≠ 65535 := fun e => h (BitVec.eq_of_toNat_eq e)
    bv_omega

/-- The CMD_DONE of a fold carries the frame count of its posting and the folds, at most 255 (R192, R207). -/
theorem cmdDone_ringBytes (k : Kept) (r : Result) (frame : Word32) (folds : Nat) (s : State) :
    field (ringBytes ⟨.cmdDone k r, frame, folds⟩ s) 4 4 = frame.toNat ∧
      field (ringBytes ⟨.cmdDone k r, frame, folds⟩ s) 13 1 = min folds 255 := by
  refine ⟨noticeBytes_frame _ _ _ _, ?_⟩
  have hcap : min folds 255 % 256 = min folds 255 := by omega
  simp [ringBytes, noticeBytes, noticePayload, toLength, littleEndian, field, fromLittleEndian, hcap]

/-- Settles O15: the ring has a free place or it has none, and in the second case the notice replaces another or joins the tail. -/
theorem postedNoticeIsWrittenOrPends : Obligations.PostedNoticeIsWrittenOrPends := by
  unfold Obligations.PostedNoticeIsWrittenOrPends
  refine ⟨fun n s => ⟨fun hroom => ?_, fun hfull => ?_⟩, fun k r frame folds s => ?_, fun src offset skipped s => ?_⟩
  · refine ⟨ringBytes ⟨n, s.view.frameCount, 0⟩ s, writeRing (ringBytes ⟨n, s.view.frameCount, 0⟩ s) s, ringBytes_length _ s,
      byteAt_cons _ _, byteAt_cons _ _, noticeBytes_sequence _ _ _ _, noticeBytes_frame _ _ _ _, kind_eq_noticeFields s 0 n,
      source_eq_noticeFields s 0 n, ?_, writeRing_changesOnly _ s, writeRing_control _ s, ?_, ?_⟩
    · exact (noticeBytes_payload _ _ _ _).trans (noticePayload_eq s n _ 0)
    · rw [postNotice_of_room hroom, clearNoticeCount_control]
    · rw [postNotice_of_room hroom]
      cases n <;> rfl
  · refine ⟨⟨n, s.view.frameCount, pendFolds n s.control.pendingNotices⟩, rfl, rfl, ?_, fun hnone => ?_, fun pre q post hl hk hs hpre => ?_⟩
    · rw [postNotice_of_full hfull]
      intro p hp
      cases p <;> simp [Part.same] at hp ⊢
    · have hnone' := fun q hq => sameSource_eq_false (hnone q hq)
      rw [postNotice_of_full hfull, pendNotice_absent hnone', pendFolds_absent hnone']
      exact ⟨rfl, rfl⟩
    · have hpre' := fun q hq => sameSource_eq_false (hpre q hq)
      have hq : sameSource q.notice n = true := (sameSource_iff _ _).mpr ⟨hk, hs⟩
      rw [postNotice_of_full hfull, hl, pendNotice_replaces hpre' hq, pendFolds_replaces hpre' hq]
      refine ⟨?_, rfl⟩
      cases n <;> rfl
  · refine ⟨ringBytes ⟨.cmdDone k r, frame, folds⟩ s, ?_, ringBytes_length _ s, cmdDone_ringBytes k r frame folds s⟩
    rw [writeNotice_eq, clearNoticeCount_control, writeRing_control]
    simp [List.take_append]
  · exact ⟨_, rfl, setTapCount_changesOnly _ src s, by rw [setTapCount_same, toNat_saturatingSucc],
      fun d hd => setTapCount_other _ hd s⟩

end Sys2Proof.Machine

namespace Sys2Proof.Machine

/-! ### The Condition Set under a cause that starts or ends (R198) -/

theorem number_injective {c d : Condition} (h : c.number = d.number) : c = d := by
  revert h
  cases c <;> cases d <;> simp [Condition.number]

theorem condState_setCondState_same (s : State) (c : Condition) (v : CondState) : condState (setCondState s c v) c = v := by
  simp [condState, setCondState]

theorem condState_setCondState_other (s : State) {c d : Condition} (h : d ≠ c) (v : CondState) :
    condState (setCondState s c v) d = condState s d := by
  have hn : c.number.val ≠ d.number.val := fun e => h (number_injective (Fin.ext e)).symm
  simp [condState, setCondState, Vector.getElem_set_ne, hn]

theorem condState_congr {s t : State} (h : t.control.conditions = s.control.conditions) (c : Condition) :
    condState t c = condState s c := by rw [condState, condState, h]

theorem conditions_postNotice (n : Notice) (s : State) : (postNotice n s).control.conditions = s.control.conditions := by
  rcases Nat.lt_or_ge (unread s) 64 with h | h
  · rw [postNotice_of_room h, clearNoticeCount_control, writeRing_control]
  · rw [postNotice_of_full h]
    rfl

theorem conditions_tapEvent (src : TapSource) (offset skipped : Nat) (s : State) :
    (tapEvent src offset skipped s).control.conditions = s.control.conditions := by
  rw [tapEvent, conditions_postNotice]
  cases src <;> rfl

theorem condState_endCause_other (s : State) {c d : Condition} (h : d ≠ c) : condState (endCause c s) d = condState s d :=
  condState_setCondState_other s h _

theorem causePresent_endCause (c : Condition) (s : State) : causePresent (endCause c s) c = false := by
  rw [causePresent, endCause, condState_setCondState_same]
  cases condState s c <;> rfl

theorem causePresent_startCause (c : Condition) (s : State) : causePresent (startCause c s) c = true := by
  unfold startCause
  split
  · assumption
  · dsimp only
    split
    · rw [causePresent, condState_setCondState_same]
      rfl
    · rw [causePresent, condState_congr (conditions_postNotice _ _), condState_setCondState_same]
      rfl

/-! ### The Stream Tap's operations (R4, R7, R9, R13, R14) -/

/-- A gap posts its notice; no other case of a forwarded write does (R9, R10). -/
def gapEvent (w : StreamWrite) (s : State) : State := if w.kase = .gap then tapEvent .gap w.offset w.skipped s else s

theorem writeRing_setTap (bytes : List Byte) (v : Tap) (s : State) : writeRing bytes (s.setTap v) = (writeRing bytes s).setTap v := by
  have page : controlPage (s.setTap v) = controlPage s := rfl
  simp only [writeRing, presentWrite, producerWordWrite, page, State.setTap_control]
  generalize controlPage s = page
  rfl

/-- The state in which a gap has been counted and its notice is posted (R10). -/
def gapCounted (s : State) : State := s.setTap { s.tap with gaps := saturatingSucc s.tap.gaps }

theorem tapEvent_gap_of_room {offset skipped : Nat} {s : State} (h : unread s < 64) : tapEvent .gap offset skipped s =
    (writeRing (ringBytes ⟨.tapEvent .gap offset skipped, s.view.frameCount, 0⟩ (gapCounted s)) s).setTap { s.tap with gaps := 0 } :=
  postNotice_of_room (s := gapCounted s) h

theorem tapEvent_gap_of_full {offset skipped : Nat} {s : State} (h : 64 ≤ unread s) : tapEvent .gap offset skipped s =
    (gapCounted s).setControl { s.control with
      pendingNotices := pendNotice ⟨.tapEvent .gap offset skipped, s.view.frameCount, 0⟩ s.control.pendingNotices } :=
  postNotice_of_full (s := gapCounted s) h

theorem tapEvent_gap_tap (offset skipped : Nat) (s : State) : (tapEvent .gap offset skipped s).tap =
    { s.tap with gaps := (tapEvent .gap offset skipped s).tap.gaps } := by
  rcases Nat.lt_or_ge (unread s) 64 with h | h
  · rw [tapEvent_gap_of_room h]
    rfl
  · rw [tapEvent_gap_of_full h]
    rfl

theorem tapEvent_gap_view (offset skipped : Nat) (s : State) : (tapEvent .gap offset skipped s).view = s.view := by
  rcases Nat.lt_or_ge (unread s) 64 with h | h
  · rw [tapEvent_gap_of_room h, State.setTap_view, writeRing_view]
  · rw [tapEvent_gap_of_full h]
    rfl

/-- The event of a gap reads of the Stream Tap its count of gaps alone (R10). -/
theorem tapEvent_gap_setTap (offset skipped : Nat) {v : Tap} {s : State} (h : v.gaps = s.tap.gaps) :
    tapEvent .gap offset skipped (s.setTap v) =
      (tapEvent .gap offset skipped s).setTap { v with gaps := (tapEvent .gap offset skipped s).tap.gaps } := by
  rcases Nat.lt_or_ge (unread s) 64 with hr | hr
  · have hr' : unread (s.setTap v) < 64 := hr
    have bytes : ringBytes ⟨.tapEvent .gap offset skipped, s.view.frameCount, 0⟩ (gapCounted (s.setTap v)) =
        ringBytes ⟨.tapEvent .gap offset skipped, s.view.frameCount, 0⟩ (gapCounted s) := by
      simp only [ringBytes, noticePayload, tapCount, gapCounted, State.setTap_tap, h]
      rfl
    rw [tapEvent_gap_of_room hr, tapEvent_gap_of_room hr', State.setTap_view, bytes, writeRing_setTap]
    rfl
  · have hr' : 64 ≤ unread (s.setTap v) := hr
    rw [tapEvent_gap_of_full hr, tapEvent_gap_of_full hr', gapCounted, gapCounted, State.setTap_tap, h]
    rfl

theorem postNotice_condition_setTap (c : Condition) (v : Tap) (s : State) :
    postNotice (.condition c) (s.setTap v) = (postNotice (.condition c) s).setTap v := by
  rcases Nat.lt_or_ge (unread s) 64 with hr | hr
  · have hr' : unread (s.setTap v) < 64 := hr
    have bytes : ringBytes ⟨.condition c, s.view.frameCount, 0⟩ (s.setTap v) = ringBytes ⟨.condition c, s.view.frameCount, 0⟩ s := rfl
    rw [postNotice_of_room hr, postNotice_of_room hr', State.setTap_view, bytes, writeRing_setTap]
    rfl
  · have hr' : 64 ≤ unread (s.setTap v) := hr
    rw [postNotice_of_full hr, postNotice_of_full hr']
    rfl

theorem startCause_setTap (c : Condition) (v : Tap) (s : State) : startCause c (s.setTap v) = (startCause c s).setTap v := by
  have hp : causePresent (s.setTap v) c = causePresent s c := rfl
  have hs : setCondState (s.setTap v) c .active = (setCondState s c .active).setTap v := rfl
  unfold startCause
  dsimp only
  rw [hp, hs, postNotice_condition_setTap, State.setTap_control]
  split
  · rfl
  · split <;> rfl

/-! ### Frames -/

theorem same_trans {p : Part} {s t u : State} (h : p.same s t) (k : p.same t u) : p.same s u := by
  cases p <;> exact Eq.trans k h

theorem changesOnly_trans {ps : List Part} {s t u : State} (h : changesOnly ps s t) (k : changesOnly ps t u) : changesOnly ps s u :=
  fun p hp => same_trans (h p hp) (k p hp)

theorem changesOnly_mono {ps qs : List Part} (sub : ps ⊆ qs) {s t : State} (h : changesOnly ps s t) : changesOnly qs s t :=
  fun p hp => h p fun hp' => hp (sub hp')

theorem changesOnly_setTap (v : Tap) (s : State) : changesOnly [.tap] s (s.setTap v) := by
  intro p hp
  cases p <;> simp [Part.same] at hp ⊢

theorem changesOnly_startCause (c : Condition) (s : State) : changesOnly [.control] s (startCause c s) := by
  intro p hp
  cases p <;> simp [Part.same] at hp ⊢

theorem changesOnly_endCause (c : Condition) (s : State) : changesOnly [.control] s (endCause c s) := by
  intro p hp
  cases p <;> simp [Part.same] at hp ⊢

theorem changesOnly_overrunEndTest (s : State) : changesOnly [.control] s (overrunEndTest s) := by
  intro p hp
  cases p <;> simp [Part.same] at hp ⊢

theorem changesOnly_recomputeFloor (s : State) : changesOnly [.tap] s (recomputeFloor s) := by
  intro p hp
  cases p <;> simp [Part.same] at hp ⊢

theorem changesOnly_tapEvent_gap (offset skipped : Nat) (s : State) : changesOnly [.tap, .control] s (tapEvent .gap offset skipped s) := by
  intro p hp
  cases p <;> simp [Part.same, tapEvent_gap_view] at hp ⊢

theorem changesOnly_gapEvent (w : StreamWrite) (s : State) : changesOnly [.tap, .control] s (gapEvent w s) := by
  unfold gapEvent
  split
  · exact changesOnly_tapEvent_gap _ _ s
  · exact changesOnly_refl _ s

/-! ### Forwarded writes and overruns in closed form (R7, R9, R13, R14) -/

theorem gapEvent_tap (w : StreamWrite) (s : State) : (gapEvent w s).tap = { s.tap with gaps := (gapEvent w s).tap.gaps } := by
  unfold gapEvent
  split
  · exact tapEvent_gap_tap _ _ s
  · rfl

theorem gapEvent_setTap (w : StreamWrite) {v : Tap} {s : State} (h : v.gaps = s.tap.gaps) :
    gapEvent w (s.setTap v) = (gapEvent w s).setTap { v with gaps := (gapEvent w s).tap.gaps } := by
  unfold gapEvent
  split
  · exact tapEvent_gap_setTap _ _ h
  · rw [← h]

theorem conditions_gapEvent (w : StreamWrite) (s : State) : (gapEvent w s).control.conditions = s.control.conditions := by
  unfold gapEvent
  split
  · exact conditions_tapEvent _ _ _ s
  · rfl

/-- Cursor has moved over a forwarded write, and the gap it may leave has been reported (R7, R9). -/
def cursorMoved (w : StreamWrite) (s : State) : State :=
  (gapEvent w s).setTap { s.tap with cursor := w.newCursor, gaps := (gapEvent w s).tap.gaps }

theorem advanceCursor_eq (w : StreamWrite) (s : State) : advanceCursor w s = overrunEndTest (recomputeFloor (cursorMoved w s)) :=
  congrArg (fun t => overrunEndTest (recomputeFloor t)) (gapEvent_setTap w (v := { s.tap with cursor := w.newCursor }) rfl)

theorem changesOnly_cursorMoved (w : StreamWrite) (s : State) : changesOnly [.tap, .control] s (cursorMoved w s) :=
  changesOnly_trans (changesOnly_gapEvent w s) (changesOnly_mono (by simp) (changesOnly_setTap _ _))

theorem changesOnly_advanceCursor (w : StreamWrite) (s : State) : changesOnly [.tap, .control] s (advanceCursor w s) := by
  rw [advanceCursor_eq]
  exact changesOnly_trans (changesOnly_trans (changesOnly_cursorMoved w s) (changesOnly_mono (by simp) (changesOnly_recomputeFloor _)))
    (changesOnly_mono (by simp) (changesOnly_overrunEndTest _))

/-- The overrun has begun: the cause of STREAM_OVERRUN is present, and cursor, floor, ship and the entries have jumped (R13, R14). -/
def overrunJumped (r : StreamRegion) (w : StreamWrite) (s : State) : State :=
  (gapEvent w (startCause .streamOverrun s)).setTap { s.tap with
    cursor := w.newCursor, floor := overrunFloor r w s, ship := overrunFloor r w s
    entries := entriesFrom (overrunFloor r w s) s.tap.entries, discontinuity := true
    gaps := (gapEvent w (startCause .streamOverrun s)).tap.gaps }

theorem overrun_eq (r : StreamRegion) (w : StreamWrite) (s : State) : overrun r w s =
    if assembled (overrunJumped r w s) then overrunEndTest (overrunJumped r w s)
    else recomputeFloor (endCause .streamOverrun (overrunJumped r w s)) := by
  have jumped : gapEvent w ((startCause .streamOverrun (s.setTap { s.tap with
        floor := overrunFloor r w s, ship := overrunFloor r w s
        entries := entriesFrom (overrunFloor r w s) s.tap.entries, discontinuity := true })).setTap { s.tap with
        floor := overrunFloor r w s, ship := overrunFloor r w s
        entries := entriesFrom (overrunFloor r w s) s.tap.entries, discontinuity := true, cursor := w.newCursor }) =
      overrunJumped r w s := by
    rw [startCause_setTap]
    exact gapEvent_setTap w (s := startCause .streamOverrun s) (by simp)
  rw [← jumped]
  unfold overrun
  simp only [startCause_tap, State.setTap_tap]
  rfl

theorem changesOnly_overrunJumped (r : StreamRegion) (w : StreamWrite) (s : State) :
    changesOnly [.tap, .control] s (overrunJumped r w s) :=
  changesOnly_trans (changesOnly_trans (changesOnly_mono (by simp) (changesOnly_startCause _ s)) (changesOnly_gapEvent w _))
    (changesOnly_mono (by simp) (changesOnly_setTap _ _))

theorem changesOnly_overrun (r : StreamRegion) (w : StreamWrite) (s : State) : changesOnly [.tap, .control] s (overrun r w s) := by
  rw [overrun_eq]
  split
  · exact changesOnly_trans (changesOnly_overrunJumped r w s) (changesOnly_mono (by simp) (changesOnly_overrunEndTest _))
  · exact changesOnly_trans (changesOnly_trans (changesOnly_overrunJumped r w s) (changesOnly_mono (by simp) (changesOnly_endCause _ _)))
      (changesOnly_mono (by simp) (changesOnly_recomputeFloor _))

theorem causePresent_overrunJumped (r : StreamRegion) (w : StreamWrite) (s : State) :
    causePresent (overrunJumped r w s) .streamOverrun = true := by
  have same : condState (overrunJumped r w s) .streamOverrun = condState (startCause .streamOverrun s) .streamOverrun :=
    condState_congr (conditions_gapEvent w _) _
  rw [causePresent, same]
  exact causePresent_startCause _ s

/-- STREAM_OVERRUN's cause ends at an advance that leaves less than half of the ring unshipped (R14). -/
theorem causePresent_overrunEndTest {s : State} {r : StreamRegion} (hr : streamRegion s = some r)
    (hp : causePresent s .streamOverrun = true) :
    causePresent (overrunEndTest s) .streamOverrun = decide (r.size ≤ 2 * (s.tap.cursor - s.tap.ship)) := by
  unfold overrunEndTest
  rw [hr]
  dsimp only
  split
  · rw [causePresent_endCause]
    symm
    rw [decide_eq_false_iff_not]
    omega
  · rw [hp]
    symm
    rw [decide_eq_true_eq]
    omega

theorem condState_overrunEndTest {c : Condition} (h : c ≠ .streamOverrun) (s : State) : condState (overrunEndTest s) c = condState s c := by
  unfold overrunEndTest
  split
  · rfl
  · split
    · exact condState_endCause_other s h
    · rfl

/-- The test of R14 changes nothing but conditions. -/
theorem overrunEndTest_control (s : State) : (overrunEndTest s).control = { s.control with
    conditions := (overrunEndTest s).control.conditions } := by
  unfold overrunEndTest
  split
  · rfl
  · split <;> rfl

theorem streamRegion_congr {s t : State} (h : t.path.regions = s.path.regions) : streamRegion t = streamRegion s := by
  rw [streamRegion, streamRegion, regions, regions, h]

/-- A hold expires as an overrun of the held write (R13, R14, R15). -/
theorem holdTimerExpiry_of_held {s : State} {r : StreamRegion} {w : StreamWrite} (hr : streamRegion s = some r)
    (hw : s.tap.held = some w) : holdTimerExpiry s = overrun r w (unheld s) := by
  simp [holdTimerExpiry, hr, hw, unheld]

theorem changesOnly_unheld (s : State) : changesOnly [.path, .tap] s (unheld s) := by
  intro p hp
  cases p <;> simp [Part.same, unheld] at hp ⊢

/-- Floor, ship and the Entry List are all that R4 changes. -/
theorem recomputeFloor_tap (s : State) : (recomputeFloor s).tap = { s.tap with
    floor := (recomputeFloor s).tap.floor, ship := (recomputeFloor s).tap.ship, entries := (recomputeFloor s).tap.entries } := by
  rcases recomputeFloor_cases s with ⟨e, -⟩ | ⟨r, -, -, e⟩
  · rw [e]
  · rw [e]
    rfl

theorem overrun_tap (r : StreamRegion) (w : StreamWrite) (s : State) :
    (overrun r w s).tap.held = s.tap.held ∧ (overrun r w s).tap.cursor = w.newCursor ∧ (overrun r w s).tap.discontinuity = true := by
  rw [overrun_eq]
  split
  · rw [overrunEndTest_tap]
    exact ⟨rfl, rfl, rfl⟩
  · rw [recomputeFloor_tap, endCause_tap]
    exact ⟨rfl, rfl, rfl⟩

theorem assembled_overrunJumped {r : StreamRegion} {w : StreamWrite} {s : State} : assembled (overrunJumped r w s) = true ↔
    s.clip.state = .recording ∨ (s.clip.state = .stopping ∧ overrunFloor r w s < s.clip.stopPos) := by
  have hclip : (overrunJumped r w s).clip = s.clip := changesOnly_overrunJumped r w s .clip (by simp)
  have hship : (overrunJumped r w s).tap.ship = overrunFloor r w s := rfl
  rw [assembled, hclip, hship]
  cases s.clip.state <;> simp

/-- An overrun after which the clip is still assembled (R13, R14). -/
theorem overrun_of_assembled {r : StreamRegion} {w : StreamWrite} {s : State} (hr : streamRegion s = some r)
    (ha : s.clip.state = .recording ∨ (s.clip.state = .stopping ∧ overrunFloor r w s < s.clip.stopPos)) :
    (overrun r w s).tap = (overrunJumped r w s).tap ∧
      causePresent (overrun r w s) .streamOverrun = decide (r.size ≤ 2 * (w.newCursor - overrunFloor r w s)) := by
  have hregion : streamRegion (overrunJumped r w s) = some r := by
    rw [← hr]
    exact streamRegion_congr (congrArg Path.regions (changesOnly_overrunJumped r w s .path (by simp)))
  rw [overrun_eq, if_pos (assembled_overrunJumped.mpr ha), causePresent_overrunEndTest hregion (causePresent_overrunJumped r w s)]
  exact ⟨overrunEndTest_tap _, rfl⟩

/-- An overrun that carries ship to the stop position: assembly has ended (R13, R14, R15). -/
theorem overrun_of_ended {r : StreamRegion} {w : StreamWrite} {s : State} (hr : streamRegion s = some r)
    (hs : s.clip.state = .stopping) (he : s.clip.stopPos ≤ overrunFloor r w s) :
    causePresent (overrun r w s) .streamOverrun = false ∧ assembled (overrun r w s) = false ∧
      (overrun r w s).tap.floor = max (overrunFloor r w s) (w.newCursor - r.prerecordBytes) ∧
      (overrun r w s).tap.ship = (overrun r w s).tap.floor := by
  have hclip : (overrunJumped r w s).clip = s.clip := changesOnly_overrunJumped r w s .clip (by simp)
  have hoff : assembled (overrunJumped r w s) = false := by
    rw [Bool.eq_false_iff, ne_eq, assembled_overrunJumped, hs]
    simp [he]
  generalize hu : endCause .streamOverrun (overrunJumped r w s) = u
  have haway : assembled u = false := by rw [← hu]; exact hoff
  have hregion : streamRegion u = some r := by
    rw [← hu, ← hr]
    exact streamRegion_congr (congrArg Path.regions (changesOnly_overrunJumped r w s .path (by simp)))
  have hstate : u.clip = s.clip := by rw [← hu, ← hclip, endCause_clip]
  have htap : u.tap = (overrunJumped r w s).tap := by rw [← hu, endCause_tap]
  have hfloor : restingFloor u r = max (overrunFloor r w s) (w.newCursor - r.prerecordBytes) := by
    rw [restingFloor, hstate, hs, htap]
    rfl
  have e : overrun r w s = jumped (restingFloor u r) u.tap.cursor u := by
    rw [overrun_eq, hoff, ← recomputeFloor_of_resting haway hregion, ← hu]
    rfl
  rw [e, hfloor]
  refine ⟨?_, ?_, rfl, rfl⟩
  · rw [← hu]
    exact causePresent_endCause _ _
  · rw [assembled, jumped, State.setTap_clip, State.setTap_tap, hstate, hs]
    simp only [decide_eq_false_iff_not]
    omega

/-- Settles O23: at the expiry the held write overruns, and what follows turns on whether the clip is still assembled. -/
theorem holdTimerExpiryOverruns : Obligations.HoldTimerExpiryOverruns := by
  unfold Obligations.HoldTimerExpiryOverruns
  intro r s hrun hr
  have row : exec .holdTimerExpiry s = .next (holdTimerExpiry s) := act_of_running _ hrun
  refine ⟨fun hn => ?_, fun w hw => ⟨overrun r w (unheld s), ?_, ?_⟩⟩
  · rw [row, holdTimerExpiry, hn]
  · rw [row, holdTimerExpiry_of_held hr hw]
  · obtain ⟨hheld, hcursor, hmark⟩ := overrun_tap r w (unheld s)
    have only := changesOnly_overrun r w (unheld s)
    refine ⟨hheld, hcursor, hmark, ?_, ?_, fun ha => ?_, fun hs he => ?_⟩
    · exact (only .path (by simp)).trans (forwardHeld_path _)
    · exact changesOnly_trans (changesOnly_mono (by simp) (changesOnly_unheld s)) (changesOnly_mono (by simp) only)
    · obtain ⟨htap, hcause⟩ := overrun_of_assembled (s := unheld s) hr ha
      rw [htap]
      exact ⟨rfl, rfl, rfl, hcause⟩
    · exact overrun_of_ended (s := unheld s) hr hs he

end Sys2Proof.Machine

namespace Sys2Proof.Machine

/-! ### Taking a write (R70, R73, R77) -/

theorem canTake_of_portOpen {s : State} (h : portOpen s) : canTake s = true := canTake_iff.mpr h.2

theorem exec_take_of_portOpen {t : Transaction} {s : State} (h : portOpen s) (hwf : t.wellFormed = true) :
    exec (.hostTransactionTake t) s = .next (treat t s) := by
  have hreset : s.path.resetLow = false := h.1
  simp only [exec, execHostTransactionTake, hwf, canTake_of_portOpen h, hreset]
  rfl

theorem treat_regionWrite {a : Nat} {lanes : List LaneByte} {q : Region} {s : State} (hat : regionAt s a = some q) :
    treat (.write a lanes) s = takeRegionWrite q a lanes s := by
  unfold treat
  simp only [Transaction.addr, hat]

/-- A write into the STREAM region joins the queue and is offered to the Stream Tap (R6, R77). -/
theorem exec_take_stream {r : StreamRegion} {a : Nat} {lanes : List LaneByte} {s : State} (h : portOpen s)
    (hwf : (Transaction.write (r.base + a) lanes).wellFormed = true)
    (hat : regionAt s (r.base + a) = some ⟨r.base, r.size, .stream r.prerecordBytes r.lateWindow r.holdLimit⟩) :
    exec (.hostTransactionTake (.write (r.base + a) lanes)) s =
      .next (offerStreamWrite r a lanes.length (joined (.write (r.base + a) lanes) .waiting s)) := by
  rw [exec_take_of_portOpen h hwf, treat_regionWrite hat]
  simp only [takeRegionWrite, Nat.add_sub_cancel_left]
  rfl

theorem offset_lt_of_regionAt {r : StreamRegion} {a : Nat} {s : State} {k : RegionKind}
    (hat : regionAt s (r.base + a) = some ⟨r.base, r.size, k⟩) : a < r.size := by
  have hholds := List.find?_some hat
  simp only [Region.holds, Bool.and_eq_true, decide_eq_true_eq] at hholds
  omega

/-! ### Classification in the words of the claims (R6) -/

/-- The distance of a ring offset ahead of cursor (R6). -/
def ringAhead (r : StreamRegion) (cursor a : Nat) : Nat := (((a : Int) - cursor) % r.size).toNat

theorem ringAhead_eq {r : StreamRegion} {cursor a : Nat} (h0 : 0 < r.size) :
    (a + r.size - cursor % r.size) % r.size = ringAhead r cursor a := by
  have hlt := Nat.mod_lt cursor h0
  have e : ((a + r.size - cursor % r.size : Nat) : Int) % r.size = ((a : Int) - cursor) % r.size := by
    rw [Int.ofNat_sub (by omega)]
    push_cast
    rw [Int.sub_emod, Int.add_emod_right, Int.emod_emod_of_dvd _ (dvd_refl _), ← Int.sub_emod]
  rw [ringAhead, ← e]
  norm_cast

theorem behindPosition_eq {r : StreamRegion} {cursor a : Nat} (h0 : 0 < r.size) :
    behindPosition r cursor a = (cursor : Int) - r.size + ringAhead r cursor a := by
  rw [behindPosition, ringAhead, Int.toNat_of_nonneg (Int.emod_nonneg _ (by omega))]

section

variable {r : StreamRegion} {t : Tap} {a n : Nat} (h0 : 0 < r.size)

include h0

theorem classify_eq : classify r t a n =
    if ringAhead r t.cursor a = 0 then ⟨.append, a, n, t.cursor, t.cursor + n, 0⟩
    else if (t.floor : Int) ≤ behindPosition r t.cursor a ∧ behindPosition r t.cursor a + n ≤ t.cursor then
      ⟨.patch, a, n, (behindPosition r t.cursor a).toNat, t.cursor, 0⟩
    else if (t.floor : Int) ≤ behindPosition r t.cursor a then
      ⟨.straddle, a, n, (behindPosition r t.cursor a).toNat, (behindPosition r t.cursor a).toNat + n, 0⟩
    else if 0 ≤ behindPosition r t.cursor a ∧ (t.floor : Int) - r.lateWindow ≤ behindPosition r t.cursor a then
      ⟨.latePatch, a, n, (behindPosition r t.cursor a).toNat, t.cursor, 0⟩
    else ⟨.gap, a, n, t.cursor + ringAhead r t.cursor a, t.cursor + ringAhead r t.cursor a + n, ringAhead r t.cursor a⟩ := by
  rw [behindPosition_eq h0, classify, ringAhead_eq h0]

theorem classify_append (hd : ringAhead r t.cursor a = 0) : classify r t a n = ⟨.append, a, n, t.cursor, t.cursor + n, 0⟩ := by
  rw [classify_eq h0, if_pos hd]

variable (hd : ringAhead r t.cursor a ≠ 0)

include hd

theorem classify_patch (hf : (t.floor : Int) ≤ behindPosition r t.cursor a) (hc : behindPosition r t.cursor a + n ≤ t.cursor) :
    classify r t a n = ⟨.patch, a, n, (behindPosition r t.cursor a).toNat, t.cursor, 0⟩ := by
  rw [classify_eq h0, if_neg hd, if_pos ⟨hf, hc⟩]

theorem classify_straddle (hf : (t.floor : Int) ≤ behindPosition r t.cursor a) (hc : (t.cursor : Int) < behindPosition r t.cursor a + n) :
    classify r t a n =
      ⟨.straddle, a, n, (behindPosition r t.cursor a).toNat, (behindPosition r t.cursor a + n).toNat, 0⟩ := by
  rw [classify_eq h0, if_neg hd, if_neg (by omega), if_pos hf]
  congr 1
  omega

theorem classify_latePatch (hz : 0 ≤ behindPosition r t.cursor a) (hl : (t.floor : Int) - r.lateWindow ≤ behindPosition r t.cursor a)
    (hf : behindPosition r t.cursor a < t.floor) :
    classify r t a n = ⟨.latePatch, a, n, (behindPosition r t.cursor a).toNat, t.cursor, 0⟩ := by
  rw [classify_eq h0, if_neg hd, if_neg (by omega), if_neg (by omega), if_pos ⟨hz, hl⟩]

theorem classify_gap (hf : behindPosition r t.cursor a < t.floor)
    (hg : behindPosition r t.cursor a < 0 ∨ behindPosition r t.cursor a < (t.floor : Int) - r.lateWindow) :
    classify r t a n =
      ⟨.gap, a, n, t.cursor + ringAhead r t.cursor a, t.cursor + ringAhead r t.cursor a + n, ringAhead r t.cursor a⟩ := by
  rw [classify_eq h0, if_neg hd, if_neg (by omega), if_neg (by omega), if_neg (by omega)]

end

/-! ### Offered writes (R7 to R11) -/

theorem offerStreamWrite_patch {r : StreamRegion} {a n : Nat} {s : State} (h : (classify r s.tap a n).kase = .patch) :
    offerStreamWrite r a n s = s := by
  rw [offerStreamWrite]
  simp only [h]

theorem offerStreamWrite_latePatch {r : StreamRegion} {a n : Nat} {s : State} (h : (classify r s.tap a n).kase = .latePatch) :
    offerStreamWrite r a n s = tapEvent .latePatch a 0 s := by
  rw [offerStreamWrite]
  simp only [h]

/-- A write that moves cursor on is the append, the straddle or the gap of R6. -/
def movesOn (k : WriteCase) : Prop := k = .append ∨ k = .straddle ∨ k = .gap

theorem offerStreamWrite_moving {r : StreamRegion} {a n : Nat} {w : StreamWrite} {s : State} (hw : classify r s.tap a n = w)
    (hk : movesOn w.kase) : offerStreamWrite r a n s = offerMoving r w s := by
  subst hw
  refine offerStreamWrite_of_moving (fun e => ?_) fun e => ?_ <;> rw [movesOn, e] at hk <;> simp at hk

theorem forward_eq_joined (t : Transaction) (s : State) : forward t s = joined t .waiting s := rfl

theorem gapEvent_of_not {w : StreamWrite} (h : w.kase ≠ .gap) (s : State) : gapEvent w s = s := if_neg h

/-! ### With no clip assembled (R4, R7, R9) -/

/-- Cursor has come to `c` with no clip assembled, and floor and ship follow it (R4). -/
structure RestMoved (r : StreamRegion) (c : Nat) (s t : State) : Prop where
  cursor : t.tap.cursor = c
  floor : t.tap.floor = max s.tap.floor (c - retainedSpan s.clip.state r)
  ship : t.tap.ship = t.tap.floor
  entries : t.tap.entries = s.tap.entries.filter fun e => t.tap.floor ≤ e.pos
  held : t.tap.held = s.tap.held
  discontinuity : t.tap.discontinuity = s.tap.discontinuity
  path : t.path = s.path
  conditions : ∀ c : Condition, c ≠ .streamOverrun → condState t c = condState s c

theorem assembled_cursorMoved (w : StreamWrite) (s : State) : assembled (cursorMoved w s) = assembled s := by
  have hclip : (cursorMoved w s).clip = s.clip := changesOnly_cursorMoved w s .clip (by simp)
  rw [assembled, assembled, hclip]
  rfl

theorem advanceCursor_resting {r : StreamRegion} {w : StreamWrite} {s : State} (hr : streamRegion s = some r)
    (ha : assembled s = false) : RestMoved r w.newCursor s (advanceCursor w s) := by
  have only := changesOnly_cursorMoved w s
  have hclip : (cursorMoved w s).clip = s.clip := only .clip (by simp)
  have hregion : streamRegion (cursorMoved w s) = some r := by
    rw [← hr]
    exact streamRegion_congr (congrArg Path.regions (only .path (by simp)))
  have e : (advanceCursor w s).tap = (jumped (restingFloor (cursorMoved w s) r) w.newCursor (cursorMoved w s)).tap := by
    rw [advanceCursor_eq, overrunEndTest_tap, recomputeFloor_of_resting ((assembled_cursorMoved w s).trans ha) hregion]
    rfl
  have hfloor : restingFloor (cursorMoved w s) r = max s.tap.floor (w.newCursor - retainedSpan s.clip.state r) := by
    rw [restingFloor, hclip]
    rfl
  constructor
  · rw [e]; rfl
  · rw [e, ← hfloor]; rfl
  · rw [e]; rfl
  · rw [e]; rfl
  · rw [e]; rfl
  · rw [e]; rfl
  · exact changesOnly_advanceCursor w s .path (by simp)
  · intro c hc
    rw [advanceCursor_eq, condState_overrunEndTest hc]
    refine condState_congr ?_ c
    rw [recomputeFloor_control]
    exact conditions_gapEvent w s

theorem advanceCursor_writes (w : StreamWrite) (s : State) : (advanceCursor w s).control.writes = (gapEvent w s).control.writes := by
  rw [advanceCursor_eq, overrunEndTest_control, recomputeFloor_control]
  rfl

theorem advanceCursor_reportProducer (w : StreamWrite) (s : State) :
    (advanceCursor w s).control.reportProducer = (gapEvent w s).control.reportProducer := by
  rw [advanceCursor_eq, overrunEndTest_control, recomputeFloor_control]
  rfl

theorem advanceCursor_pendingNotices (w : StreamWrite) (s : State) :
    (advanceCursor w s).control.pendingNotices = (gapEvent w s).control.pendingNotices := by
  rw [advanceCursor_eq, overrunEndTest_control, recomputeFloor_control]
  rfl

theorem changesOnly_joined (x : Transaction) (p : Progress) (s : State) : changesOnly [.path] s (joined x p s) := by
  intro q hq
  cases q <;> simp [Part.same, joined] at hq ⊢

/-- With no clip assembled a write that moves on is forwarded (R7, R9, R11). -/
theorem offerMoving_resting (r : StreamRegion) (w : StreamWrite) {s : State} (ha : assembled s = false) :
    offerMoving r w s = advanceCursor w s := by simp [offerMoving, ha]

/-- Settles O21: with no clip assembled an append, a straddle or a gap moves cursor, and a patch or a late patch does not. -/
theorem streamWritesAreClassified : Obligations.StreamWritesAreClassified := by
  unfold Obligations.StreamWritesAreClassified
  intro r a lanes s hport hwf hr h0 hat ha x n b d span moved
  have row := exec_take_stream hport hwf hat
  have hspan : retainedSpan s.clip.state r = span := by
    cases hs : s.clip.state <;> simp [retainedSpan, span, hs, Config.ringReserve]
  have rest : ∀ w, movesOn w.kase → classify r s.tap a n = w →
      exec (.hostTransactionTake x) s = .next (advanceCursor w (joined x .waiting s)) ∧
        moved w.newCursor (advanceCursor w (joined x .waiting s)) := fun w hk hw => by
    have k := advanceCursor_resting (w := w) (s := joined x .waiting s) hr ha
    rw [row, offerStreamWrite_moving (s := joined x .waiting s) hw hk, offerMoving_resting r w (s := joined x .waiting s) ha]
    refine ⟨rfl, k.cursor, ?_, k.ship, k.entries, k.held, k.discontinuity, k.path, k.conditions⟩
    rw [← hspan]
    exact k.floor
  have quiet : ∀ w, w.kase ≠ .gap → changesOnly [.path, .tap, .control] s (advanceCursor w (joined x .waiting s)) ∧
      (advanceCursor w (joined x .waiting s)).control.writes = s.control.writes := fun w hk => by
    refine ⟨changesOnly_trans (changesOnly_mono (by simp) (changesOnly_joined x .waiting s))
      (changesOnly_mono (by simp) (changesOnly_advanceCursor w _)), ?_⟩
    rw [advanceCursor_writes, gapEvent_of_not hk]
    rfl
  refine ⟨fun hd => ?_, fun hd hf hc => ?_, fun hd hf hc => ?_, fun hd hz hl hf => ?_, fun hd hf hg => ?_⟩
  · obtain ⟨he, hm⟩ := rest _ (.inl rfl) (classify_append h0 hd)
    obtain ⟨only, hwrites⟩ := quiet ⟨.append, a, n, s.tap.cursor, s.tap.cursor + n, 0⟩ (by simp)
    exact ⟨_, he, only, hm, hwrites⟩
  · rw [row, offerStreamWrite_patch (by rw [show (joined _ _ s).tap = s.tap from rfl, classify_patch h0 hd hf hc])]
  · obtain ⟨he, hm⟩ := rest _ (.inr (.inl rfl)) (classify_straddle h0 hd hf hc)
    obtain ⟨only, hwrites⟩ := quiet ⟨.straddle, a, n, b.toNat, (b + n).toNat, 0⟩ (by simp)
    exact ⟨_, he, only, hm, hwrites⟩
  · rw [row, offerStreamWrite_latePatch (by rw [show (joined _ _ s).tap = s.tap from rfl, classify_latePatch h0 hd hz hl hf])]
  · obtain ⟨he, hm⟩ := rest _ (.inr (.inr rfl)) (classify_gap h0 hd hf hg)
    exact ⟨_, he, hm, advanceCursor_reportProducer _ _, advanceCursor_pendingNotices _ _⟩

end Sys2Proof.Machine

namespace Sys2Proof.Machine

/-! ### With a clip assembled (R11, R13, R14) -/

section

variable {r : StreamRegion} {w : StreamWrite} {s : State} (ha : assembled s = true)

include ha

theorem offerMoving_fits (h : w.newCursor - s.tap.floor ≤ r.size) : offerMoving r w s = overrunEndTest (cursorMoved w s) := by
  have hno : overwrites r s.tap w = false := by simpa [overwrites] using h
  rw [offerMoving, hno, Bool.and_false, if_neg (by simp), advanceCursor_eq,
    recomputeFloor_of_assembled ((assembled_cursorMoved w s).trans ha)]

theorem offerMoving_overwrites (h : r.size < w.newCursor - s.tap.floor) : offerMoving r w s =
    if r.holdLimit = 0 then overrun r w s
    else (s.setTap { s.tap with held := some w }).setPath { s.path with queue := holdNewest s.path.queue } := by
  have hover : overwrites r s.tap w = true := by simpa [overwrites] using h
  rw [offerMoving, ha, hover, Bool.and_true, if_pos rfl]

end

/-- What a stream write does during a clip, once it has joined the queue as it came (R7, R9, R11, R13, R14). -/
structure OfferedDuringClip (r : StreamRegion) (w : StreamWrite) (x : Transaction) (s t : State) : Prop where
  fits : w.newCursor - s.tap.floor ≤ r.size → changesOnly [.path, .tap, .control] s t ∧ t.path = (joined x .waiting s).path ∧
    t.tap = { s.tap with cursor := w.newCursor, gaps := (gapEvent w (joined x .waiting s)).tap.gaps } ∧
    t.control.writes = (gapEvent w (joined x .waiting s)).control.writes ∧
    t.control.pendingNotices = (gapEvent w (joined x .waiting s)).control.pendingNotices
  held : r.size < w.newCursor - s.tap.floor → 1 ≤ r.holdLimit → changesOnly [.path, .tap] s t ∧ t.path = (joined x .held s).path ∧
    t.tap = { s.tap with held := some w }
  overran : r.size < w.newCursor - s.tap.floor → r.holdLimit = 0 →
    s.clip.state = .recording ∨ (s.clip.state = .stopping ∧ w.newCursor - r.size < s.clip.stopPos) →
    changesOnly [.path, .tap, .control] s t ∧ t.path = (joined x .waiting s).path ∧ t.tap.cursor = w.newCursor ∧
    t.tap.floor = w.newCursor - r.size ∧ t.tap.ship = w.newCursor - r.size ∧ t.tap.discontinuity = true ∧
    t.tap.entries = s.tap.entries.filter (fun e => w.newCursor - r.size ≤ e.pos) ∧ causePresent t .streamOverrun = true

theorem path_joined_held (x : Transaction) (s : State) :
    { (joined x .waiting s).path with queue := holdNewest (joined x .waiting s).path.queue } = (joined x .held s).path := by
  simp only [joined, State.setPath_path, holdNewest_append]

theorem offeredDuringClip {r : StreamRegion} (w : StreamWrite) {x : Transaction} {s : State} (hr : streamRegion s = some r)
    (h0 : 0 < r.size) (ha : assembled s = true) : OfferedDuringClip r w x s (offerMoving r w (joined x .waiting s)) := by
  have own : changesOnly [.path, .tap, .control] s (joined x .waiting s) := changesOnly_mono (by simp) (changesOnly_joined x .waiting s)
  have ha' : assembled (joined x .waiting s) = true := ha
  refine ⟨fun hfit => ?_, fun hover hlimit => ?_, fun hover hlimit hstate => ?_⟩
  · rw [offerMoving_fits ha' hfit]
    have only : changesOnly [.tap, .control] (joined x .waiting s) (overrunEndTest (cursorMoved w (joined x .waiting s))) :=
      changesOnly_trans (changesOnly_cursorMoved w _) (changesOnly_mono (by simp) (changesOnly_overrunEndTest _))
    refine ⟨changesOnly_trans own (changesOnly_mono (by simp) only), only .path (by simp), by rw [overrunEndTest_tap]; rfl, ?_, ?_⟩ <;>
      rw [overrunEndTest_control] <;> rfl
  · rw [offerMoving_overwrites ha' hover, if_neg (by omega)]
    refine ⟨fun p hp => ?_, path_joined_held x s, rfl⟩
    cases p <;> simp [Part.same, joined] at hp ⊢
  · rw [offerMoving_overwrites ha' hover, if_pos hlimit]
    have hf : overrunFloor r w (joined x .waiting s) = w.newCursor - r.size := by
      rw [overrunFloor, show (joined x .waiting s).tap = s.tap from rfl]
      omega
    have only := changesOnly_overrun r w (joined x .waiting s)
    obtain ⟨htap, hcause⟩ := overrun_of_assembled (w := w) (s := joined x .waiting s) hr (by rw [hf]; exact hstate)
    rw [htap, hcause, hf, decide_eq_true_eq]
    refine ⟨changesOnly_trans own (changesOnly_mono (by simp) only), only .path (by simp), rfl, hf, hf, rfl, ?_, by omega⟩
    rw [← hf]
    rfl

/-- Settles O22: during a clip each case of R6 is offered with its own start and end, and the fit of its end decides. -/
theorem overwritingWriteIsHeldOrOverruns : Obligations.OverwritingWriteIsHeldOrOverruns := by
  unfold Obligations.OverwritingWriteIsHeldOrOverruns
  have offer : ∀ (r : StreamRegion) (a : Nat) (lanes : List LaneByte) (s : State) (w : StreamWrite), portOpen s →
      (Transaction.write (r.base + a) lanes).wellFormed = true → streamRegion s = some r → 0 < r.size →
      regionAt s (r.base + a) = some ⟨r.base, r.size, .stream r.prerecordBytes r.lateWindow r.holdLimit⟩ → assembled s = true →
      movesOn w.kase → classify r s.tap a lanes.length = w →
      ∃ t, exec (.hostTransactionTake (.write (r.base + a) lanes)) s = .next t ∧
        OfferedDuringClip r w (.write (r.base + a) lanes) s t := fun r a lanes s w hport hwf hr h0 hat ha hk hw =>
    ⟨_, by rw [exec_take_stream hport hwf hat, offerStreamWrite_moving (s := joined _ _ s) hw hk], offeredDuringClip w hr h0 ha⟩
  constructor
  · intro r a lanes s hport hwf hr h0 hoff hat ha x c
    have hd : ringAhead r s.tap.cursor a = 0 := by
      rw [← ringAhead_eq h0, hoff, Nat.add_sub_cancel_left, Nat.mod_self]
    obtain ⟨t, he, k⟩ := offer r a lanes s _ hport hwf hr h0 hat ha (.inl rfl) (classify_append h0 hd)
    refine ⟨fun h => ⟨t, he, ?_⟩, fun h hl => ⟨t, he, k.held h hl⟩, fun h hl hs => ⟨t, he, ?_⟩⟩
    · obtain ⟨only, hpath, htap, hwrites, -⟩ := k.fits h
      exact ⟨only, hpath, htap, hwrites⟩
    · obtain ⟨only, hpath, hcursor, hfloor, hship, hmark, hentries, hcause⟩ := k.overran h hl (.inl hs)
      exact ⟨hpath, hcursor, hfloor, hship, hmark, hentries, hcause, only⟩
  · intro r a lanes s hport hwf hr h0 hat ha x n b d gap offered
    have moves : ∀ k start c skip, movesOn k → (k = .gap → skip = d) → classify r s.tap a n = ⟨k, a, n, start, c, skip⟩ →
        offered k start c skip := fun k start c skip hk hskip hw => by
      obtain ⟨t, he, o⟩ := offer r a lanes s _ hport hwf hr h0 hat ha hk hw
      refine ⟨fun h => ⟨t, he, ?_⟩, fun h hl => ⟨t, he, o.held h hl⟩, fun h hl hs => ⟨t, he, o.overran h hl hs⟩⟩
      obtain ⟨only, hpath, htap, hwrites, hpending⟩ := o.fits h
      rw [hpath, htap, hwrites, hpending]
      refine ⟨only, rfl, ?_⟩
      by_cases hg : k = .gap
      · have hgap : gapEvent ⟨k, a, n, start, c, skip⟩ (joined x .waiting s) = gap := by rw [gapEvent, if_pos hg, hskip hg]
        rw [hgap, if_pos hg, if_pos hg, if_pos hg]
        exact ⟨rfl, rfl, rfl⟩
      · rw [gapEvent_of_not hg, if_neg hg, if_neg hg, if_neg hg]
        exact ⟨rfl, rfl, rfl⟩
    have row := exec_take_stream hport hwf hat
    refine ⟨fun hd => ?_, fun hd hf hc => ?_, fun hd hf hc => ?_, fun hd hz hl hf => ?_, fun hd hf hg => ?_⟩
    · exact moves .append _ _ _ (.inl rfl) (by simp) (classify_append h0 hd)
    · rw [row, offerStreamWrite_patch (by rw [show (joined _ _ s).tap = s.tap from rfl, classify_patch h0 hd hf hc])]
    · exact moves .straddle _ _ _ (.inr (.inl rfl)) (by simp) (classify_straddle h0 hd hf hc)
    · rw [row, offerStreamWrite_latePatch (by rw [show (joined _ _ s).tap = s.tap from rfl, classify_latePatch h0 hd hz hl hf])]
    · exact moves .gap _ _ _ (.inr (.inr rfl)) (fun _ => rfl) (classify_gap h0 hd hf hg)

end Sys2Proof.Machine

namespace Sys2Proof.Machine

/-! ### Where the audio of a clip begins (R25, R155) -/

/-- A fold that picks the higher of two by a rank ends with a highest one of its list. -/
theorem foldl_picks {α : Type} {pick : α → α → α} {rank : α → Int}
    (picks : ∀ a b, (pick a b = a ∨ pick a b = b) ∧ rank a ≤ rank (pick a b) ∧ rank b ≤ rank (pick a b)) (l : List α) (i : α) :
    l.foldl pick i ∈ i :: l ∧ ∀ j ∈ i :: l, rank j ≤ rank (l.foldl pick i) := by
  induction l generalizing i with
  | nil => simp
  | cons b l ih =>
    obtain ⟨hpick, hi, hb⟩ := picks i b
    obtain ⟨hmem, hall⟩ := ih (pick i b)
    obtain ⟨hbest, hrest⟩ := List.forall_mem_cons.mp hall
    rw [List.foldl_cons]
    refine ⟨?_, List.forall_mem_cons.mpr ⟨hi.trans hbest, List.forall_mem_cons.mpr ⟨hb.trans hbest, hrest⟩⟩⟩
    rcases List.mem_cons.mp hmem with h | h
    · rw [h]
      rcases hpick with e | e <;> simp [e]
    · simp [h]

/-- Where a block stands among the blocks, the newest highest (R155). -/
def startOrder (a : Audio) (i : BlockInfo) : Int := blockOrder a i.number

/-- Where a block stands among the blocks, the oldest highest (R155). -/
def ageOrder (a : Audio) (i : BlockInfo) : Int := -blockOrder a i.number

theorem newer_picks (a : Audio) (i b : BlockInfo) : (newer a i b = i ∨ newer a i b = b) ∧
    startOrder a i ≤ startOrder a (newer a i b) ∧ startOrder a b ≤ startOrder a (newer a i b) := by
  unfold newer startOrder
  split
  · exact ⟨.inr rfl, by omega, le_rfl⟩
  · exact ⟨.inl rfl, le_rfl, by omega⟩

theorem older_picks (a : Audio) (i b : BlockInfo) : (older a i b = i ∨ older a i b = b) ∧
    ageOrder a i ≤ ageOrder a (older a i b) ∧ ageOrder a b ≤ ageOrder a (older a i b) := by
  unfold older ageOrder
  split
  · exact ⟨.inr rfl, by omega, le_rfl⟩
  · exact ⟨.inl rfl, le_rfl, by omega⟩

theorem newestBlock_eq_none {a : Audio} {l : List BlockInfo} (h : newestBlock a l = none) : l = [] := by
  cases l with
  | nil => rfl
  | cons i l => cases h

theorem newestBlock_spec {a : Audio} {l : List BlockInfo} {i : BlockInfo} (h : newestBlock a l = some i) :
    i ∈ l ∧ ∀ j ∈ l, blockOrder a j.number ≤ blockOrder a i.number := by
  cases l with
  | nil => cases h
  | cons b l =>
    cases h
    exact foldl_picks (newer_picks a) l b

theorem oldestBlock_eq_none {a : Audio} {l : List BlockInfo} (h : oldestBlock a l = none) : l = [] := by
  cases l with
  | nil => rfl
  | cons i l => cases h

theorem oldestBlock_spec {a : Audio} {l : List BlockInfo} {i : BlockInfo} (h : oldestBlock a l = some i) :
    i ∈ l ∧ ∀ j ∈ l, blockOrder a i.number ≤ blockOrder a j.number := by
  cases l with
  | nil => cases h
  | cons b l =>
    cases h
    obtain ⟨hmem, hall⟩ := foldl_picks (older_picks a) l b
    exact ⟨hmem, fun j hj => neg_le_neg_iff.mp (hall j hj)⟩

theorem mem_doneBlocks {a : Audio} {i : BlockInfo} : i ∈ doneBlocks a ↔ BlockRecord.done i ∈ a.blocks := by
  rw [doneBlocks, List.mem_filterMap]
  refine ⟨fun ⟨r, hr, h⟩ => ?_, fun h => ⟨_, h, rfl⟩⟩
  cases r <;> cases h
  exact hr

/-- The blocks that are DONE not after the start frame (R25). -/
def earlyBlocks (a : Audio) (f : Word32) : List BlockInfo := (doneBlocks a).filter fun i => f != 0 && i.stamp.ule f

theorem mem_earlyBlocks {a : Audio} {f : Word32} {i : BlockInfo} :
    i ∈ earlyBlocks a f ↔ BlockRecord.done i ∈ a.blocks ∧ f ≠ 0 ∧ i.stamp.toNat ≤ f.toNat := by
  simp [earlyBlocks, mem_doneBlocks, BitVec.ule]

theorem placeAudio_eq (a : Audio) (f : Word32) : placeAudio a f =
    match newestBlock a (earlyBlocks a f) with
    | some i => (i.number, false)
    | none =>
      match oldestBlock a (doneBlocks a) with
      | some i => (i.number, true)
      | none => ((fillingBlock a).getD a.nextBlock, true) := rfl

/-- Where the audio ship pointer of a clip starts, and its discontinuity mark (R25). -/
theorem audioPlaced_placeAudio (a : Audio) (f : Word32) : audioPlaced a f (some (placeAudio a f).1) (placeAudio a f).2 := by
  rw [placeAudio_eq]
  cases hn : newestBlock a (earlyBlocks a f) with
  | some i =>
    obtain ⟨hmem, hall⟩ := newestBlock_spec hn
    have early := mem_earlyBlocks.mp hmem
    exact ⟨fun _ => ⟨rfl, i, early, rfl, fun j hj => hall j (mem_earlyBlocks.mpr hj)⟩, fun h => absurd early (h i)⟩
  | none =>
    have hnone : ∀ i, i ∉ earlyBlocks a f := by simp [newestBlock_eq_none hn]
    refine ⟨fun ⟨i, hi⟩ => absurd (mem_earlyBlocks.mpr hi) (hnone i), fun _ => ?_⟩
    cases ho : oldestBlock a (doneBlocks a) with
    | some i =>
      obtain ⟨hmem, hall⟩ := oldestBlock_spec ho
      have done := mem_doneBlocks.mp hmem
      exact ⟨rfl, fun _ => ⟨i, done, rfl, fun j hj => hall j (mem_doneBlocks.mpr hj)⟩, fun h => absurd done (h i)⟩
    | none =>
      refine ⟨rfl, fun ⟨i, hi⟩ => ?_, fun _ => ?_⟩
      · have := mem_doneBlocks.mpr hi
        simp [oldestBlock_eq_none ho] at this
      · cases hc : a.current <;> simp [fillingBlock, hc]

/-! ### Page 0 of a clip (R24, R31, R36) -/

/-- The CLIP_HEAD that a new page takes from a clip with nothing else to lay (R31). -/
def headOf (c : Clip) : List Byte := clipHead c c.targets false 64

theorem headOf_length (c : Clip) : (headOf c).length = 64 := by
  simp [headOf, clipHead, chunkHeader, headerBytes, headerBody]

/-- The page with which a clip begins (R24, R31). -/
def firstPage (c : Clip) : PageRecord := { newPage c with content := headOf c, firstHeader := 0 }

theorem openPage_concat {c : Clip} {l : List PageRecord} {p : PageRecord} (h : c.pages = l ++ [p]) (hs : p.sealed = false) :
    openPage c = some p := by
  rw [openPage, h, List.getLast?_concat]
  simp [hs]

/-- A single header goes into an empty page (R36). -/
theorem layPage_header {bytes : List Byte} (h : bytes.length = 64) (c : Clip) :
    layPage [⟨true, bytes⟩] (newPage c) = ({ newPage c with content := bytes, firstHeader := 0 }, []) := by
  simp [layPage, newPage, h, Config.pageBytes, List.take_of_length_le]

theorem lay_firstPage {c : Clip} (h : c.lay = []) : lay (addClipHead false { c with pages := c.pages ++ [newPage c] }) =
    { c with pages := c.pages ++ [firstPage c], chunkSeq := c.chunkSeq + 1 } := by
  generalize hd : addClipHead false { c with pages := c.pages ++ [newPage c] } = d
  have pages : d.pages = c.pages ++ [newPage c] := by rw [← hd]; rfl
  have waits : d.lay = [⟨true, headOf c⟩] := by rw [← hd]; simp only [addClipHead, h]; rfl
  have notFull : sealIfFull (firstPage c) = firstPage c := if_neg (by simp [firstPage, headOf_length, Config.pageBytes])
  have laid : layPage d.lay (newPage c) = (firstPage c, []) := by rw [waits]; exact layPage_header (headOf_length c) c
  rw [lay, openPage_concat pages rfl]
  simp only [laid, notFull, pages, List.dropLast_concat]
  rw [← hd]
  simp only [addClipHead, h]

/-- The first 30 bytes of the CLIP_HEAD of a clip's first page (R31, R209). -/
def headBody (c : Clip) : List Byte :=
  headerBody kindClipHead (chunkFlags false false false false ||| chunkFlags false false false (mirrored c)) c.clipNumber c.chunkSeq 32 0
    c.startFrame 64

theorem headBody_length (c : Clip) : (headBody c).length = 30 := by simp [headBody, headerBody]

theorem headOf_eq (c : Clip) : headOf c = headBody c ++ (littleEndian 2 (crc16 (headBody c)).toNat ++
    toLength 32 (littleEndian 2 c.clipNumber.toNat ++ [c.mode.code, c.targets.role] ++ littleEndian 4 c.startFrame.toNat
      ++ littleEndian 8 c.preRecord ++ littleEndian 2 64)) := by
  rw [← List.append_assoc]
  rfl

theorem headOf_take (c : Clip) : (headOf c).take 30 =
    [0xA7, 0xC1, 0xB3, 0xD5, 1, if c.targets.a && c.targets.b then 8 else 0]
      ++ littleEndian 2 c.clipNumber.toNat ++ littleEndian 4 c.chunkSeq.toNat ++ littleEndian 4 32 ++ littleEndian 8 0
      ++ littleEndian 4 c.startFrame.toNat ++ littleEndian 2 64 := by
  have flags : (chunkFlags false false false false ||| chunkFlags false false false (mirrored c)) =
      if c.targets.a && c.targets.b then 8 else 0 := by
    rw [mirrored]
    cases c.targets.a && c.targets.b <;> rfl
  rw [headOf_eq, List.take_left' (headBody_length c), headBody, flags]
  rfl

/-- Bytes with room to spare are filled with zeros (R205). -/
theorem toLength_eq {n : Nat} {bytes : List Byte} (h : bytes.length ≤ n) :
    toLength n bytes = bytes ++ List.replicate (n - bytes.length) (0 : Byte) := by
  rw [toLength, List.take_append, List.take_of_length_le h, List.take_replicate, Nat.min_eq_left (Nat.sub_le _ _)]

theorem headOf_drop (c : Clip) : (headOf c).drop 32 = littleEndian 2 c.clipNumber.toNat ++ [c.mode.code, c.targets.role]
    ++ littleEndian 4 c.startFrame.toNat ++ littleEndian 8 c.preRecord ++ littleEndian 2 64 ++ List.replicate 14 (0 : Byte) := by
  rw [headOf_eq, ← List.append_assoc, List.drop_left' (by simp [headBody_length]), toLength_eq (by simp)]
  simp

/-! ### The clip begins at its oldest entry (R24, R25) -/

/-- The assembler with the values that a clip begun at `e` takes (R24, R25). -/
def begunClip (pre : Nat) (e : Entry) (a : Audio) (c : Clip) : Clip :=
  { c with
    state := .recording, clipStart := e.pos, chunkSeq := 0, index := [], videoStamp := e.frame, startFrame := e.frame, preRecord := pre
    shipPtr := if c.audioPart then some (placeAudio a e.frame).1 else none
    audioDiscontinuity := c.audioPart && (placeAudio a e.frame).2
    audioStop := .unfixed, stopCmd := none, lay := [], run := .none, readReq := none, relayHead := false, closed := false }

theorem beginClip_cons {s : State} {e : Entry} {rest : List Entry} (f : Nat → Nat) (h : s.tap.entries = e :: rest) :
    beginClip f s = (s.setTap { s.tap with ship := e.pos, floor := e.pos, discontinuity := false }).setClip
      (lay (addClipHead false { begunClip (f e.pos) e s.audio s.clip with
        pages := s.clip.pages ++ [newPage (begunClip (f e.pos) e s.audio s.clip)] })) := by
  unfold beginClip
  rw [h]
  rfl

theorem clipBegun_begunClip (pre : Nat) (e : Entry) (a : Audio) (c : Clip) : clipBegun c a e pre
    (lay (addClipHead false { begunClip pre e a c with pages := c.pages ++ [newPage (begunClip pre e a c)] })) := by
  have laid := lay_firstPage (c := begunClip pre e a c) rfl
  rw [show (begunClip pre e a c).pages = c.pages from rfl] at laid
  rw [laid]
  refine ⟨rfl, fun hp => ?_, fun hp => ?_, firstPage (begunClip pre e a c), rfl, rfl, rfl, rfl, rfl, headOf_take _, headOf_drop _⟩
  · simp [begunClip, hp]
  · have placed := audioPlaced_placeAudio a e.frame
    simpa [begunClip, hp] using placed

/-- A clip begun at entry `e` leaves everything but the Stream Tap and the assembler (R24). -/
theorem changesOnly_beginClip (f : Nat → Nat) (s : State) : changesOnly [.tap, .clip] s (beginClip f s) := by
  unfold beginClip
  split
  · exact changesOnly_refl _ s
  · intro p hp
    cases p <;> simp [Part.same] at hp ⊢

end Sys2Proof.Machine

namespace Sys2Proof.Machine

/-! ### What a record's treatment reads of the Path Unit (R16 to R19) -/

/-- The Path Unit's fields that the taking of a record reads: the regions, the memory size and the consumer copy. -/
def pathAlike (p q : Path) : Prop := p.regions = q.regions ∧ p.memSize = q.memSize ∧ p.consumerCopy = q.consumerCopy

/-- An operation neither changes the Path Unit nor reads more of it than `pathAlike` says. -/
def ignoresQueue (f : State → State) : Prop :=
  (∀ s, (f s).path = s.path) ∧ ∀ s p, pathAlike p s.path → f (s.setPath p) = (f s).setPath p

theorem writeRing_setPath {bytes : List Byte} {p : Path} {s : State} (h : pathAlike p s.path) :
    writeRing bytes (s.setPath p) = (writeRing bytes s).setPath p := by
  obtain ⟨-, hm, -⟩ := h
  simp only [writeRing, presentWrite, producerWordWrite, State.setPath_control, controlPage, State.setPath_path, hm]
  generalize s.path.memSize = m
  rfl

theorem clearNoticeCount_setPath (n : Notice) (p : Path) (s : State) :
    clearNoticeCount n (s.setPath p) = (clearNoticeCount n s).setPath p := by
  cases n with
  | tapEvent src => cases src <;> rfl
  | auBad slot => cases slot <;> rfl
  | _ => rfl

theorem ringBytes_setPath (q : StampedNotice) (p : Path) (s : State) : ringBytes q (s.setPath p) = ringBytes q s := by
  obtain ⟨n, frame, folds⟩ := q
  cases n with
  | tapEvent src => cases src <;> rfl
  | auBad slot => cases slot <;> rfl
  | _ => rfl

theorem postNotice_setPath (n : Notice) {p : Path} {s : State} (h : pathAlike p s.path) :
    postNotice n (s.setPath p) = (postNotice n s).setPath p := by
  have same : unread (s.setPath p) = unread s := by simp [unread, h.2.2]
  rcases Nat.lt_or_ge (unread s) 64 with hr | hr
  · rw [postNotice_of_room hr, postNotice_of_room (same ▸ hr), State.setPath_view, ringBytes_setPath, writeRing_setPath h,
      clearNoticeCount_setPath]
  · rw [postNotice_of_full hr, postNotice_of_full (same ▸ hr)]
    rfl

theorem ignoresQueue_postNotice (n : Notice) : ignoresQueue (postNotice n) :=
  ⟨fun s => postNotice_path s n, fun _ _ => postNotice_setPath n⟩

theorem ignoresQueue_comp {f g : State → State} (hf : ignoresQueue f) (hg : ignoresQueue g) : ignoresQueue fun s => g (f s) :=
  ⟨fun s => (hg.1 _).trans (hf.1 s), fun s p h => by
    show g (f (s.setPath p)) = _
    rw [hf.2 s p h]
    exact hg.2 (f s) p ((hf.1 s).symm ▸ h)⟩

theorem ignoresQueue_tapEvent (src : TapSource) (offset skipped : Nat) : ignoresQueue (tapEvent src offset skipped) := by
  refine ignoresQueue_comp (f := fun s => setTapCount s (saturatingSucc (tapCount s src)) src) ⟨fun s => ?_, fun s p _ => ?_⟩
    (ignoresQueue_postNotice (.tapEvent src offset skipped))
  · cases src <;> rfl
  · cases src <;> rfl

theorem acceptedPosition_setPath {p : Path} {s : State} (h : pathAlike p s.path) (addr : Nat) :
    acceptedPosition (s.setPath p) addr = acceptedPosition s addr := by
  have region : streamRegion (s.setPath p) = streamRegion s := streamRegion_congr h.1
  unfold acceptedPosition
  rw [region]
  rfl

theorem ignoresQueue_armedEntry : ignoresQueue armedEntry := by
  have begin : ignoresQueue (beginClip fun _ => 0) := by
    refine ⟨fun s => changesOnly_beginClip _ s .path (by simp), fun s p _ => ?_⟩
    unfold beginClip
    rw [State.setPath_tap]
    split <;> rfl
  refine ⟨fun s => ?_, fun s p h => ?_⟩
  · unfold armedEntry
    split
    · exact (postNotice_path _ _).trans (begin.1 s)
    · rfl
  · unfold armedEntry
    rw [State.setPath_clip]
    split
    · dsimp only
      rw [begin.2 s p h, State.setPath_clip]
      exact postNotice_setPath _ ((begin.1 s).symm ▸ h)
    · rfl

theorem ignoresQueue_takeRecord (offset : Nat) (e : EntryRecord) : ignoresQueue (takeRecord offset e) := by
  refine ⟨fun s => ?_, fun s p h => ?_⟩
  · unfold takeRecord
    split
    · exact ignoresQueue_armedEntry.1 _
    · exact (ignoresQueue_tapEvent _ _ _).1 s
  · unfold takeRecord
    rw [acceptedPosition_setPath h]
    split
    · exact ignoresQueue_armedEntry.2 (s.setTap _) p h
    · exact (ignoresQueue_tapEvent _ _ _).2 s p h

theorem ignoresQueue_takePlace (base addr : Nat) (lanes : List LaneByte) (place : Nat) :
    ignoresQueue fun s => takePlace base addr lanes s place := by
  unfold takePlace
  split
  · exact ignoresQueue_takeRecord _ _
  · exact ignoresQueue_tapEvent _ _ _

theorem ignoresQueue_foldl {α : Type} {f : State → α → State} (h : ∀ a, ignoresQueue fun s => f s a) (l : List α) :
    ignoresQueue fun s => l.foldl f s := by
  induction l with
  | nil => exact ⟨fun _ => rfl, fun _ _ _ => rfl⟩
  | cons a l ih => exact ignoresQueue_comp (h a) ih

theorem ignoresQueue_offerIndexWrite (base addr : Nat) (lanes : List LaneByte) : ignoresQueue (offerIndexWrite base addr lanes) :=
  ignoresQueue_foldl (ignoresQueue_takePlace base addr lanes) _

/-! ### The places of an INDEX write (R16) -/

theorem recordPlaces_eq {a n : Nat} (h : (a + n + 31) / 32 - a / 32 ≤ 5) :
    recordPlaces a n = (List.range ((a + n + 31) / 32 - a / 32)).map fun i => a / 32 * 32 + 32 * i := by
  have within : ∀ i, (a / 32 * 32 + 32 * i < a + n) ↔ i < (a + n + 31) / 32 - a / 32 := fun i => by omega
  rw [recordPlaces, List.filter_map]
  congr 1
  have e : ((fun p => decide (p < a + n)) ∘ fun i => a / 32 * 32 + 32 * i) =
      fun i => decide (i < (a + n + 31) / 32 - a / 32) := funext fun i => decide_eq_decide.mpr (within i)
  rw [e]
  generalize (a + n + 31) / 32 - a / 32 = c at h
  interval_cases c <;> rfl

theorem wellFormed_write {a : Nat} {lanes : List LaneByte} (h : (Transaction.write a lanes).wellFormed = true) :
    8 ≤ lanes.length ∧ a % 8 = 0 ∧ a % 128 + lanes.length ≤ 128 := by
  simp only [Transaction.wellFormed, Transaction.len, Transaction.addr, Bool.and_eq_true, beq_iff_eq] at h
  obtain ⟨⟨⟨⟨hlow, -⟩, -⟩, haddr⟩, hline⟩ := h
  exact ⟨of_decide_eq_true hlow, haddr, of_decide_eq_true hline⟩

theorem recordPlaces_of_wellFormed {a : Nat} {lanes : List LaneByte} (h : (Transaction.write a lanes).wellFormed = true) :
    recordPlaces a lanes.length =
      (List.range ((a + lanes.length + 31) / 32 - a / 32)).map fun i => a / 32 * 32 + 32 * i := by
  obtain ⟨hlow, haddr, hline⟩ := wellFormed_write h
  exact recordPlaces_eq (by omega)

theorem recordPlaces_single {a : Nat} {lanes : List LaneByte} (h : (Transaction.write a lanes).wellFormed = true)
    (hone : a / 32 = (a + lanes.length - 1) / 32) : recordPlaces a lanes.length = [a / 32 * 32] := by
  obtain ⟨hlow, haddr, hline⟩ := wellFormed_write h
  rw [recordPlaces_of_wellFormed h, show (a + lanes.length + 31) / 32 - a / 32 = 1 by omega]
  rfl

/-- A write over several places touches those of its two parts, split at any place (R16). -/
theorem recordPlaces_append {a : Nat} {front back : List LaneByte} (hf : (Transaction.write a front).wellFormed = true)
    (hb : (Transaction.write (a + front.length) back).wellFormed = true)
    (h : (Transaction.write a (front ++ back)).wellFormed = true) (hsplit : (a + front.length) % 32 = 0) :
    recordPlaces a (front ++ back).length = recordPlaces a front.length ++ recordPlaces (a + front.length) back.length := by
  obtain ⟨hlow, haddr, hline⟩ := wellFormed_write h
  obtain ⟨hlowF, -, -⟩ := wellFormed_write hf
  rw [recordPlaces_of_wellFormed h, recordPlaces_of_wellFormed hf, recordPlaces_of_wellFormed hb]
  simp only [List.length_append] at hline ⊢
  have count : (a + (front.length + back.length) + 31) / 32 - a / 32 =
      ((a + front.length + 31) / 32 - a / 32) + ((a + front.length + back.length + 31) / 32 - (a + front.length) / 32) := by omega
  rw [count, List.range_add, List.map_append, List.map_map]
  congr 1
  refine List.map_congr_left fun i _ => ?_
  simp only [Function.comp_apply]
  omega

end Sys2Proof.Machine

namespace Sys2Proof.Machine

/-! ### One place of an INDEX write (R16) -/

theorem wholeRecord_of_enabled {place : Nat} {lanes : List LaneByte} (hlen : lanes.length = 32) (hall : ∀ l ∈ lanes, l.2 = true) :
    wholeRecord place lanes place = some (lanes.map (·.1)) := by
  have part : (lanes.drop (place - place)).take 32 = lanes := by rw [Nat.sub_self, List.drop_zero, List.take_of_length_le (by omega)]
  rw [wholeRecord, part, if_pos ⟨le_rfl, hlen, List.all_eq_true.mpr hall⟩]

theorem wholeRecord_of_disabled {place : Nat} {lanes : List LaneByte} (hlen : lanes.length = 32) (h : ∃ l ∈ lanes, l.2 = false) :
    wholeRecord place lanes place = none := by
  have part : (lanes.drop (place - place)).take 32 = lanes := by rw [Nat.sub_self, List.drop_zero, List.take_of_length_le (by omega)]
  obtain ⟨l, hl, hoff⟩ := h
  rw [wholeRecord, part, if_neg fun hw => ?_]
  have := List.all_eq_true.mp hw.2.2 l hl
  simp [hoff] at this

theorem wholeRecord_of_short {a place : Nat} {lanes : List LaneByte} (hlen : lanes.length < 32) : wholeRecord a lanes place = none := by
  rw [wholeRecord, if_neg fun hw => ?_]
  have := hw.2.1
  simp only [List.length_take, List.length_drop] at this
  omega

/-- A place lies in the front part of a split write as it lies in the whole one (R16). -/
theorem wholeRecord_append_left {a place : Nat} {front back : List LaneByte} (h : place + 32 ≤ a + front.length) :
    wholeRecord a (front ++ back) place = wholeRecord a front place := by
  by_cases ha : a ≤ place
  · have part : ((front ++ back).drop (place - a)).take 32 = (front.drop (place - a)).take 32 := by
      rw [List.drop_append_of_le_length (by omega), List.take_append_of_le_length]
      rw [List.length_drop]
      omega
    rw [wholeRecord, wholeRecord, part]
  · rw [wholeRecord, wholeRecord, if_neg fun hw => ha hw.1, if_neg fun hw => ha hw.1]

theorem wholeRecord_append_right {a place : Nat} {front back : List LaneByte} (h : a + front.length ≤ place) :
    wholeRecord a (front ++ back) place = wholeRecord (a + front.length) back place := by
  have part : ((front ++ back).drop (place - a)).take 32 = (back.drop (place - (a + front.length))).take 32 := by
    rw [List.drop_append, List.drop_eq_nil_of_le (by omega), List.nil_append, Nat.sub_sub]
  simp only [wholeRecord, part, h, true_and, (Nat.le_add_right a front.length).trans h]

theorem takePlace_congr {base a b place : Nat} {l m : List LaneByte} (h : wholeRecord a l place = wholeRecord b m place) (s : State) :
    takePlace base a l s place = takePlace base b m s place := by
  unfold takePlace
  rw [h]

theorem offerIndexWrite_append {base a : Nat} {front back : List LaneByte} (hf : (Transaction.write a front).wellFormed = true)
    (hb : (Transaction.write (a + front.length) back).wellFormed = true)
    (h : (Transaction.write a (front ++ back)).wellFormed = true) (hsplit : (a + front.length) % 32 = 0) (s : State) :
    offerIndexWrite base a (front ++ back) s =
      offerIndexWrite base (a + front.length) back (offerIndexWrite base a front s) := by
  rw [offerIndexWrite, recordPlaces_append hf hb h hsplit, List.foldl_append]
  have left : (recordPlaces a front.length).foldl (takePlace base a (front ++ back)) s = offerIndexWrite base a front s := by
    refine List.foldl_ext _ _ _ fun u place hp => takePlace_congr (wholeRecord_append_left ?_) u
    rw [recordPlaces, List.mem_filter, List.mem_map] at hp
    obtain ⟨⟨i, -, rfl⟩, hlt⟩ := hp
    have hlt := of_decide_eq_true hlt
    omega
  have right : ∀ u, (recordPlaces (a + front.length) back.length).foldl (takePlace base a (front ++ back)) u =
      offerIndexWrite base (a + front.length) back u := fun u => by
    refine List.foldl_ext _ _ _ fun u place hp => takePlace_congr (wholeRecord_append_right ?_) u
    rw [recordPlaces, List.mem_filter, List.mem_map] at hp
    obtain ⟨⟨i, -, rfl⟩, -⟩ := hp
    omega
  rw [left, right]

theorem exec_take_index {a base size : Nat} {lanes : List LaneByte} {s : State} (h : portOpen s)
    (hwf : (Transaction.write a lanes).wellFormed = true) (hat : regionAt s a = some ⟨base, size, .index⟩) :
    exec (.hostTransactionTake (.write a lanes)) s = .next (offerIndexWrite base a lanes (joined (.write a lanes) .waiting s)) := by
  rw [exec_take_of_portOpen h hwf, treat_regionWrite hat]
  rfl

theorem exec_take_indexPlace {a base size : Nat} {lanes : List LaneByte} {s : State} (h : portOpen s)
    (hwf : (Transaction.write a lanes).wellFormed = true) (hat : regionAt s a = some ⟨base, size, .index⟩)
    (hone : a / 32 = (a + lanes.length - 1) / 32) :
    exec (.hostTransactionTake (.write a lanes)) s = .next (takePlace base a lanes (joined (.write a lanes) .waiting s) (a / 32 * 32)) := by
  rw [exec_take_index h hwf hat, offerIndexWrite, recordPlaces_single hwf hone]
  rfl

theorem takePlace_none {base a place : Nat} {lanes : List LaneByte} (h : wholeRecord a lanes place = none) (s : State) :
    takePlace base a lanes s place = tapEvent .indexPartial (place - base) 0 s := by
  unfold takePlace
  rw [h]

theorem takePlace_some {base a place : Nat} {lanes : List LaneByte} {bytes : List Byte} (h : wholeRecord a lanes place = some bytes)
    (s : State) : takePlace base a lanes s place = takeRecord (place - base) (entryRecordOf bytes) s := by
  unfold takePlace
  rw [h]

/-! ### The position of a record (R17) -/

/-- The position of a record as the claims give it (R17). -/
def claimedPosition (r : StreamRegion) (cursor addr : Nat) : Int :=
  (cursor : Int) - (((cursor : Int) - ((addr : Int) - r.base)) % r.size)

theorem recordPosition_eq {r : StreamRegion} {t : Tap} {addr : Nat} (hlo : r.base ≤ addr) (hhi : addr < r.base + r.size) :
    recordPosition r t addr = claimedPosition r t.cursor addr := by
  have hlt := Nat.mod_lt t.cursor (show 0 < r.size by omega)
  have e : ((t.cursor % r.size + r.size - (addr - r.base) : Nat) : Int) % r.size =
      ((t.cursor : Int) - ((addr : Int) - r.base)) % r.size := by
    rw [Int.ofNat_sub (by omega), Int.ofNat_sub hlo]
    push_cast
    rw [Int.sub_emod, Int.add_emod_right, Int.emod_emod_of_dvd _ (dvd_refl _), ← Int.sub_emod]
  rw [recordPosition, claimedPosition, ← e]
  norm_cast

theorem acceptedPosition_none {r : StreamRegion} {s : State} {addr : Nat} (hr : streamRegion s = some r)
    (h : addr < r.base ∨ r.base + r.size ≤ addr ∨ claimedPosition r s.tap.cursor addr < s.tap.floor ∨
      claimedPosition r s.tap.cursor addr = s.tap.cursor ∨
      ∃ e, s.tap.entries.getLast? = some e ∧ claimedPosition r s.tap.cursor addr ≤ e.pos) : acceptedPosition s addr = none := by
  unfold acceptedPosition
  rw [hr]
  refine if_neg ?_
  rintro ⟨hlo, hhi, h0, hc, hf, habove⟩
  rw [recordPosition_eq hlo hhi] at hc hf habove
  rcases h with h | h | h | h | ⟨e, he, h⟩
  · omega
  · omega
  · omega
  · omega
  · rw [he] at habove
    have := of_decide_eq_true habove
    omega

theorem acceptedPosition_some {r : StreamRegion} {s : State} {addr : Nat} (hr : streamRegion s = some r) (hlo : r.base ≤ addr)
    (hhi : addr < r.base + r.size) (hf : (s.tap.floor : Int) ≤ claimedPosition r s.tap.cursor addr)
    (hc : claimedPosition r s.tap.cursor addr < s.tap.cursor)
    (hl : ∀ e, s.tap.entries.getLast? = some e → (e.pos : Int) < claimedPosition r s.tap.cursor addr) :
    acceptedPosition s addr = some (claimedPosition r s.tap.cursor addr).toNat := by
  unfold acceptedPosition
  rw [hr]
  dsimp only
  rw [recordPosition_eq hlo hhi]
  refine if_pos ⟨hlo, hhi, by omega, hc, hf, ?_⟩
  split
  · rename_i e he
    exact decide_eq_true (hl e he)
  · rfl

/-! ### The entry that a record becomes (R17, R112) -/

/-- The entry of a record at position `p` (R17, R112). -/
def entryOf (s : State) (bytes : List Byte) (p : Nat) : Entry :=
  ⟨(entryRecordOf bytes).kind, p, frameNumberOf s.view.slots (entryRecordOf bytes).slot, (entryRecordOf bytes).timecode⟩

theorem takeRecord_none {s : State} {bytes : List Byte} (h : acceptedPosition s (field bytes 0 4) = none) (offset : Nat) :
    takeRecord offset (entryRecordOf bytes) s = tapEvent .indexStale offset 0 s := by
  unfold takeRecord
  rw [show (entryRecordOf bytes).addr = field bytes 0 4 from rfl, h]

theorem takeRecord_some {s : State} {bytes : List Byte} {p : Nat} (h : acceptedPosition s (field bytes 0 4) = some p) (offset : Nat) :
    takeRecord offset (entryRecordOf bytes) s =
      armedEntry (s.setTap { s.tap with entries := appendEntry (entryOf s bytes p) s.tap.entries }) := by
  unfold takeRecord
  rw [show (entryRecordOf bytes).addr = field bytes 0 4 from rfl, h]
  rfl

theorem fromLittleEndian_lt (l : List Byte) : fromLittleEndian l < 256 ^ l.length := by
  induction l with
  | nil => simp [fromLittleEndian]
  | cons b l ih =>
    have hb : b.toNat < 256 := b.isLt
    rw [fromLittleEndian, List.length_cons, Nat.pow_succ']
    omega

theorem field_lt (bytes : List Byte) (offset size : Nat) : field bytes offset size < 256 ^ size :=
  (fromLittleEndian_lt _).trans_le (Nat.pow_le_pow_right (by decide) (List.length_take_le _ _))

theorem entryOf_kind (s : State) (bytes : List Byte) (p : Nat) :
    (entryOf s bytes p).kind = if field bytes 9 1 = 1 then .key else .mark := by
  have hlt : field bytes 9 1 < 256 := field_lt bytes 9 1
  have e : (byteAt bytes 9 = 1) ↔ field bytes 9 1 = 1 := by
    rw [byteAt, ← BitVec.toNat_inj, BitVec.toNat_ofNat, Nat.mod_eq_of_lt hlt]
    rfl
  simp only [entryOf, entryRecordOf, entryKindOf, e]

theorem entryOf_timecode (s : State) (bytes : List Byte) (p : Nat) : (entryOf s bytes p).timecode.toNat = field bytes 4 4 := by
  have hlt : field bytes 4 4 < 2 ^ 32 := field_lt bytes 4 4
  exact Nat.mod_eq_of_lt hlt

theorem frameNumberOf_none {slots : List SlotRecord} {k : Nat}
    (h : ∀ f, slots[k]? ≠ some (.filling f) ∧ slots[k]? ≠ some (.ready f)) :
    frameNumberOf slots k = 0 := by
  unfold frameNumberOf slotFrame
  split
  · exact absurd ‹_› (h _).1
  · exact absurd ‹_› (h _).2
  · rfl

theorem frameNumberOf_some {slots : List SlotRecord} {k : Nat} {f : FrameRecord}
    (h : slots[k]? = some (.filling f) ∨ slots[k]? = some (.ready f)) : frameNumberOf slots k = f.frame := by
  unfold frameNumberOf slotFrame
  rcases h with h | h <;> rw [h] <;> rfl

theorem appendEntry_eq_ite (e : Entry) (l : List Entry) : appendEntry e l = (if l.length < 64 then l else l.tail) ++ [e] := by
  rw [appendEntry, List.drop_one]
  rfl

theorem armedEntry_of_not {s : State} (h : s.clip.state ≠ .armed) : armedEntry s = s := if_neg h

theorem armedEntry_of_armed {s : State} (h : s.clip.state = .armed) : armedEntry s =
    postNotice (.recState .started .recording none (beginClip (fun _ => 0) s).clip.mode (beginClip (fun _ => 0) s).clip.clipNumber 0)
      (beginClip (fun _ => 0) s) := if_pos h

end Sys2Proof.Machine

namespace Sys2Proof.Machine

/-! ### Index records become entries (R16 to R19, R24) -/

theorem mode_of_clipBegun {c d : Clip} {a : Audio} {e : Entry} {pre : Nat} (h : clipBegun c a e pre d) : d.mode = c.mode := by
  obtain ⟨h, -⟩ := h
  rw [h]

theorem clipNumber_of_clipBegun {c d : Clip} {a : Audio} {e : Entry} {pre : Nat} (h : clipBegun c a e pre d) :
    d.clipNumber = c.clipNumber := by
  obtain ⟨h, -⟩ := h
  rw [h]

/-- What a clip takes when it begins at the oldest entry, which names its mode and its number as they stood (R24, R25). -/
theorem clipBegun_beginClip {s : State} {e : Entry} {rest : List Entry} (f : Nat → Nat) (h : s.tap.entries = e :: rest) :
    (beginClip f s).tap = { s.tap with ship := e.pos, floor := e.pos, discontinuity := false } ∧
      clipBegun s.clip s.audio e (f e.pos) (beginClip f s).clip ∧ (beginClip f s).clip.mode = s.clip.mode ∧
      (beginClip f s).clip.clipNumber = s.clip.clipNumber := by
  rw [beginClip_cons f h]
  have begun := clipBegun_begunClip (f e.pos) e s.audio s.clip
  exact ⟨rfl, begun, mode_of_clipBegun begun, clipNumber_of_clipBegun begun⟩

/-- A whole record with every byte enabled is taken at its place (R16, R17). -/
theorem exec_take_record {place base size : Nat} {lanes : List LaneByte} {s : State} (h : portOpen s)
    (hwf : (Transaction.write place lanes).wellFormed = true) (hlen : lanes.length = 32) (hplace : place % 32 = 0)
    (hat : regionAt s place = some ⟨base, size, .index⟩) (hall : ∀ l ∈ lanes, l.2 = true) :
    exec (.hostTransactionTake (.write place lanes)) s =
      .next (takeRecord (place - base) (entryRecordOf (lanes.map (·.1))) (joined (.write place lanes) .waiting s)) := by
  rw [exec_take_indexPlace h hwf hat (by omega), show place / 32 * 32 = place by omega,
    takePlace_some (wholeRecord_of_enabled hlen hall)]

theorem exec_take_disabledRecord {place base size : Nat} {lanes : List LaneByte} {s : State} (h : portOpen s)
    (hwf : (Transaction.write place lanes).wellFormed = true) (hlen : lanes.length = 32) (hplace : place % 32 = 0)
    (hat : regionAt s place = some ⟨base, size, .index⟩) (hoff : ∃ l ∈ lanes, l.2 = false) :
    exec (.hostTransactionTake (.write place lanes)) s =
      .next (tapEvent .indexPartial (place - base) 0 (joined (.write place lanes) .waiting s)) := by
  rw [exec_take_indexPlace h hwf hat (by omega), show place / 32 * 32 = place by omega,
    takePlace_none (wholeRecord_of_disabled hlen hoff)]

/-- The record accepted outside ARMED joins the Entry List and changes nothing else (R17, R19). -/
theorem exec_take_acceptedRecord {place base size p : Nat} {lanes : List LaneByte} {s : State} (h : portOpen s)
    (hwf : (Transaction.write place lanes).wellFormed = true) (hlen : lanes.length = 32) (hplace : place % 32 = 0)
    (hat : regionAt s place = some ⟨base, size, .index⟩) (hall : ∀ l ∈ lanes, l.2 = true)
    (hp : acceptedPosition s (field (lanes.map (·.1)) 0 4) = some p) :
    exec (.hostTransactionTake (.write place lanes)) s = .next (armedEntry ((joined (.write place lanes) .waiting s).setTap
      { s.tap with entries := appendEntry (entryOf s (lanes.map (·.1)) p) s.tap.entries })) := by
  rw [exec_take_record h hwf hlen hplace hat hall]
  exact congrArg Host.Outcome.next (takeRecord_some (s := joined (.write place lanes) .waiting s) hp (place - base))

/-- The split of an INDEX write: its parts in a row have its effect, and it joins the queue once (R16). -/
theorem exec_take_indexSplit {a base size : Nat} {front back : List LaneByte} {s : State} (h : portOpen s)
    (hf : (Transaction.write a front).wellFormed = true) (hb : (Transaction.write (a + front.length) back).wellFormed = true)
    (hfb : (Transaction.write a (front ++ back)).wellFormed = true) (hsplit : (a + front.length) % 32 = 0)
    (hat : regionAt s a = some ⟨base, size, .index⟩) (hat' : regionAt s (a + front.length) = some ⟨base, size, .index⟩) :
    ∃ u w, exec (.hostTransactionTake (.write a front)) s = .next u ∧
      exec (.hostTransactionTake (.write (a + front.length) back)) (u.setPath s.path) = .next w ∧
      exec (.hostTransactionTake (.write a (front ++ back))) s =
        .next (w.setPath (joined (.write a (front ++ back)) .waiting s).path) := by
  obtain ⟨keepsF, setF⟩ := ignoresQueue_offerIndexWrite base a front
  obtain ⟨keepsB, setB⟩ := ignoresQueue_offerIndexWrite base (a + front.length) back
  have once : ∀ x : Transaction, joined x .waiting s = s.setPath (joined x .waiting s).path := fun _ => rfl
  have alike : ∀ x : Transaction, pathAlike (joined x .waiting s).path s.path := fun _ => ⟨rfl, rfl, rfl⟩
  have offered : (offerIndexWrite base a front (joined (.write a front) .waiting s)).setPath s.path = offerIndexWrite base a front s := by
    rw [once, setF s _ (alike _), ← keepsF s]
    rfl
  have atPath : (offerIndexWrite base a front s).path = s.path := keepsF s
  have second := exec_take_index (s := offerIndexWrite base a front s) (by rw [portOpen, running, atPath]; exact h) hb
    (by rw [regionAt, regions, atPath]; exact hat')
  refine ⟨_, _, exec_take_index h hf hat, by rw [offered]; exact second, ?_⟩
  rw [exec_take_index h hfb hat, offerIndexWrite_append hf hb hfb hsplit, once, setF s _ (alike _),
    setB _ _ (atPath.symm ▸ alike _)]
  generalize offerIndexWrite base a front s = v
  rw [show joined (.write (a + front.length) back) .waiting v =
      v.setPath (joined (.write (a + front.length) back) .waiting v).path from rfl,
    setB v (joined (.write (a + front.length) back) .waiting v).path ⟨rfl, rfl, rfl⟩]
  rfl

/-- Settles O24: the record at a place is read as R16 and R17 say, and an accepted one in ARMED begins the clip (R24). -/
theorem indexRecordsBecomeEntries : Obligations.IndexRecordsBecomeEntries := by
  refine ⟨?_, ?_, ?_, ?_⟩
  · intro r place base size lanes s h hwf hlen hplace hat hr hsize x bytes addr p
    refine ⟨exec_take_disabledRecord h hwf hlen hplace hat, fun hall hout => ?_, fun hidle hall hlo hhi hf hc hl => ?_⟩
    · rw [exec_take_record h hwf hlen hplace hat hall]
      exact congrArg Host.Outcome.next (takeRecord_none (s := joined x .waiting s) (acceptedPosition_none hr hout) (place - base))
    · have taken := exec_take_acceptedRecord h hwf hlen hplace hat hall (acceptedPosition_some hr hlo hhi hf hc hl)
      rw [armedEntry_of_not (s := (joined _ _ s).setTap _) hidle] at taken
      refine ⟨_, entryOf s bytes p.toNat, taken, ?_, rfl, by rw [← appendEntry_eq_ite]; rfl,
        Int.toNat_of_nonneg ((Int.natCast_nonneg _).trans hf), entryOf_kind s bytes _, entryOf_timecode s bytes _,
        frameNumberOf_none, fun f hf => frameNumberOf_some hf⟩
      exact changesOnly_trans (changesOnly_mono (by simp) (changesOnly_joined x .waiting s))
        (changesOnly_mono (by simp) (changesOnly_setTap _ _))
  · intro a base size lanes s h hwf hat hone x
    refine ⟨fun hlen => ?_, fun hlen hoff => ?_, fun hlen hall hnone => ?_⟩
    · obtain ⟨-, -, hline⟩ := wellFormed_write hwf
      rw [exec_take_indexPlace h hwf hat hone, takePlace_none (wholeRecord_of_short (by omega))]
    · exact exec_take_disabledRecord h hwf hlen (by omega) hat hoff
    · have none_accepted : acceptedPosition s (field (lanes.map (·.1)) 0 4) = none := by
        unfold acceptedPosition
        rw [hnone]
      rw [exec_take_record h hwf hlen (by omega) hat hall]
      exact congrArg Host.Outcome.next (takeRecord_none (s := joined x .waiting s) none_accepted (a - base))
  · intro a base size front back s h hf hb hfb hsplit hat hat'
    exact exec_take_indexSplit h hf hb hfb hsplit hat hat'
  · intro r place base size lanes s h harmed hempty hwf hlen hplace hat hr hsize hall bytes addr p hlo hhi hf hc
    have taken := exec_take_acceptedRecord h hwf hlen hplace hat hall
      (acceptedPosition_some hr hlo hhi hf hc (by simp [hempty]))
    generalize he : entryOf s (lanes.map (·.1)) (claimedPosition r s.tap.cursor addr).toNat = e at taken
    generalize hj : (joined (.write place lanes) .waiting s).setTap { s.tap with entries := [e] } = j
    have jClip : j.clip = s.clip := by rw [← hj]; rfl
    have jTap : j.tap = { s.tap with entries := [e] } := by rw [← hj]; rfl
    have jAudio : j.audio = s.audio := by rw [← hj]; rfl
    have jParts : changesOnly [.path, .tap, .clip] s j := by
      rw [← hj]
      exact changesOnly_trans (changesOnly_mono (by simp) (changesOnly_joined _ .waiting s))
        (changesOnly_mono (by simp) (changesOnly_setTap _ _))
    have begun := clipBegun_beginClip (fun _ => 0) (s := j) (e := e) (rest := []) (by rw [jTap])
    obtain ⟨tap, clip, mode, number⟩ := begun
    rw [jClip] at mode number
    rw [jClip, jAudio] at clip
    rw [jTap] at tap
    rw [hempty, show appendEntry e [] = [e] from rfl, hj, armedEntry_of_armed (by rw [jClip]; exact harmed)] at taken
    rw [mode, number] at taken
    have frame := changesOnly_trans jParts (changesOnly_mono (by simp) (changesOnly_beginClip (fun _ => 0) j))
    refine ⟨beginClip (fun _ => 0) j, e, taken, frame, ?_, ?_, ?_, ?_, tap, clip⟩
    · rw [changesOnly_beginClip _ j .path (by simp), ← hj]
      rfl
    · rw [← he]
      exact Int.toNat_of_nonneg ((Int.natCast_nonneg _).trans hf)
    · rw [← he]
      exact entryOf_kind s _ _
    · rw [← he]
      exact entryOf_timecode s _ _

end Sys2Proof.Machine

namespace Sys2Proof.Machine

/-! ### Cards that become ACTIVE and cards that are released (R48, R50) -/

theorem postNotice_cardState_card (x : CardSlot) (new old : CardState) (au : Option Word16) (i : Nat)
    (id : Option (Word16 × Word64)) (s : State) (y : CardSlot) : (postNotice (.cardState x new old au i id) s).card y = s.card y := by
  rcases Nat.lt_or_ge (unread s) 64 with h | h
  · rw [postNotice_of_room h]
    exact writeRing_card _ _ _
  · rw [postNotice_of_full h]
    exact State.setControl_card _ _ _

theorem setCardState_card_same (x : CardSlot) (new : CardState) (s : State) :
    (setCardState x new s).card x = { s.card x with state := new } := by
  unfold setCardState
  dsimp only
  split
  · rename_i h
    rw [← h]
  · rw [postNotice_cardState_card]
    split <;> simp

theorem setCardState_card_other {x y : CardSlot} (h : x ≠ y) (new : CardState) (s : State) :
    (setCardState x new s).card y = s.card y := by
  unfold setCardState
  dsimp only
  split
  · rfl
  · rw [postNotice_cardState_card]
    split <;> simp [State.setCard_card_other _ _ _ _ h]

theorem changesOnly_setCardState (x : CardSlot) (new : CardState) (s : State) :
    changesOnly [.card x, .control] s (setCardState x new s) := by
  intro p hp
  cases p with
  | card y => exact setCardState_card_other (fun e => hp (by simp [e])) new s
  | _ => simp [Part.same] at hp ⊢

theorem continueErase_card_other {x y : CardSlot} (h : x ≠ y) (s : State) : (continueErase x s).card y = s.card y := by
  unfold continueErase
  dsimp only
  repeat' split
  all_goals simp [State.setCard_card_other _ _ _ _ h]

theorem changesOnly_continueErase (x : CardSlot) (s : State) : changesOnly [.card x] s (continueErase x s) := by
  intro p hp
  cases p with
  | card y => exact continueErase_card_other (fun e => hp (by simp [e])) s
  | _ => simp [Part.same] at hp ⊢

/-- A held erase that is continued changes what stands on the card's link alone (R61). -/
theorem cardMoved_continueErase (x : CardSlot) (s : State) : cardMoved s (continueErase x s) x (s.card x).state := by
  unfold continueErase
  dsimp only
  cases he : (s.card x).erase with
  | none => exact ⟨rfl, rfl, rfl, rfl, rfl, fun _ => rfl⟩
  | some e =>
    dsimp only
    split <;> simp [cardMoved, he]

theorem changesOnly_leaveActive (x : CardSlot) (new : CardState) (s : State) :
    changesOnly [.card x, .control] s (leaveActive x new s) :=
  changesOnly_trans (changesOnly_setCardState x new s) (changesOnly_mono (by simp) (changesOnly_continueErase x _))

theorem cardMoved_leaveActive (x : CardSlot) (new : CardState) (s : State) : cardMoved s (leaveActive x new s) x new := by
  have moved := cardMoved_continueErase x (setCardState x new s)
  rw [cardMoved, setCardState_card_same] at moved
  exact moved

theorem changesOnly_releaseCard (x : CardSlot) (s : State) : changesOnly [.card x, .control] s (releaseCard x s) := by
  unfold releaseCard
  split
  · exact changesOnly_leaveActive x .ready s
  · exact changesOnly_refl _ s

theorem cardMoved_releaseCard (x : CardSlot) (s : State) :
    cardMoved s (releaseCard x s) x (if (s.card x).state = .active then .ready else (s.card x).state) := by
  unfold releaseCard
  split
  · exact cardMoved_leaveActive x .ready s
  · exact ⟨rfl, rfl, rfl, rfl, rfl, fun _ => rfl⟩

theorem changesOnly_activate (set : CardSet) (s : State) : changesOnly [.card .a, .card .b, .control] s (activate set s) := by
  have one : ∀ x u, changesOnly [.card .a, .card .b, .control] u (makeActive x u) := fun x u => by
    refine changesOnly_mono ?_ (changesOnly_setCardState x .active u)
    cases x <;> simp
  unfold activate
  dsimp only
  split <;> split
  · exact changesOnly_trans (one _ _) (one _ _)
  · exact one _ _
  · exact one _ _
  · exact changesOnly_refl _ s

theorem activate_card (set : CardSet) (s : State) (x : CardSlot) :
    (activate set s).card x = if set.has x then { s.card x with state := .active } else s.card x := by
  unfold activate
  dsimp only
  cases x <;> rcases set with ⟨_ | _, _ | _⟩ <;>
    simp [CardSet.has, makeActive, setCardState_card_same, setCardState_card_other]

end Sys2Proof.Machine

namespace Sys2Proof.Machine

/-! ### REC_CONFIG (R22) -/

theorem chunkLimits_eq (mxField mnField : Word32) : chunkLimits mxField mnField =
    let mx : Nat := if mxField = 0xFFFFFFFF then 262144 else mxField.toNat
    let mn : Nat := if mnField = 0xFFFFFFFF then 65536 else mnField.toNat
    if 65536 ≤ mx ∧ mx ≤ 1048576 ∧ mx % 4096 = 0 ∧ 16384 ≤ mn ∧ mn ≤ mx then some (mx, mn) else none := rfl

theorem modeOf_none {b : Byte} (h : 4 < b.toNat ∧ b ≠ 0xFF) : modeOf b = none := by
  have hne : b.toNat ≠ 255 := fun e => h.2 (BitVec.eq_of_toNat_eq e)
  unfold modeOf
  split <;> simp_all

theorem modeOf_some {b : Byte} {m : Mode}
    (h : (b.toNat, m) ∈ [(0, Mode.singleA), (1, .singleB), (2, .relayAB), (3, .relayBA), (4, .mirror), (255, .singleA)]) :
    modeOf b = some m := by
  simp only [List.mem_cons, Prod.mk.injEq, List.not_mem_nil, or_false] at h
  unfold modeOf
  rcases h with ⟨e, rfl⟩ | ⟨e, rfl⟩ | ⟨e, rfl⟩ | ⟨e, rfl⟩ | ⟨e, rfl⟩ | ⟨e, rfl⟩ <;> simp only [e]

theorem recConfigBody_of_busy {s : State} (h : s.clip.state ≠ .idle) (mode gripRec : Byte) (mx mn : Word32) :
    recConfigBody mode gripRec mx mn s = (s, .badState) := if_pos h

theorem recConfigBody_of_bad {mode : Byte} {mx mn : Word32} {s : State} (h : s.clip.state = .idle)
    (bad : modeOf mode = none ∨ chunkLimits mx mn = none) (gripRec : Byte) :
    recConfigBody mode gripRec mx mn s = (s, .badArg) := by
  unfold recConfigBody
  rw [if_neg (not_not.mpr h)]
  split
  · rename_i hm hl
    rcases bad with bad | bad
    · simp [bad] at hm
    · simp [bad] at hl
  · rfl

theorem recConfigBody_of_good {mode : Byte} {mxField mnField : Word32} {m : Mode} {mx mn : Nat} {s : State} (h : s.clip.state = .idle)
    (hm : modeOf mode = some m) (hl : chunkLimits mxField mnField = some (mx, mn)) (gripRec : Byte) :
    recConfigBody mode gripRec mxField mnField s =
      (s.setClip { s.clip with mode := m, chunkMax := mx, chunkMin := mn, gripRec := gripRec != 0 && gripRec != 0xFF }, .ok) := by
  unfold recConfigBody
  rw [if_neg (not_not.mpr h), hm, hl]
  rfl

/-! ### REC_START (R23 to R25) -/

theorem regionsForClip_iff (s : State) : regionsForClip s = true ↔ recordable s := by
  simp [regionsForClip, recordable, Option.isSome_iff_exists, and_assoc]

theorem firstCards_available_iff (s : State) :
    ((firstCards s.clip.mode).a && !available s.cardA) = false ∧ ((firstCards s.clip.mode).b && !available s.cardB) = false ↔
      firstReady s := by
  have ready : ∀ c : Card, available c = true ↔ c.state = .ready ∧ c.chain = .set ∧ c.request = none := fun c => by
    simp [available, and_assoc]
  have both : firstReady s ↔ ((firstCards s.clip.mode).a = true → available s.cardA = true) ∧
      ((firstCards s.clip.mode).b = true → available s.cardB = true) := by
    simp only [ready]
    exact ⟨fun h => ⟨h .a, h .b⟩, fun h x => CardSlot.casesOn x h.1 h.2⟩
  rw [both]
  cases (firstCards s.clip.mode).a <;> cases (firstCards s.clip.mode).b <;> simp

/-- The checks of REC_START in their order (R23). -/
theorem recStart_badState {s : State} (h : s.clip.state ≠ .idle ∨ ¬recordable s) (clip : Word16) :
    recStart clip s = (s, .badState) := by
  have check : recStartCheck s = .badState := by
    by_cases hidle : s.clip.state = .idle
    · have bad : regionsForClip s ≠ true := fun e => (h.resolve_left (not_not.mpr hidle)) ((regionsForClip_iff s).mp e)
      simp [recStartCheck, hidle, bad]
    · simp [recStartCheck, hidle]
  rw [recStart, check]

theorem recStart_busy {s : State} (hidle : s.clip.state = .idle) (hreg : recordable s) (h : s.clip.pages ≠ []) (clip : Word16) :
    recStart clip s = (s, .busy) := by
  have check : recStartCheck s = .busy := by
    simp [recStartCheck, hidle, (regionsForClip_iff s).mpr hreg, h]
  rw [recStart, check]

theorem recStart_noMedia {s : State} (hidle : s.clip.state = .idle) (hreg : recordable s) (hpages : s.clip.pages = [])
    (h : ¬firstReady s) (clip : Word16) : recStart clip s = (s, .noMedia) := by
  have missing := (firstCards_available_iff s).not.mpr h
  have check : recStartCheck s = .noMedia := by
    unfold recStartCheck
    rw [if_neg (by simp [hidle]), if_neg (by simp [(regionsForClip_iff s).mpr hreg]), if_neg (by simp [hpages]), if_pos]
    by_contra hn
    simp only [Bool.or_eq_true, not_or, Bool.not_eq_true] at hn
    exact missing hn
  rw [recStart, check]

theorem recStart_accepted {s : State} (hidle : s.clip.state = .idle) (hreg : recordable s) (hpages : s.clip.pages = [])
    (h : firstReady s) (clip : Word16) : recStart clip s = (acceptRecStart clip s, .ok) := by
  obtain ⟨ha, hb⟩ := (firstCards_available_iff s).mpr h
  have check : recStartCheck s = .ok := by
    unfold recStartCheck
    rw [if_neg (by simp [hidle]), if_neg (by simp [(regionsForClip_iff s).mpr hreg]), if_neg (by simp [hpages]),
      if_neg (by simp [ha, hb])]
  rw [recStart, check]

/-- The part once a start's cards are ACTIVE and its values taken, before the clip is ARMED or begins (R23). -/
def startPrepared (clip : Word16) (s : State) : State :=
  let s1 := endCause .mediaExhausted (activate (firstCards s.clip.mode)
    (s.setClip { s.clip with clipNumber := clip, lastClip := clip, targets := firstCards s.clip.mode }))
  s1.setClip { s1.clip with startCursor := s1.tap.cursor, audioPart := (audioRegion s1).isSome && s1.audio.state != .off }

/-- The start that `startPrepared` leads to: ARMED with no entry, else the clip begun at the oldest one (R24). -/
def startBegun (s : State) : State :=
  if s.tap.entries.isEmpty then s.setClip { s.clip with state := .armed } else beginClip (fun p => s.tap.cursor - p) s

theorem acceptRecStart_eq (clip : Word16) (s : State) : acceptRecStart clip s =
    let v := startBegun (startPrepared clip s)
    postNotice (.recState .started v.clip.state none v.clip.mode clip 0) v := rfl

theorem changesOnly_setClip (v : Clip) (s : State) : changesOnly [.clip] s (s.setClip v) := by
  intro p hp
  cases p <;> simp [Part.same] at hp ⊢

theorem changesOnly_startPrepared (clip : Word16) (s : State) :
    changesOnly [.clip, .card .a, .card .b, .control] s (startPrepared clip s) := by
  have set : ∀ v u, changesOnly [.clip, .card .a, .card .b, .control] u (u.setClip v) := fun v u =>
    changesOnly_mono (by simp) (changesOnly_setClip v u)
  exact changesOnly_trans (changesOnly_trans (changesOnly_trans (set _ _) (changesOnly_mono (by simp) (changesOnly_activate _ _)))
    (changesOnly_mono (by simp) (changesOnly_endCause _ _))) (set _ _)

theorem audioRegion_congr {s t : State} (h : t.path = s.path) : audioRegion t = audioRegion s := by
  rw [audioRegion, audioRegion, regions, regions, h]

theorem startPrepared_clip (clip : Word16) (s : State) : (startPrepared clip s).clip = startTaken clip s := by
  unfold startPrepared
  generalize hu : s.setClip _ = u
  have kept := changesOnly_activate (firstCards s.clip.mode) u
  have clipKept : (activate (firstCards s.clip.mode) u).clip = u.clip := kept .clip (by simp)
  have tapKept : (activate (firstCards s.clip.mode) u).tap = u.tap := kept .tap (by simp)
  have audioKept : (activate (firstCards s.clip.mode) u).audio = u.audio := kept .audio (by simp)
  have pathKept : (activate (firstCards s.clip.mode) u).path = u.path := kept .path (by simp)
  simp only [State.setClip_clip, endCause_clip, endCause_tap, endCause_audio, clipKept, tapKept, audioKept,
    audioRegion_congr ((endCause_path _ _).trans pathKept)]
  rw [← hu]
  rfl

theorem startPrepared_card (clip : Word16) (s : State) (x : CardSlot) : (startPrepared clip s).card x =
    if (firstCards s.clip.mode).has x then { s.card x with state := .active } else s.card x := by
  simp [startPrepared, activate_card]

theorem causePresent_startPrepared (clip : Word16) (s : State) : causePresent (startPrepared clip s) .mediaExhausted = false :=
  causePresent_endCause _ _

theorem mode_startBegun (s : State) : (startBegun s).clip.mode = s.clip.mode := by
  unfold startBegun
  cases h : s.tap.entries with
  | nil => rfl
  | cons e rest =>
    obtain ⟨-, -, mode, -⟩ := clipBegun_beginClip (fun p => s.tap.cursor - p) h
    exact mode

theorem changesOnly_startBegun (s : State) : changesOnly [.tap, .clip] s (startBegun s) := by
  unfold startBegun
  split
  · exact changesOnly_mono (by simp) (changesOnly_setClip _ s)
  · exact changesOnly_beginClip _ s

/-- A start leaves its cards ACTIVE, and the recording ARMED or begun at the oldest entry (R23, R24). -/
theorem startsClip_startBegun (clip : Word16) (s : State) : startsClip clip s (startBegun (startPrepared clip s)) := by
  have prepared := changesOnly_startPrepared clip s
  have tapKept : (startPrepared clip s).tap = s.tap := prepared .tap (by simp)
  have audioKept : (startPrepared clip s).audio = s.audio := prepared .audio (by simp)
  have begun := changesOnly_startBegun (startPrepared clip s)
  refine ⟨?_, fun x => ?_, fun hnone => ?_, fun e rest hsome => ?_⟩
  · have controlKept : (startBegun (startPrepared clip s)).control = (startPrepared clip s).control := begun .control (by simp)
    have none_present := causePresent_startPrepared clip s
    rwa [causePresent, condState, ← controlKept] at none_present
  · rw [begun (.card x) (by simp), startPrepared_card]
  · have armed : startBegun (startPrepared clip s) =
        (startPrepared clip s).setClip { (startPrepared clip s).clip with state := .armed } :=
      if_pos (by rw [tapKept, hnone]; rfl)
    rw [armed]
    refine ⟨changesOnly_trans prepared (changesOnly_mono (by simp) (changesOnly_setClip _ _)), ?_⟩
    rw [State.setClip_clip, startPrepared_clip]
  · have entries : (startPrepared clip s).tap.entries = e :: rest := by rw [tapKept, hsome]
    have recording : startBegun (startPrepared clip s) =
        beginClip (fun p => (startPrepared clip s).tap.cursor - p) (startPrepared clip s) :=
      if_neg (by rw [entries]; simp)
    obtain ⟨tap, clipTaken, -, -⟩ := clipBegun_beginClip (fun p => (startPrepared clip s).tap.cursor - p) entries
    rw [← recording, tapKept] at tap clipTaken
    rw [startPrepared_clip, audioKept] at clipTaken
    exact ⟨changesOnly_trans (changesOnly_mono (by simp) prepared) (changesOnly_mono (by simp) begun), tap, clipTaken⟩

theorem recStart_starts {s : State} (hidle : s.clip.state = .idle) (hreg : recordable s) (hpages : s.clip.pages = [])
    (h : firstReady s) (clip : Word16) : ∃ v, recStart clip s =
      (postNotice (.recState .started v.clip.state none s.clip.mode clip 0) v, .ok) ∧ startsClip clip s v := by
  refine ⟨startBegun (startPrepared clip s), ?_, startsClip_startBegun clip s⟩
  rw [recStart_accepted hidle hreg hpages h, acceptRecStart_eq]
  dsimp only
  rw [mode_startBegun, startPrepared_clip]
  rfl

/-! ### REC_STOP (R15, R26, R27) -/

theorem blockOrder_injective {a : Audio} {m n : Word32} (h : blockOrder a m = blockOrder a n) : m = n :=
  sub_left_inj.mp (BitVec.toInt_inj.mp h)

theorem newestBlock_number {a : Audio} {i : BlockInfo} (hi : BlockRecord.done i ∈ a.blocks)
    (h : ∀ j, BlockRecord.done j ∈ a.blocks → blockOrder a j.number ≤ blockOrder a i.number) :
    ∃ k, newestBlock a (doneBlocks a) = some k ∧ k.number = i.number := by
  cases hn : newestBlock a (doneBlocks a) with
  | none => simpa [newestBlock_eq_none hn] using mem_doneBlocks.mpr hi
  | some k =>
    obtain ⟨hk, hall⟩ := newestBlock_spec hn
    exact ⟨k, rfl, blockOrder_injective ((h k (mem_doneBlocks.mp hk)).antisymm (hall i (mem_doneBlocks.mpr hi)))⟩

theorem audioStopFixed_audioStopAt (s : State) : audioStopFixed s (audioStopAt s.clip s.audio) := by
  unfold audioStopAt
  refine ⟨fun hp => ?_, fun c hp hc => ?_, fun i p hp hc hptr hi hnew => ?_, fun hc hnone => ?_⟩
  · simp [hp]
  · simp [hp, fillingBlock, hc]
  · obtain ⟨k, hk, hnum⟩ := newestBlock_number hi hnew
    simp only [hp, fillingBlock, hc, hk, hptr, hnum, Option.map_none, if_true]
    rfl
  · have no_done : doneBlocks s.audio = [] := List.eq_nil_iff_forall_not_mem.mpr fun i hi => hnone i (mem_doneBlocks.mp hi)
    simp [fillingBlock, hc, no_done, newestBlock]

/-- A stop in ARMED releases the cards and ends the recording (R26, R48). -/
theorem stopsArmed_recStop {s : State} (h : s.clip.state = .armed) (cmd : Option Kept) : ∃ v, stopsArmed s v ∧
    recStop cmd s = (postNotice (.recState .stopped .idle none s.clip.mode s.clip.clipNumber 0) v, .ok) := by
  have releasedA := changesOnly_releaseCard .a (s.setClip { s.clip with state := .idle })
  have releasedB := changesOnly_releaseCard .b (releaseCard .a (s.setClip { s.clip with state := .idle }))
  have movedA := cardMoved_releaseCard .a (s.setClip { s.clip with state := .idle })
  have movedB := cardMoved_releaseCard .b (releaseCard .a (s.setClip { s.clip with state := .idle }))
  refine ⟨releaseCard .b (releaseCard .a (s.setClip { s.clip with state := .idle })), ⟨?_, by simp, fun x => ?_⟩, ?_⟩
  · exact changesOnly_trans (changesOnly_trans (changesOnly_mono (by simp) (changesOnly_setClip _ s))
      (changesOnly_mono (by simp) releasedA)) (changesOnly_mono (by simp) releasedB)
  · cases x with
    | a =>
      have kept : (releaseCard .b (releaseCard .a (s.setClip { s.clip with state := .idle }))).card .a = _ :=
        releasedB (.card .a) (by simp)
      rw [cardMoved, kept]
      exact movedA
    | b =>
      have kept : (releaseCard .a (s.setClip { s.clip with state := .idle })).card .b = s.card .b := releasedA (.card .b) (by simp)
      rw [cardMoved, kept] at movedB
      exact movedB
  · unfold recStop
    rw [h]
    simp

/-- A stop in RECORDING goes to STOPPING with its values (R15, R27). -/
theorem recStop_recording {s : State} (h : s.clip.state = .recording) (cmd : Option Kept) : recStop cmd s =
    (if s.tap.ship < s.tap.cursor then stopTaken cmd (audioStopAt s.clip s.audio) s
      else assemblyEnded (stopTaken cmd (audioStopAt s.clip s.audio) s), .accepted) := by
  have still : assembled (stopTaken cmd (audioStopAt s.clip s.audio) s) = decide (s.tap.ship < s.tap.cursor) := rfl
  have taken : (s.setTap { s.tap with stopHold := s.tap.held.isSome }).setClip { s.clip with
      state := .stopping, stopPos := s.tap.cursor, audioStop := audioStopAt s.clip s.audio, stopCmd := cmd } =
      stopTaken cmd (audioStopAt s.clip s.audio) s := rfl
  unfold recStop
  rw [h]
  dsimp only
  rw [taken, still]
  simp only [decide_eq_true_eq]

theorem recStop_elsewhere {s : State} (h : s.clip.state = .idle ∨ s.clip.state = .stopping) (cmd : Option Kept) :
    recStop cmd s = (s, .badState) := by
  unfold recStop
  rcases h with h | h <;> rw [h]

theorem recStop_shipping {s : State} (h : s.clip.state = .recording) (hship : s.tap.ship < s.tap.cursor) (cmd : Option Kept) :
    recStop cmd s = (stopTaken cmd (audioStopAt s.clip s.audio) s, .accepted) := by
  rw [recStop_recording h, if_pos hship]

theorem assemblyEnded_of_unheld {s : State} (h : s.tap.held = none) : assemblyEnded s = endCause .streamOverrun s := by
  rw [assemblyEnded, retestHeld, endCause_tap, h]

theorem recStop_shipped {s : State} (h : s.clip.state = .recording) (hship : s.tap.cursor ≤ s.tap.ship) (hheld : s.tap.held = none)
    (cmd : Option Kept) :
    recStop cmd s = (endCause .streamOverrun (stopTaken cmd (audioStopAt s.clip s.audio) s), .accepted) := by
  rw [recStop_recording h, if_neg (not_lt.mpr hship),
    assemblyEnded_of_unheld (s := stopTaken cmd _ s) hheld]

/-! ### The commands of a recording (R22 to R27) -/

theorem completesWith_of_body {c : Instr} {s u : State} {r : Result} {body : State → State × Result} (h : entryReturns s)
    (he : exec c s = .next (runCommand s body)) (hb : body (afterReturn s) = (u, r)) : completesWith c s r u := by
  have key := completesWith_of_runCommand h he
  rwa [hb] at key

/-- Settles O47: each command is its checks in their order, and then the start or the stop that it takes. -/
theorem recCommandsBeginAndStopClips : Obligations.RecCommandsBeginAndStopClips := by
  intro h s hret
  refine ⟨fun mode gripRec chunkMax chunkMin => ⟨fun hbusy => ?_, fun hidle hbad => ?_, fun m hidle hgood hmode => ?_⟩,
    fun clip => ⟨fun hbad => ?_, fun hidle hreg => ⟨fun hpages => ?_, fun hpages hno => ?_, fun hpages hready => ?_⟩⟩,
    fun hbad => ?_, fun harmed => ?_, fun hrec => ⟨fun hship => ?_, fun hship hheld => ?_⟩⟩
  · exact completesWith_of_body hret rfl (recConfigBody_of_busy (s := afterReturn s) hbusy mode gripRec chunkMax chunkMin)
  · exact completesWith_of_body hret rfl (recConfigBody_of_bad (s := afterReturn s) hidle
      (hbad.imp modeOf_none fun hl => if_neg hl) gripRec)
  · exact completesWith_of_body hret rfl (recConfigBody_of_good (s := afterReturn s) hidle (modeOf_some hmode) (if_pos hgood) gripRec)
  · exact completesWith_of_body hret rfl (recStart_badState (s := afterReturn s) hbad clip)
  · exact completesWith_of_body hret rfl (recStart_busy (s := afterReturn s) hidle hreg hpages clip)
  · exact completesWith_of_body hret rfl (recStart_noMedia (s := afterReturn s) hidle hreg hpages hno clip)
  · obtain ⟨v, hv, starts⟩ := recStart_starts (s := afterReturn s) hidle hreg hpages hready clip
    exact ⟨v, completesWith_of_body hret rfl hv, starts⟩
  · exact completesWith_of_body hret rfl (recStop_elsewhere (s := afterReturn s) hbad _)
  · obtain ⟨v, stops, hv⟩ := stopsArmed_recStop (s := afterReturn s) harmed (some ⟨0x12, h.tag, h.notify⟩)
    exact ⟨v, completesWith_of_body hret rfl hv, stops⟩
  · exact ⟨_, audioStopFixed_audioStopAt s, completesWith_of_body hret rfl (recStop_shipping (s := afterReturn s) hrec hship _)⟩
  · exact ⟨_, audioStopFixed_audioStopAt s, completesWith_of_body hret rfl (recStop_shipped (s := afterReturn s) hrec hship hheld _)⟩

end Sys2Proof.Machine

namespace Sys2Proof.Machine

/-! ### Ship advances over a VIDEO range (R5) -/

/-- Ship has come to `e`, and the entries below it have moved to the Clip Index (R5, R14). -/
def shipMoved (e : Nat) (s : State) : State := overrunEndTest (moveEntries e s)

/-- The Stream Tap with ship and floor at `e` (R5). -/
def shippedTap (e : Nat) (t : Tap) : Tap := { t with ship := e, floor := e, entries := t.entries.filter fun x => e ≤ x.pos }

/-- The assembler with the entries below `e` at the tail of its Clip Index (R5). -/
def indexedClip (e : Nat) (t : Tap) (c : Clip) : Clip :=
  { c with
    index := c.index ++ t.entries.filter fun x => x.pos < e
    videoStamp := ((t.entries.filter fun x => x.pos < e).getLast?.map Entry.frame).getD c.videoStamp }

@[simp] theorem shipMoved_tap (e : Nat) (s : State) : (shipMoved e s).tap = shippedTap e s.tap := overrunEndTest_tap _
@[simp] theorem shipMoved_clip (e : Nat) (s : State) : (shipMoved e s).clip = indexedClip e s.tap s.clip := overrunEndTest_clip _
@[simp] theorem shipMoved_path (e : Nat) (s : State) : (shipMoved e s).path = s.path := overrunEndTest_path _

theorem shipMoved_control (e : Nat) (s : State) : (shipMoved e s).control = { s.control with
    conditions := (shipMoved e s).control.conditions } := overrunEndTest_control _

theorem changesOnly_shipMoved (e : Nat) (s : State) : changesOnly [.clip, .tap, .control] s (shipMoved e s) := by
  have moved : changesOnly [.clip, .tap] s (moveEntries e s) := by
    intro p hp
    cases p <;> simp [Part.same] at hp ⊢
  exact changesOnly_trans (changesOnly_mono (by simp) moved) (changesOnly_mono (by simp) (changesOnly_overrunEndTest _))

theorem condState_shipMoved {c : Condition} (h : c ≠ .streamOverrun) (e : Nat) (s : State) :
    condState (shipMoved e s) c = condState s c := condState_overrunEndTest h _

theorem streamRegion_shipMoved (e : Nat) (s : State) : streamRegion (shipMoved e s) = streamRegion s :=
  streamRegion_congr (congrArg Path.regions (shipMoved_path e s))

/-- An advance that leaves less than half of the ring unshipped ends the cause of STREAM_OVERRUN (R14). -/
theorem causePresent_shipMoved {e : Nat} {s : State} {r : StreamRegion} (hr : streamRegion s = some r)
    (h : 2 * (s.tap.cursor - e) < r.size) : causePresent (shipMoved e s) .streamOverrun = false := by
  have region : streamRegion (moveEntries e s) = some r := hr
  have below : 2 * ((moveEntries e s).tap.cursor - (moveEntries e s).tap.ship) < r.size := h
  rw [shipMoved, overrunEndTest, region]
  dsimp only
  rw [if_pos below]
  exact causePresent_endCause _ _

theorem assembled_iff (s : State) : assembled s = true ↔
    s.clip.state = .recording ∨ (s.clip.state = .stopping ∧ s.tap.ship < s.clip.stopPos) := by
  unfold assembled
  cases s.clip.state <;> simp

/-- Assembly goes on after an advance of ship up to the stop position (R3, R5). -/
theorem assembled_shipMoved {e : Nat} {s : State} (h : assembled s = true) :
    assembled (shipMoved e s) = true ↔ s.clip.state = .recording ∨ e < s.clip.stopPos := by
  have state := (assembled_iff s).mp h
  rw [assembled_iff, shipMoved_clip, shipMoved_tap]
  simp only [indexedClip, shippedTap]
  rcases state with hrec | ⟨hstop, -⟩
  · simp [hrec]
  · simp [hstop]

theorem reportShipped_behind {e : Nat} {s : State} (h : assembled s = false ∨ e ≤ s.tap.ship) : reportShipped e s = s := by
  refine if_neg fun hp => ?_
  obtain ⟨ha, hlt⟩ := Bool.and_eq_true_iff.mp hp
  have hlt := of_decide_eq_true hlt
  rcases h with h | h
  · simp [h] at ha
  · omega

theorem reportShipped_ahead {e : Nat} {s : State} (ha : assembled s = true) (h : s.tap.ship < e) : reportShipped e s =
    if assembled (shipMoved e s) then retestHeld (shipMoved e s) else assemblyEnded (shipMoved e s) :=
  if_pos (by simp [ha, h])

/-! ### The re-test at the advance (R12, R15) -/

theorem retestHeld_of_unheld {s : State} (h : s.tap.held = none) : retestHeld s = s := by
  rw [retestHeld, h]

theorem retestHeld_stays {s : State} {r : StreamRegion} {w : StreamWrite} (hw : s.tap.held = some w) (hr : streamRegion s = some r)
    (ha : assembled s = true) (h : r.size < w.newCursor - s.tap.floor ∨ s.tap.stopHold = true) : retestHeld s = s := by
  rw [retestHeld, hw, hr]
  refine if_pos ?_
  rcases h with h | h <;> simp [ha, h, overwrites]

theorem retestHeld_releases {s : State} {r : StreamRegion} {w : StreamWrite} (hw : s.tap.held = some w) (hr : streamRegion s = some r)
    (h : assembled s = false ∨ (w.newCursor - s.tap.floor ≤ r.size ∧ s.tap.stopHold = false)) :
    retestHeld s = advanceCursor w (unheld s) := by
  have released : releaseHeld s = advanceCursor w (unheld s) := by simp [releaseHeld, hw, unheld]
  rw [retestHeld, hw, hr, ← released]
  refine if_neg ?_
  rcases h with h | ⟨hfit, hstop⟩
  · simp [h]
  · simp [hstop, overwrites, hfit]

theorem advanceCursor_assembled {w : StreamWrite} {s : State} (ha : assembled s = true) :
    advanceCursor w s = overrunEndTest (cursorMoved w s) := by
  rw [advanceCursor_eq, recomputeFloor_of_assembled ((assembled_cursorMoved w s).trans ha)]

/-- A cause that is absent stays absent over a forwarded write (R14). -/
theorem causePresent_advanceCursor {w : StreamWrite} {s : State} (h : causePresent s .streamOverrun = false) :
    causePresent (advanceCursor w s) .streamOverrun = false := by
  have kept : causePresent (recomputeFloor (cursorMoved w s)) .streamOverrun = false := by
    have conditions : (recomputeFloor (cursorMoved w s)).control.conditions = s.control.conditions := by
      rw [recomputeFloor_control]
      exact conditions_gapEvent w s
    rw [causePresent, condState_congr conditions]
    exact h
  rw [advanceCursor_eq, overrunEndTest]
  split
  · exact kept
  · split
    · exact causePresent_endCause _ _
    · exact kept

/-- A held write has been let go and forwarded from `s` to `t`, with floor coming to `f` (R12, R15). -/
structure HeldReleased (w : StreamWrite) (f : Nat) (s t : State) : Prop where
  parts : changesOnly [.tap, .path, .control] s t
  path : t.path = { s.path with
    queue := s.path.queue.map fun e => { e with progress := if e.progress = .held then .waiting else e.progress } }
  held : t.tap.held = none
  stopHold : t.tap.stopHold = false
  cursor : t.tap.cursor = w.newCursor
  ship : t.tap.ship = t.tap.floor
  floor : t.tap.floor = f
  entries : t.tap.entries = s.tap.entries.filter fun e => f ≤ e.pos

theorem changesOnly_released (w : StreamWrite) (s : State) : changesOnly [.tap, .path, .control] s (advanceCursor w (unheld s)) :=
  changesOnly_trans (changesOnly_mono (by simp) (changesOnly_unheld s)) (changesOnly_mono (by simp) (changesOnly_advanceCursor w _))

theorem path_released (w : StreamWrite) (s : State) : (advanceCursor w (unheld s)).path = { s.path with
    queue := s.path.queue.map fun e => { e with progress := if e.progress = .held then .waiting else e.progress } } :=
  (changesOnly_advanceCursor w (unheld s) .path (by simp)).trans (forwardHeld_path _)

/-- While a clip is assembled a released write moves cursor alone (R7, R9, R12). -/
theorem heldReleased_assembled {w : StreamWrite} {s : State} (ha : assembled s = true) (hship : s.tap.ship = s.tap.floor)
    (hentries : ∀ e ∈ s.tap.entries, s.tap.floor ≤ e.pos) : HeldReleased w s.tap.floor s (advanceCursor w (unheld s)) := by
  have e : (advanceCursor w (unheld s)).tap = (cursorMoved w (unheld s)).tap := by
    rw [advanceCursor_assembled (s := unheld s) ha, overrunEndTest_tap]
  refine ⟨changesOnly_released w s, path_released w s, by rw [e]; rfl, by rw [e]; rfl, by rw [e]; rfl, by rw [e]; exact hship,
    by rw [e]; rfl, ?_⟩
  rw [e]
  exact (List.filter_eq_self.mpr fun x hx => decide_eq_true (hentries x hx)).symm

/-- With no clip assembled floor and ship follow a released write (R4, R12). -/
theorem heldReleased_resting {r : StreamRegion} {w : StreamWrite} {s : State} (hr : streamRegion s = some r)
    (ha : assembled s = false) :
    HeldReleased w (max s.tap.floor (w.newCursor - retainedSpan s.clip.state r)) s (advanceCursor w (unheld s)) := by
  have moved := advanceCursor_resting (r := r) (w := w) (s := unheld s) hr ha
  refine ⟨changesOnly_released w s, path_released w s, moved.held, ?_, moved.cursor, moved.ship, moved.floor, ?_⟩
  · rw [advanceCursor_eq, overrunEndTest_tap, recomputeFloor_tap]
    rfl
  · rw [moved.entries, moved.floor]
    rfl

/-! ### The advance of ship in its cases (R5, R12, R14, R15) -/

theorem endCause_control (c : Condition) (s : State) : (endCause c s).control = { s.control with
    conditions := (endCause c s).control.conditions } := rfl

/-- Ship has advanced to `e` from `s` to `t`, and no write has been let go (R5, R14). -/
structure ShipAdvanced (e : Nat) (s t : State) : Prop where
  parts : changesOnly [.clip, .tap, .control] s t
  tap : t.tap = shippedTap e s.tap
  clip : t.clip = indexedClip e s.tap s.clip
  control : t.control = { s.control with conditions := t.control.conditions }
  conditions : ∀ c, c ≠ .streamOverrun → condState t c = condState s c
  less : ∀ r, streamRegion s = some r → 2 * (s.tap.cursor - e) < r.size → causePresent t .streamOverrun = false

theorem shipAdvanced_shipMoved (e : Nat) (s : State) : ShipAdvanced e s (shipMoved e s) :=
  ⟨changesOnly_shipMoved e s, shipMoved_tap e s, shipMoved_clip e s, shipMoved_control e s, fun _ h => condState_shipMoved h e s,
    fun _ hr h => causePresent_shipMoved hr h⟩

/-- The end of assembly ends the cause too (R14). -/
theorem shipAdvanced_endCause (e : Nat) (s : State) : ShipAdvanced e s (endCause .streamOverrun (shipMoved e s)) := by
  refine ⟨changesOnly_trans (changesOnly_shipMoved e s) (changesOnly_mono (by simp) (changesOnly_endCause _ _)),
    ?_, ?_, ?_, fun c h => ?_, fun _ _ _ => causePresent_endCause _ _⟩
  · rw [endCause_tap, shipMoved_tap]
  · rw [endCause_clip, shipMoved_clip]
  · rw [endCause_control, shipMoved_control]
  · rw [condState_endCause_other _ h, condState_shipMoved h]

section

variable {e : Nat} {s : State} (ha : assembled s = true) (hship : s.tap.ship < e)

include ha hship

theorem reportShipped_of_unheld (hheld : s.tap.held = none) : ShipAdvanced e s (reportShipped e s) ∧
    (¬(s.clip.state = .recording ∨ e < s.clip.stopPos) → causePresent (reportShipped e s) .streamOverrun = false) := by
  have held : (shipMoved e s).tap.held = none := by rw [shipMoved_tap]; exact hheld
  rw [reportShipped_ahead ha hship, ← assembled_shipMoved ha]
  split
  · rename_i hon
    rw [retestHeld_of_unheld held]
    exact ⟨shipAdvanced_shipMoved e s, fun hn => absurd hon hn⟩
  · rw [assemblyEnded_of_unheld held]
    exact ⟨shipAdvanced_endCause e s, fun _ => causePresent_endCause _ _⟩

variable {r : StreamRegion} {w : StreamWrite} (hw : s.tap.held = some w) (hr : streamRegion s = some r)

include hw hr

theorem reportShipped_stays (hon : s.clip.state = .recording ∨ e < s.clip.stopPos)
    (h : ¬w.newCursor - e ≤ r.size ∨ s.tap.stopHold = true) : ShipAdvanced e s (reportShipped e s) := by
  have goes := (assembled_shipMoved ha).mpr hon
  rw [reportShipped_ahead ha hship, if_pos goes, retestHeld_stays (w := w) (r := r) ?_ ?_ goes ?_]
  · exact shipAdvanced_shipMoved e s
  · rw [shipMoved_tap]
    exact hw
  · rw [streamRegion_shipMoved, hr]
  · rw [shipMoved_tap]
    exact h.imp_left not_le.mp

/-- A held write that fits is released while assembly goes on (R12). -/
theorem reportShipped_fits (hon : s.clip.state = .recording ∨ e < s.clip.stopPos) (hfit : w.newCursor - e ≤ r.size)
    (hstop : s.tap.stopHold = false) : HeldReleased w e (shipMoved e s) (reportShipped e s) := by
  have goes := (assembled_shipMoved ha).mpr hon
  have tap := shipMoved_tap e s
  rw [reportShipped_ahead ha hship, if_pos goes, retestHeld_releases (w := w) (r := r) (by rw [tap]; exact hw)
    (by rw [streamRegion_shipMoved, hr]) (.inr ⟨by rw [tap]; exact hfit, by rw [tap]; exact hstop⟩)]
  have released := heldReleased_assembled (w := w) goes (by rw [tap]; rfl) (by
    rw [tap]
    exact fun x hx => of_decide_eq_true (List.mem_filter.mp hx).2)
  rwa [tap] at released

/-- At the end of assembly a held write is released, and the cause has ended (R5, R12, R14). -/
theorem reportShipped_ends (hend : ¬(s.clip.state = .recording ∨ e < s.clip.stopPos)) :
    HeldReleased w (max e (w.newCursor - r.prerecordBytes)) (endCause .streamOverrun (shipMoved e s)) (reportShipped e s) ∧
      causePresent (reportShipped e s) .streamOverrun = false := by
  have stops : assembled (shipMoved e s) = false := by
    rw [← Bool.not_eq_true, assembled_shipMoved ha]
    exact hend
  have stops' : assembled (endCause .streamOverrun (shipMoved e s)) = false := by
    rw [assembled, endCause_clip, endCause_tap]
    exact stops
  have tap : (endCause .streamOverrun (shipMoved e s)).tap = shippedTap e s.tap := (endCause_tap _ _).trans (shipMoved_tap e s)
  have region : streamRegion (endCause .streamOverrun (shipMoved e s)) = some r := by
    rw [← hr, ← streamRegion_shipMoved e s]
    exact streamRegion_congr (congrArg Path.regions (endCause_path _ _))
  have span : retainedSpan (endCause .streamOverrun (shipMoved e s)).clip.state r = r.prerecordBytes := by
    have stopping : s.clip.state = .stopping :=
      (((assembled_iff s).mp ha).resolve_left fun h => hend (.inl h)).1
    rw [endCause_clip, shipMoved_clip, show (indexedClip e s.tap s.clip).state = s.clip.state from rfl, stopping]
    rfl
  rw [reportShipped_ahead ha hship, if_neg (by simp [stops]), assemblyEnded,
    retestHeld_releases (w := w) (r := r) (by rw [tap]; exact hw) region (.inl stops')]
  have released := heldReleased_resting (w := w) region stops'
  rw [tap, span] at released
  exact ⟨released, causePresent_advanceCursor (causePresent_endCause _ (shipMoved e s))⟩

/-- A held write is released once it fits, or once assembly has ended (R12, R15). -/
theorem reportShipped_releases
    (h : (s.clip.state = .recording ∨ e < s.clip.stopPos) ∧ w.newCursor - e ≤ r.size ∧ s.tap.stopHold = false ∨
      ¬(s.clip.state = .recording ∨ e < s.clip.stopPos)) :
    ∃ v f, ShipAdvanced e s v ∧ HeldReleased w f v (reportShipped e s) ∧
      f = (if s.clip.state = .recording ∨ e < s.clip.stopPos then e else max e (w.newCursor - r.prerecordBytes)) ∧
      (¬(s.clip.state = .recording ∨ e < s.clip.stopPos) → causePresent (reportShipped e s) .streamOverrun = false) := by
  rcases h with ⟨hon, hfit, hstop⟩ | hend
  · exact ⟨_, e, shipAdvanced_shipMoved e s, reportShipped_fits ha hship hw hr hon hfit hstop, (if_pos hon).symm,
      fun hn => absurd hon hn⟩
  · obtain ⟨released, absent⟩ := reportShipped_ends ha hship hw hr hend
    exact ⟨_, _, shipAdvanced_endCause e s, released, (if_neg hend).symm, fun _ => absent⟩

end

/-! ### Payload reads return (R5, R33, R34) -/

theorem exec_videoReturn {data : List Byte} {s : State} {x : Transaction} {start stop skip : Nat}
    (h : returns s ⟨x, .video start stop skip⟩) (hlen : data.length = x.len) :
    exec (.videoPayloadReadReturn data) s = .next (videoReturn data start stop skip (afterReturn s)) := by
  refine (act_of_running (videoPayloadReadReturn data) h.1).trans ?_
  unfold videoPayloadReadReturn
  rw [nextCompletion_of_returns h]
  exact congrArg _ (if_pos hlen)

theorem exec_audioReturn {data : List Byte} {s : State} {x : Transaction} {slot base next returned : Nat}
    (h : returns s ⟨x, .audioPayload⟩) (hlen : data.length = x.len) (hrun : s.clip.run = .audio slot base next returned) :
    exec (.audioPayloadReadReturn data) s = .next ((afterReturn s).setClip (layPayload data { s.clip with
      run := if returned + 1 < 96 then .audio slot base next (returned + 1) else .none })) := by
  refine (act_of_running (audioPayloadReadReturn data) h.1).trans ?_
  unfold audioPayloadReadReturn
  rw [nextCompletion_of_returns h]
  dsimp only
  rw [if_pos hlen, show (afterReturn s).clip = s.clip from rfl, hrun]
  rfl

theorem indexedClip_lay (e : Nat) (t : Tap) (c : Clip) : indexedClip e t (lay c) = { lay c with
    index := c.index ++ t.entries.filter fun x => x.pos < e
    videoStamp := ((t.entries.filter fun x => x.pos < e).getLast?.map Entry.frame).getD c.videoStamp } := by
  have index : (lay c).index = c.index := by rw [lay_eq]
  have stamp : (lay c).videoStamp = c.videoStamp := by rw [lay_eq]
  rw [indexedClip, index, stamp]

/-- The part once the bytes of a returned VIDEO range are laid (R33, R36). -/
def videoLaid (data : List Byte) (start stop skip next last : Nat) (s : State) : State :=
  (afterReturn s).setClip (lay { s.clip with
    lay := s.clip.lay ++ [⟨false, (data.drop skip).take (stop - start)⟩]
    run := if stop < last then .video next stop last else .none })

theorem videoReturn_afterReturn {data : List Byte} {start stop skip next back last : Nat} {s : State}
    (hrun : s.clip.run = .video next back last) :
    videoReturn data start stop skip (afterReturn s) = reportShipped stop (videoLaid data start stop skip next last s) := by
  rw [videoReturn_eq, show (afterReturn s).clip = s.clip from rfl, hrun]
  rfl

theorem changesOnly_videoLaid (data : List Byte) (start stop skip next last : Nat) (s : State) :
    changesOnly [.clip] (afterReturn s) (videoLaid data start stop skip next last s) := changesOnly_setClip _ _

/-- Settles O49: the bytes are laid, and the range is then reported to the Stream Tap, with each case of the re-test (R5, R12, R15). -/
theorem payloadReturnsAreLaidAndShipped : Obligations.PayloadReturnsAreLaidAndShipped := by
  refine fun data s => ⟨fun x start stop skip next last hret hlen hrun => ?_,
    fun x slot base next returned hret hlen hrun => exec_audioReturn hret hlen hrun⟩
  intro laid moved indexed shipped live goesOn
  have ret := (exec_videoReturn hret hlen).trans (congrArg _ (videoReturn_afterReturn hrun))
  generalize hu : videoLaid data start stop skip next last s = u at ret
  have parts : changesOnly [.clip] (afterReturn s) u := by rw [← hu]; exact changesOnly_videoLaid _ _ _ _ _ _ s
  have tap : u.tap = s.tap := parts .tap (by simp)
  have control : u.control = s.control := parts .control (by simp)
  have path : u.path = (afterReturn s).path := parts .path (by simp)
  have clip : indexedClip stop u.tap u.clip = indexed := by rw [tap, ← hu]; exact indexedClip_lay ..
  have state : u.clip.state = s.clip.state := by rw [← hu]; exact lay_state _
  have stopPos : u.clip.stopPos = s.clip.stopPos := by rw [← hu]; exact lay_stopPos _
  have alive : assembled u = true ↔ live := by rw [assembled_iff, state, stopPos, tap]
  have ends : (u.clip.state = .recording ∨ stop < u.clip.stopPos) ↔ goesOn := by rw [state, stopPos]
  have region : streamRegion u = streamRegion s := by
    rw [streamRegion, regions, path]
    rfl
  have conditions : ∀ c, condState u c = condState s c := condState_congr (congrArg Control.conditions control)
  refine ⟨fun hbehind => ?_, fun hlive hship hheld => ?_, fun w r hlive hship hheld hr => ⟨fun hon hstay => ?_, fun hgo => ?_⟩⟩
  · rw [ret, reportShipped_behind (by rw [← Bool.not_eq_true, alive, tap]; exact hbehind), ← hu]
    rfl
  · obtain ⟨advanced, ended⟩ := reportShipped_of_unheld (alive.mpr hlive) (by rw [tap]; exact hship) (by rw [tap]; exact hheld)
    refine ⟨_, ret, changesOnly_trans (changesOnly_mono (by simp) parts) advanced.parts, ?_, ?_, ?_, fun c hc => ?_, fun r hr hless => ?_,
      fun hend => ended (ends.not.mpr hend)⟩
    · rw [advanced.tap, tap]
      rfl
    · rw [advanced.clip, clip]
    · rw [← control]
      exact advanced.control
    · rw [advanced.conditions c hc, conditions]
    · exact advanced.less r (region.trans hr) (by rw [tap]; exact hless)
  · have advanced := reportShipped_stays (alive.mpr hlive) (by rw [tap]; exact hship) (by rw [tap]; exact hheld) (region.trans hr)
      (ends.mpr hon) (by rw [tap]; exact hstay)
    refine ⟨_, ret, changesOnly_trans (changesOnly_mono (by simp) parts) advanced.parts, ?_, ?_⟩
    · rw [advanced.tap, tap]
      rfl
    · rw [advanced.clip, clip]
  · obtain ⟨v, f, advanced, released, hf, ended⟩ := reportShipped_releases (alive.mpr hlive) (by rw [tap]; exact hship)
      (by rw [tap]; exact hheld) (region.trans hr) (by rw [ends, tap]; exact hgo)
    have vtap : v.tap = shipped := by
      rw [advanced.tap, tap]
      rfl
    have vpath : v.path = (afterReturn s).path := (advanced.parts .path (by simp)).trans path
    have floor : (reportShipped stop u).tap.floor = f := released.floor
    refine ⟨_, ret, ?_, ?_, ?_, released.held, released.stopHold, released.cursor, released.ship, ?_, ?_,
      fun hend => ended (ends.not.mpr hend)⟩
    · exact changesOnly_trans (changesOnly_trans (changesOnly_mono (by simp) parts) (changesOnly_mono (by simp) advanced.parts))
        (changesOnly_mono (by simp) released.parts)
    · rw [released.parts .clip (by simp), advanced.clip, clip]
    · rw [released.path, vpath]
      rfl
    · rw [floor, hf, state, stopPos]
    · have above : stop ≤ f := by
        rw [hf]
        split
        · exact le_rfl
        · exact le_max_left _ _
      rw [released.entries, vtap, floor, List.filter_filter]
      refine List.filter_congr fun e _ => ?_
      by_cases he : f ≤ e.pos
      · simp [he, above.trans he]
      · simp [he]

end Sys2Proof.Machine

namespace Sys2Proof.Machine

/-! ### The kinds that the Region Table holds (R74) -/

theorem mem_regions {s : State} {r : Region} : r ∈ regions s ↔ ∃ i, i < 8 ∧ s.path.regions[i]? = some (some r) := by
  rw [regions, List.mem_filterMap]
  constructor
  · rintro ⟨o, ho, rfl⟩
    obtain ⟨i, hi, e⟩ := List.mem_iff_getElem.mp ho
    have hi8 : i < 8 := by simpa using hi
    exact ⟨i, hi8, by rw [Vector.getElem?_eq_getElem hi8, ← e]; rfl⟩
  · rintro ⟨i, hi, e⟩
    exact ⟨some r, Vector.mem_toList_iff.mpr (Vector.mem_of_getElem? e), rfl⟩

/-- A table holds no region of a kind number (R74). -/
def lacksKind (s : State) (n : Nat) : Prop := ∀ r ∈ regions s, kindNumber r.kind ≠ n

theorem kindFree_iff (s : State) (k : RegionKind) : kindFree s k = true ↔ lacksKind s (kindNumber k) := by
  simp [kindFree, lacksKind]

theorem streamRegion_eq_none_iff (s : State) : streamRegion s = none ↔ lacksKind s 1 := by
  rw [streamRegion, List.findSome?_eq_none_iff]
  refine forall₂_congr fun r _ => ⟨fun h => ?_, asStream_eq_none⟩
  rcases r with ⟨base, size, _ | _ | _ | _ | _⟩ <;> simp [kindNumber, Region.asStream] at h ⊢

theorem indexRegion_eq_none_iff (s : State) : indexRegion s = none ↔ lacksKind s 2 := by
  rw [indexRegion, List.findSome?_eq_none_iff]
  refine forall₂_congr fun r _ => ?_
  rcases r with ⟨base, size, _ | _ | _ | _ | _⟩ <;> simp [kindNumber]

theorem aliasRegion_eq_none_iff (s : State) : aliasRegion s = none ↔ lacksKind s 4 := by
  rw [aliasRegion, List.findSome?_eq_none_iff]
  refine forall₂_congr fun r _ => ?_
  rcases r with ⟨base, size, _ | _ | _ | _ | _⟩ <;> simp [kindNumber, Region.asAlias]

theorem audioRegion_eq_none_iff (s : State) : audioRegion s = none ↔ lacksKind s 5 := by
  rw [audioRegion, List.findSome?_eq_none_iff]
  refine forall₂_congr fun r _ => ?_
  rcases r with ⟨base, size, _ | _ | _ | _ | _⟩ <;> simp [kindNumber]

theorem frameRegion_eq_none_iff (s : State) : frameRegion s = none ↔ lacksKind s 3 := by
  rw [frameRegion, frameRegionOf, List.findSome?_eq_none_iff]
  constructor
  · intro h r hr
    obtain ⟨i, hi, e⟩ := mem_regions.mp hr
    have none_here := h i (List.mem_range.mpr hi)
    rw [e] at none_here
    rcases r with ⟨base, size, _ | _ | _ | _ | _⟩ <;> simp [kindNumber] at none_here ⊢
  · intro h i hi
    split
    · rename_i base size n bpp w hh st e
      exact absurd rfl (h _ (mem_regions.mpr ⟨i, List.mem_range.mp hi, e⟩))
    · rfl

/-! ### SET_REGION in its two outcomes (R74) -/

theorem rangeGood_iff (s : State) (base size : Nat) : rangeGood s base size = true ↔
    base % 4096 = 0 ∧ size % 4096 = 0 ∧ 4096 ≤ size ∧ base + size ≤ controlPage s ∧
      ∀ r ∈ regions s, base + size ≤ r.base ∨ r.base + r.size ≤ base := by
  have apart : ∀ r : Region, (!rangesOverlap base size r.base r.size) = true ↔
      base + size ≤ r.base ∨ r.base + r.size ≤ base := fun r => by
    simp only [rangesOverlap, Bool.not_eq_true', Bool.and_eq_false_iff, decide_eq_false_iff_not, not_lt]
    exact or_comm
  simp only [rangeGood, Bool.and_eq_true, beq_iff_eq, decide_eq_true_eq, List.all_eq_true, apart, and_assoc]

theorem setRecord_eq {s : State} {record : Nat} (h : record < 8) (r : Option Region) :
    setRecord ⟨record, h⟩ r s = s.setPath { s.path with regions := withRecord s record r } := by
  have same : s.path.regions.set record r h = s.path.regions.setIfInBounds record r := by
    ext i hi : 1
    rw [Vector.getElem_set, Vector.getElem_setIfInBounds]
  rw [withRecord, ← same]
  rfl

/-- Every check passes: the record is filled and the owner is told (R74). -/
theorem setRegionBody_enters {s : State} {record : Byte} {base size : Word32} {spec : RegionSpec} {k : RegionKind}
    (hk : kindOf s size.toNat spec = some k) (hfit : regionFits s record.toNat base.toNat size.toNat)
    (hfree : lacksKind s (kindNumber k)) : setRegionBody record base size spec s =
      (regionSet size.toNat k (s.setPath { s.path with
        regions := withRecord s record.toNat (some ⟨base.toNat, size.toNat, k⟩) }), .ok) := by
  obtain ⟨⟨hrec, hempty⟩, range⟩ := hfit
  rw [setRegionBody, dif_pos hrec, hempty, hk]
  dsimp only
  rw [if_pos (Bool.and_eq_true_iff.mpr ⟨(rangeGood_iff _ _ _).mpr range, (kindFree_iff s k).mpr hfree⟩), setRecord_eq]

/-- A check fails: nothing changes (R74). -/
theorem setRegionBody_refuses {s : State} {record : Byte} {base size : Word32} {spec : RegionSpec}
    (h : ¬regionFits s record.toNat base.toNat size.toNat ∨ ∀ k, kindOf s size.toNat spec = some k → ¬lacksKind s (kindNumber k)) :
    setRegionBody record base size spec s = (s, .badArg) := by
  rw [setRegionBody]
  split
  · rename_i hrec
    split
    · rename_i k hempty hk
      refine if_neg fun hgood => ?_
      obtain ⟨range, free⟩ := Bool.and_eq_true_iff.mp hgood
      rcases h with h | h
      · exact h ⟨⟨hrec, hempty⟩, (rangeGood_iff _ _ _).mp range⟩
      · exact h k hk ((kindFree_iff s k).mp free)
    · rfl
  · rfl

theorem completesWith_setRegion {h : EntryHead} {s u : State} {r : Result} {record : Byte} {base size : Word32} {spec : RegionSpec}
    (hret : entryReturns s) (hwf : spec.wellFormed = true) (hb : setRegionBody record base size spec (afterReturn s) = (u, r)) :
    completesWith (.setRegion h record base size spec) s r u := by
  refine completesWith_of_body hret ?_ hb
  show execSetRegion h record base size spec s = _
  rw [execSetRegion, hwf]
  rfl

/-- A command whose checks fail is refused with BAD_ARG (R74). -/
theorem refuses_setRegion {h : EntryHead} {s : State} {record : Byte} {base size : Word32} {spec : RegionSpec}
    (hret : entryReturns s) (hwf : spec.wellFormed = true)
    (hbad : ¬regionFits s record.toNat base.toNat size.toNat ∨
      ∀ k, kindOf s size.toNat spec = some k → ¬lacksKind s (kindNumber k)) :
    completesWith (.setRegion h record base size spec) s .badArg (afterReturn s) :=
  completesWith_setRegion hret hwf (setRegionBody_refuses (s := afterReturn s) hbad)

/-- A command whose checks pass fills its record and tells the owner (R74). -/
theorem enters_setRegion {h : EntryHead} {s : State} {record : Byte} {base size : Word32} {spec : RegionSpec} {k : RegionKind}
    (hret : entryReturns s) (hwf : spec.wellFormed = true) (hk : kindOf s size.toNat spec = some k)
    (hfit : regionFits s record.toNat base.toNat size.toNat) (hfree : lacksKind s (kindNumber k)) :
    completesWith (.setRegion h record base size spec) s .ok (regionSet size.toNat k ((afterReturn s).setPath { (afterReturn s).path with
      regions := withRecord s record.toNat (some ⟨base.toNat, size.toNat, k⟩) })) :=
  completesWith_setRegion hret hwf (setRegionBody_enters (s := afterReturn s) hk hfit hfree)

/-! ### The parameters of each kind (R1, R106, R107, R153) -/

theorem streamKind_eq {size : Nat} {p l : Word32} {hold : Word16} {late limit : Nat}
    (hlate : late = (if l = 0xFFFFFFFF then 65536 else l.toNat)) (hlimit : limit = (if hold = 0xFFFF then 63 else hold.toNat)) :
    streamKind size p l hold =
      if 1048576 ≤ size ∧ size ≤ 268435456 ∧ p.toNat + 65536 ≤ size ∧ late ≤ 1048576 ∧ limit ≤ 255 then
        some (.stream p.toNat late limit) else none := by
  have e : streamKind size p l hold =
      if 1048576 ≤ size ∧ size ≤ 268435456 ∧ p.toNat ≤ size - 65536 ∧ late ≤ 1048576 ∧ limit ≤ 255 then
        some (.stream p.toNat late limit) else none := by
    rw [hlate, hlimit]
    rfl
  rw [e]
  exact if_congr (by omega) rfl rfl

theorem audioKind_eq (size : Nat) : audioKind size =
    if size % 12288 = 0 ∧ 12288 ≤ size ∧ size ≤ 512 * 12288 then some .audio else none := by
  simp only [audioKind, Config.blockBytes, Config.maxBlockSlots]
  exact if_congr (by omega) rfl rfl

theorem frameKind_eq (size : Nat) (n bpp : Byte) (w hh : Word16) (stride : Word32) : frameKind size n bpp w hh stride =
    if 2 ≤ n.toNat ∧ n.toNat ≤ 4 ∧ (bpp.toNat = 1 ∨ bpp.toNat = 2 ∨ bpp.toNat = 4) ∧ 2 ≤ w.toNat ∧ w.toNat ≤ 16384 ∧
        2 ≤ hh.toNat ∧ hh.toNat ≤ 16384 ∧ 128 ≤ stride.toNat ∧ stride.toNat ≤ 65536 ∧ stride.toNat % 128 = 0 ∧
        w.toNat * bpp.toNat ≤ stride.toNat ∧ size = n.toNat * hh.toNat * stride.toNat then
      some (.frame n.toNat bpp.toNat w.toNat hh.toNat stride.toNat) else none := rfl

/-- A kind that is entered has met its condition. -/
theorem kindOf_of_ite {o : Option RegionKind} {c : Prop} [Decidable c] {k l : RegionKind} (h : o = if c then some l else none)
    (hk : o = some k) : c ∧ l = k := by
  rw [h, Option.ite_none_right_eq_some] at hk
  exact ⟨hk.1, Option.some.inj hk.2⟩

theorem aliasKind_some {s : State} {size : Nat} {frame : Byte} {w hh : Word16} {k : RegionKind} (h : aliasKind s size frame w hh = some k) :
    (∃ f, frameRegion s = some f) ∧ ∃ g, k = .aliasView g := by
  unfold aliasKind at h
  split at h
  · cases h
  · rename_i f hf
    dsimp only at h
    obtain ⟨-, h⟩ := Option.ite_none_right_eq_some.mp h
    exact ⟨⟨f, hf⟩, _, (Option.some.inj h).symm⟩

/-- The margins are half the differences, and the size the span in whole pages (R107). -/
theorem aliasKind_of_fits {s : State} {f : FrameRegion} {size mx my : Nat} {frame : Byte} {w hh : Word16} (hf : frameRegion s = some f)
    (hrecord : f.record = frame.toNat) (hw : 1 ≤ w.toNat) (hmx : w.toNat + 2 * mx = f.wIn) (hmx' : mx ≤ 1023) (hh1 : 1 ≤ hh.toNat)
    (hmy : hh.toNat + 2 * my = f.hIn) (hmy' : my ≤ 1023) (hlow : f.slotCount * (hh.toNat * f.stride) ≤ size)
    (hhigh : size < f.slotCount * (hh.toNat * f.stride) + 4096) (hpage : size % 4096 = 0) : aliasKind s size frame w hh =
      some (.aliasView ⟨f.record, w.toNat, hh.toNat, f.slotCount, f.bpp, f.stride, f.hIn * f.stride, f.base, mx, my, true⟩) := by
  have hx : (f.wIn - w.toNat) / 2 = mx := by omega
  have hy : (f.hIn - hh.toNat) / 2 = my := by omega
  have span : size = roundPage (aliasGeometry f w.toNat hh.toNat).span := by
    show size = roundPage (f.slotCount * (hh.toNat * f.stride))
    rw [roundPage]
    omega
  rw [aliasKind, hf]
  dsimp only
  rw [if_pos ⟨hrecord, hw, by omega, by omega, hx.trans_le hmx', hh1, by omega, by omega, hy.trans_le hmy', span⟩,
    aliasGeometry, hx, hy]

theorem aliasKind_of_unfit {s : State} {f : FrameRegion} {size : Nat} {frame : Byte} {w hh : Word16} (hf : frameRegion s = some f)
    (h : f.record ≠ frame.toNat ∨ w.toNat = 0 ∨ f.wIn < w.toNat ∨ (f.wIn - w.toNat) % 2 = 1 ∨ 2046 < f.wIn - w.toNat ∨
        hh.toNat = 0 ∨ f.hIn < hh.toNat ∨ (f.hIn - hh.toNat) % 2 = 1 ∨ 2046 < f.hIn - hh.toNat ∨
        size < f.slotCount * (hh.toNat * f.stride) ∨ f.slotCount * (hh.toNat * f.stride) + 4096 ≤ size) :
    aliasKind s size frame w hh = none := by
  rw [aliasKind, hf]
  refine if_neg fun hgood => ?_
  obtain ⟨hrecord, hw, hwin, hwodd, hmx, hh1, hhin, hhodd, hmy, hspan⟩ := hgood
  have hspan : size = (f.slotCount * (hh.toNat * f.stride) + 4095) / 4096 * 4096 := hspan
  have hmx : (f.wIn - w.toNat) / 2 ≤ 1023 := hmx
  have hmy : (f.hIn - hh.toNat) / 2 ≤ 1023 := hmy
  omega

/-! ### SET_REGION by kind -/

theorem changesOnly_setPath (v : Path) (s : State) : changesOnly [.path] s (s.setPath v) := by
  intro p hp
  cases p <;> simp [Part.same] at hp ⊢

/-- Settles O18: a command with a failed check is refused, and one whose checks pass fills its record and tells its owner. -/
theorem setRegionEntersOrRefuses : Obligations.SetRegionEntersOrRefuses := by
  constructor
  · intro h record base size s hret
    refine ⟨fun spec hwf hno => refuses_setRegion hret hwf (.inl hno),
      fun kind hwf => refuses_setRegion hret hwf (.inr fun k hk => by cases hk),
      fun p l hold late limit hlate hlimit => ⟨fun hbad => ?_, fun hgood hfit hfree => ?_⟩, fun hbad => ?_,
      fun n bpp w hh stride hbad => ?_, fun hbad => ?_, fun frame w hh hbad => ?_, fun hfit hfree => ?_,
      fun n bpp w hh stride hgood hfit hfree => ?_,
      fun hmod hlow hhigh hfit hfree => ?_⟩
    · refine refuses_setRegion hret rfl (.inr fun k hk hfree => ?_)
      obtain ⟨hgood, rfl⟩ := kindOf_of_ite (streamKind_eq hlate hlimit) hk
      exact hbad.elim (absurd hgood) fun hn => hn ((streamRegion_eq_none_iff s).mpr hfree)
    · have hk := (streamKind_eq hlate hlimit).trans (if_pos hgood)
      exact ⟨_, enters_setRegion (spec := .stream p l hold) hret rfl hk hfit ((streamRegion_eq_none_iff s).mp hfree),
        changesOnly_trans (changesOnly_mono (by simp) (changesOnly_setPath _ _)) (changesOnly_mono (by simp) (changesOnly_setTap _ _)),
        rfl, rfl⟩
    · refine refuses_setRegion hret rfl (.inr fun k hk hfree => ?_)
      cases hk
      exact hbad ((indexRegion_eq_none_iff s).mpr hfree)
    · refine refuses_setRegion hret rfl (.inr fun k hk hfree => ?_)
      obtain ⟨hgood, rfl⟩ := kindOf_of_ite (frameKind_eq _ _ _ _ _ _) hk
      exact hbad.elim (absurd hgood) fun hn => hn ((frameRegion_eq_none_iff s).mpr hfree)
    · refine refuses_setRegion hret rfl (.inr fun k hk hfree => ?_)
      obtain ⟨hgood, rfl⟩ := kindOf_of_ite (audioKind_eq _) hk
      exact hbad.elim (absurd hgood) fun hn => hn ((audioRegion_eq_none_iff s).mpr hfree)
    · refine refuses_setRegion hret rfl (.inr fun k hk hfree => ?_)
      obtain ⟨⟨f, hf⟩, g, rfl⟩ := aliasKind_some hk
      rcases hbad with hn | hn
      · simp [hf] at hn
      · exact hn ((aliasRegion_eq_none_iff s).mpr hfree)
    · exact ⟨_, enters_setRegion (spec := .index) hret rfl rfl hfit ((indexRegion_eq_none_iff s).mp hfree),
        changesOnly_setPath _ _, rfl⟩
    · have hk := (frameKind_eq size.toNat n bpp w hh stride).trans (if_pos hgood)
      refine ⟨_, enters_setRegion (spec := .frame n bpp w hh stride) hret rfl hk hfit ((frameRegion_eq_none_iff s).mp hfree),
        ?_, rfl, rfl, rfl, rfl⟩
      intro p hp
      cases p <;> simp [Part.same, regionSet, zeroShifts] at hp ⊢
    · have hk := (audioKind_eq size.toNat).trans (if_pos ⟨hmod, hlow, hhigh⟩)
      refine ⟨_, enters_setRegion (spec := .audio) hret rfl hk hfit ((audioRegion_eq_none_iff s).mp hfree), ?_, rfl, rfl⟩
      intro p hp
      cases p <;> simp [Part.same, regionSet] at hp ⊢
  · intro h record base size frame w hh s f hret hf
    refine ⟨fun hbad => ?_, fun hrecord mx my hw hmx hmx' hh1 hmy hmy' hlow hhigh hfit hfree => ?_⟩
    · refine refuses_setRegion hret rfl (.inr fun k hk hfree => ?_)
      have unfit : aliasKind s size.toNat frame w hh = none ∨ aliasRegion s ≠ none := by
        by_cases hfree : aliasRegion s ≠ none
        · exact .inr hfree
        · exact .inl (aliasKind_of_unfit hf (by simpa [hfree] using hbad))
      obtain ⟨-, g, rfl⟩ := aliasKind_some hk
      rcases unfit with hn | hn
      · rw [show kindOf s size.toNat (.aliasView frame w hh) = aliasKind s size.toNat frame w hh from rfl, hn] at hk
        cases hk
      · exact hn ((aliasRegion_eq_none_iff s).mpr hfree)
    · have hpage : size.toNat % 4096 = 0 := by
        obtain ⟨-, -, hpage, -⟩ := hfit
        exact hpage
      have hk := aliasKind_of_fits hf hrecord hw hmx hmx' hh1 hmy hmy' hlow hhigh hpage
      refine ⟨_, enters_setRegion (spec := .aliasView frame w hh) hret rfl hk hfit ((aliasRegion_eq_none_iff s).mp hfree),
        ?_, rfl, rfl, rfl⟩
      intro p hp
      cases p <;> simp [Part.same, regionSet, zeroShifts, emptySlots] at hp ⊢

end Sys2Proof.Machine

namespace Sys2Proof.Machine

/-! ### CLEAR_REGION in its outcomes (R75) -/

theorem clearRegionBody_outside {s : State} {record : Byte} (h : 8 ≤ record.toNat) : clearRegionBody record s = (s, .badArg) :=
  dif_neg (by omega)

theorem clearRegionBody_empty {s : State} {record : Byte} (h : record.toNat < 8) (hempty : s.path.regions[record.toNat] = none) :
    clearRegionBody record s = (s, .badArg) := by
  rw [clearRegionBody, dif_pos h, hempty]

theorem clearRegionBody_busy {s : State} {record : Byte} {r : Region} (h : record.toNat < 8) (hr : s.path.regions[record.toNat] = some r)
    (hbusy : s.clip.state ≠ .idle) (hneeds : needsIdle r.kind = true) : clearRegionBody record s = (s, .badState) := by
  rw [clearRegionBody, dif_pos h, hr]
  exact if_pos (by simp [hneeds, hbusy])

theorem clearRegionBody_clears {s : State} {record : Byte} {r : Region} (h : record.toNat < 8) (hr : s.path.regions[record.toNat] = some r)
    (hfree : s.clip.state = .idle ∨ needsIdle r.kind = false) : clearRegionBody record s =
      (regionCleared r.kind (s.setPath { s.path with regions := withRecord s record.toNat none }), .ok) := by
  rw [clearRegionBody, dif_pos h, hr, ← setRecord_eq h]
  refine if_neg ?_
  rcases hfree with hi | hn
  · simp [hi]
  · simp [hn]

/-- The record is emptied and the owner told (R75). -/
theorem clears_clearRegion {h : EntryHead} {s : State} {record : Byte} {base size : Nat} {k : RegionKind} (hret : entryReturns s)
    (hrec : record.toNat < 8) (hr : s.path.regions[record.toNat] = some ⟨base, size, k⟩)
    (hfree : s.clip.state = .idle ∨ needsIdle k = false) : completesWith (.clearRegion h record) s .ok
      (regionCleared k ((afterReturn s).setPath { (afterReturn s).path with regions := withRecord s record.toNat none })) :=
  completesWith_of_body hret rfl (clearRegionBody_clears (s := afterReturn s) hrec hr hfree)

theorem withRecord_getElem {s : State} {record i : Nat} (hi : i < 8) (r : Option Region) :
    (withRecord s record r)[i] = if record = i then r else s.path.regions[i] := Vector.getElem_setIfInBounds hi

theorem bound_unbind {o : Option Region} {r : Region} {g : AliasGeometry} (h : unbind o = some r) (hg : r.asAlias = some g) :
    g.bound = false := by
  unfold unbind at h
  split at h
  · cases h
    cases hg
    rfl
  · rename_i hno
    subst h
    rcases r with ⟨base, size, _ | _ | _ | k | _⟩ <;> simp [Region.asAlias] at hg
    exact absurd rfl (hno base size k)

/-- With every ALIAS region unbound no margins count (R96, R108). -/
theorem margins_of_unbound {s : State} {table : Vector (Option Region) 8} (h : s.path.regions = table.map unbind) : margins s = (0, 0) := by
  unfold margins
  split
  · rename_i g hg
    have unbound : g.bound = false := by
      obtain ⟨r, hr, hg⟩ := List.exists_of_findSome?_eq_some hg
      obtain ⟨i, hi, e⟩ := mem_regions.mp hr
      rw [h, Vector.getElem?_eq_getElem hi, Vector.getElem_map] at e
      exact bound_unbind (Option.some.inj e) hg
    rw [unbound]
    rfl
  · rfl

/-- Settles O19: the command is refused, or the record is emptied and the owner of its kind told. -/
theorem clearRegionEmptiesOrRefuses : Obligations.ClearRegionEmptiesOrRefuses := by
  refine fun h record s hret => ⟨fun hout =>
      completesWith_of_body hret rfl (clearRegionBody_outside (s := afterReturn s) hout),
    fun hrec => ⟨fun hempty => completesWith_of_body hret rfl (clearRegionBody_empty (s := afterReturn s) hrec hempty),
      fun base size k hr => ⟨fun hbusy hkind => ?_, fun p l n hk hidle => ?_, fun hk => ?_,
        fun n p w hh st hk hidle => ?_, fun g hk => ?_, fun hk hidle => ?_⟩⟩⟩
  · refine completesWith_of_body hret rfl (clearRegionBody_busy (s := afterReturn s) hrec hr hbusy ?_)
    rcases hkind with ⟨p, l, n, rfl⟩ | ⟨n, p, w, hh, st, rfl⟩ | rfl <;> rfl
  · subst hk
    exact ⟨_, clears_clearRegion hret hrec hr (.inl hidle),
      changesOnly_trans (changesOnly_mono (by simp) (changesOnly_setPath _ _))
        (changesOnly_mono (by simp) (changesOnly_setTap _ _)), rfl, rfl⟩
  · subst hk
    exact ⟨_, clears_clearRegion hret hrec hr (.inr rfl), changesOnly_setPath _ _, rfl⟩
  · subst hk
    refine ⟨_, clears_clearRegion hret hrec hr (.inl hidle), ?_, rfl, rfl, rfl, margins_of_unbound rfl, rfl, fun i hi => ?_⟩
    · intro p hp
      cases p <;> simp [Part.same, regionCleared, zeroShifts] at hp ⊢
    · have emptied : unbind (withRecord s record.toNat none)[i] = if i = record.toNat then none else unbind s.path.regions[i] := by
        rw [withRecord_getElem hi]
        simp only [eq_comm (a := i)]
        split <;> rfl
      refine (Vector.getElem_map ..).trans (emptied.trans ?_)
      generalize s.path.regions[i] = o
      rcases o with _ | ⟨b, z, _ | _ | _ | _ | _⟩ <;> rfl
  · subst hk
    refine ⟨_, zeroShifts (emptySlots ((afterReturn s).setPath { (afterReturn s).path with regions := withRecord s record.toNat none })),
      clears_clearRegion hret hrec hr (.inr rfl), ?_, rfl, rfl, rfl, rfl⟩
    intro p hp
    cases p <;> simp [Part.same, zeroShifts, emptySlots] at hp ⊢
  · subst hk
    refine ⟨_, clears_clearRegion hret hrec hr (.inl hidle), ?_, rfl, ?_⟩
    · intro p hp
      cases p <;> simp [Part.same, regionCleared] at hp ⊢
    · show dropAudioTable s.audio = _
      rw [dropAudioTable, abandonBlocks_eq]

end Sys2Proof.Machine

namespace Sys2Proof.Machine

/-! ### RESET_N falls (R85) -/

theorem inFlight_abandonInternal (i : Issued) : (if internalDestination i.dest then { i with dest := .ignored } else i) =
    match i.dest with
    | .host n => ⟨i.txn, .host n⟩
    | _ => ⟨i.txn, .ignored⟩ := by
  obtain ⟨txn, dest⟩ := i
  cases dest <;> rfl

theorem resetAssert_path (s : State) : (resetAssert s).path = { s.path with
    resetLow := true, regions := Vector.replicate 8 none, hostGrants := 0, producerCopy := 0, consumerCopy := 0
    queue := s.path.queue.map fun e => { e with progress := if e.progress = .held then .waiting else e.progress }
    inFlight := s.path.inFlight.map fun i =>
      match i.dest with
      | .host n => ⟨i.txn, .host n⟩
      | _ => ⟨i.txn, .ignored⟩ } := by
  have inFlight := List.map_congr_left (l := s.path.inFlight) fun i _ => inFlight_abandonInternal i
  rw [← inFlight]
  unfold resetAssert
  dsimp only [abandonReads, State.setPath_path]
  rw [forwardHeld_path]

theorem exec_resetNAssert {s : State} (h : running s) : exec .resetNAssert s = .next (resetAssert s) := by
  show execResetNAssert s = _
  rw [execResetNAssert, show s.path.resetLow = false from h]
  rfl

/-! ### RESET_N rises (R86) -/

theorem memSizeOf_eq (memtop : BitVec 3) :
    [134217728, 268435456, 536870912, 1073741824, 2147483648, 4294967296, 4294967296, 4294967296][memtop.toNat]? =
      some (memSizeOf memtop) := by
  revert memtop
  decide

/-- The part at the release, before its first writes are presented: straps and inputs are sampled, and the timers run (R68, R86, R137). -/
def released (memtop : BitVec 3) (enc home : Bool) (s : State) : State :=
  { s with
    path := { s.path with resetLow := false, memSize := memSizeOf memtop }
    zoom := firstSamples enc home s.zoom
    cardA := settleAtRelease s.cardA, cardB := settleAtRelease s.cardB
    control := { s.control with statusTimer := true } }

/-- The zero writes of the two part-owned words, in their order (R86). -/
def zeroWrites (s : State) : State := presentWrite (producerWordWrite s 0) (presentWrite (consumerWordWrite s 0) s)

theorem exec_resetNRelease {s : State} (h : s.path.resetLow = true) (memtop : BitVec 3) (enc home : Bool) :
    exec (.resetNRelease memtop enc home) s = .next (requestStatus (zeroWrites (released memtop enc home s))) := by
  show execResetNRelease memtop enc home s = _
  rw [execResetNRelease, h]
  rfl

theorem zeroWrites_writes {s : State} (h : s.control.writes = []) :
    (zeroWrites s).control.writes = [consumerWordWrite s 0, producerWordWrite s 0] := by
  simp [zeroWrites, presentWrite, h]

/-- The first status block waits for no other (R201). -/
theorem requestStatus_zeroWrites {s : State} (h : s.control.writes = []) : requestStatus (zeroWrites s) = takeSnapshot (zeroWrites s) := by
  refine if_neg ?_
  rw [snapshotInProgress, zeroWrites_writes h]
  simp [producerWordWrite]

theorem producerWordWrite_zero (s : State) : producerWordWrite s 0 = ⟨controlPage s + 0xE08,
    [(0, true), (0, true), (0, true), (0, true), (0, false), (0, false), (0, false), (0, false)], .producerWord 0⟩ := rfl

/-- A snapshot presents its four lines behind the writes that wait (R201). -/
theorem takeSnapshot_control (s : State) : ∃ lanes : Nat → List LaneByte, (takeSnapshot s).control = { s.control with
    writeCount := s.control.writeCount + 1
    writes := s.control.writes ++
      (List.range 4).map fun i => ⟨controlPage s + 0xC00 + 128 * i, lanes i, .statusLine⟩ } :=
  ⟨_, rfl⟩

theorem takeSnapshot_zeroWrites {s : State} (h : s.control.writes = []) : ∃ l0 l1 l2 l3,
    (takeSnapshot (zeroWrites s)).control = { s.control with
      writeCount := s.control.writeCount + 1
      writes := [consumerWordWrite s 0, producerWordWrite s 0,
        ⟨controlPage s + 0xC00, l0, .statusLine⟩, ⟨controlPage s + 0xC80, l1, .statusLine⟩,
        ⟨controlPage s + 0xD00, l2, .statusLine⟩, ⟨controlPage s + 0xD80, l3, .statusLine⟩] } := by
  obtain ⟨lanes, control⟩ := takeSnapshot_control (zeroWrites s)
  refine ⟨lanes 0, lanes 1, lanes 2, lanes 3, ?_⟩
  rw [control, zeroWrites_writes h]
  rfl

/-- Settles O3: the edges of RESET_N, with the first writes in the order in which they are presented. -/
theorem resetEdgesActOnEveryBlock : Obligations.ResetEdgesActOnEveryBlock := by
  refine ⟨fun s hrun => ⟨_, exec_resetNAssert hrun, resetAssert_path s,
      rfl, rfl, rfl, rfl, rfl, rfl, rfl, rfl, fun slot => ?_, rfl, rfl⟩,
    fun memtop enc home s hlow hnone => ?_⟩
  · cases slot <;> rfl
  · obtain ⟨l0, l1, l2, l3, control⟩ := takeSnapshot_zeroWrites (s := released memtop enc home s) hnone
    have page : controlPage (released memtop enc home s) = memSizeOf memtop - 4096 := rfl
    refine ⟨_, l0, l1, l2, l3, _, exec_resetNRelease hlow memtop enc home, memSizeOf_eq memtop, ?_⟩
    rw [requestStatus_zeroWrites (s := released memtop enc home s) hnone]
    refine ⟨rfl, ?_, rfl, fun slot => ?_, ?_⟩
    · rw [control, consumerWordWrite_eq, producerWordWrite_zero, page]
      rfl
    · cases slot <;> rfl
    · intro p hp
      cases p with
      | card slot => cases slot <;> simp at hp
      | _ => simp [Part.same, zeroWrites, released] at hp ⊢

end Sys2Proof.Machine

namespace Sys2Proof.Machine

/-! ### A card's link is drained (R69) -/

/-- Nothing of a card has changed but what stands on its link. -/
def linkOnly (c d : Card) : Prop :=
  d = { c with phase := d.phase, statusOut := d.statusOut, issuedOps := d.issuedOps, lastContinue := d.lastContinue }

theorem linkOnly_trans {c d e : Card} (h : linkOnly c d) (k : linkOnly d e) : linkOnly c e := by
  rw [linkOnly] at h k ⊢
  rw [k, h]

theorem linkOnly_continueErase (x : CardSlot) (s : State) : linkOnly (s.card x) ((continueErase x s).card x) := by
  unfold continueErase
  dsimp only
  repeat' split
  all_goals simp [linkOnly]

theorem updateCard_card (x : CardSlot) (f : Card → Card) (s : State) : (updateCard x f s).card x = f (s.card x) :=
  State.setCard_card _ _ _

theorem changesOnly_updateCard (x : CardSlot) (f : Card → Card) (s : State) : changesOnly [.card x] s (updateCard x f s) := by
  intro p hp
  cases p with
  | card y => exact State.setCard_card_other _ _ _ _ fun e => hp (by simp [e])
  | _ => simp [Part.same] at hp ⊢

theorem linkOnly_updateCard {f : Card → Card} (hf : ∀ c, linkOnly c (f c)) (x : CardSlot) (s : State) :
    linkOnly (s.card x) ((updateCard x f s).card x) := by
  rw [updateCard_card]
  exact hf _

theorem linkOnly_drainNext (x : CardSlot) (s : State) : linkOnly (s.card x) ((drainNext x s).card x) := by
  have idle := linkOnly_updateCard (f := fun c => { c with phase := .idle }) (fun _ => rfl) x s
  unfold drainNext
  dsimp only
  split
  · exact linkOnly_trans idle (linkOnly_continueErase x _)
  · exact linkOnly_trans idle (linkOnly_updateCard (f := startIdent) (fun _ => rfl) x _)

theorem changesOnly_drainNext (x : CardSlot) (s : State) : changesOnly [.card x] s (drainNext x s) := by
  unfold drainNext
  dsimp only
  split
  · exact changesOnly_trans (changesOnly_updateCard x _ s) (changesOnly_continueErase x _)
  · exact changesOnly_trans (changesOnly_updateCard x _ s) (changesOnly_updateCard x _ _)

theorem drainCard_keeps (x : CardSlot) (p : CardPhase) (s : State) :
    linkOnly (s.card x) ((drainCard x p s).card x) ∧ changesOnly [.card x] s (drainCard x p s) := by
  have updated : ∀ f : Card → Card, (∀ c, linkOnly c (f c)) →
      linkOnly (s.card x) ((updateCard x f s).card x) ∧ changesOnly [.card x] s (updateCard x f s) := fun f hf =>
    ⟨linkOnly_updateCard hf x s, changesOnly_updateCard x f s⟩
  have same : linkOnly (s.card x) (s.card x) ∧ changesOnly [.card x] s s := ⟨rfl, changesOnly_refl _ s⟩
  unfold drainCard
  split
  · exact updated _ fun _ => rfl
  · exact same
  · exact updated _ fun _ => rfl
  · exact same
  · exact updated _ fun _ => rfl
  · exact same
  · split
    · exact same
    · exact ⟨linkOnly_drainNext x s, changesOnly_drainNext x s⟩
  · obtain ⟨link, parts⟩ := updated (fun c => { c with statusOut := false }) fun _ => rfl
    exact ⟨linkOnly_trans link (linkOnly_drainNext x _), changesOnly_trans parts (changesOnly_drainNext x _)⟩

/-- An idle card without an erase gets its IDENT at once (R69). -/
theorem drainCard_idle {x : CardSlot} {s : State} (h : (s.card x).erase = none) :
    ((drainCard x .idle s).card x).phase = .ident ∧ ((drainCard x .idle s).card x).issuedOps = [.ident] := by
  have resting : eraseRunning (s.card x) = false := by rw [eraseRunning, h]
  have cleared : ((updateCard x (fun c => { c with phase := .idle }) s).card x).erase = none := by rw [updateCard_card]; exact h
  have e : drainCard x .idle s = updateCard x startIdent (updateCard x (fun c => { c with phase := .idle }) s) := by
    rw [drainCard, resting]
    refine (if_neg (by simp)).trans ?_
    rw [drainNext]
    exact if_neg (by simp [cleared])
  rw [e, updateCard_card]
  exact ⟨rfl, rfl⟩

/-! ### A card in a SOFT_RESET (R69) -/

theorem cardCleared_linkOnly {c d : Card} (h : cardCleared c) (k : linkOnly c d) : cardCleared d := by
  rw [linkOnly] at k
  rw [k]
  exact h

theorem cardCleared_clearCard (c : Card) : cardCleared (clearCard c) :=
  ⟨rfl, rfl, rfl, rfl, rfl, rfl, rfl, rfl, rfl, rfl, rfl, rfl, rfl, rfl, rfl, rfl, rfl, rfl, rfl⟩

/-- A card that is cleared and probes, before its link is drained (R69). -/
def probed (x : CardSlot) (s : State) : State :=
  updateCard x (fun d => { d with state := .probing }) ((abandonReads s (· == .card x)).setCard x (clearCard (s.card x)))

theorem probed_card (x : CardSlot) (s : State) : (probed x s).card x = { clearCard (s.card x) with state := .probing } := by
  rw [probed, updateCard_card, State.setCard_card]

theorem softResetCard_cases (x : CardSlot) (s : State) :
    ((s.card x).state = .absent ∨ ((s.card x).state = .asleep ∧ (s.card x).phase ≠ .wake)) ∧
        softResetCard x s = (abandonReads s (· == .card x)).setCard x (clearCard (s.card x)) ∨
      (s.card x).state ≠ .absent ∧ ((s.card x).state = .asleep → (s.card x).phase = .wake) ∧
        softResetCard x s = drainCard x (s.card x).phase (probed x s) := by
  unfold softResetCard
  dsimp only
  split
  · rename_i h
    exact .inl ⟨.inl h, rfl⟩
  · rename_i h
    split
    · rename_i hw
      exact .inr ⟨by simp [h], fun _ => hw, rfl⟩
    · rename_i hw
      exact .inl ⟨.inr ⟨h, hw⟩, rfl⟩
  · rename_i ha hs
    exact .inr ⟨ha, fun h => absurd h hs, rfl⟩

theorem changesOnly_abandonReads (s : State) (lost : Destination → Bool) : changesOnly [.path] s (abandonReads s lost) :=
  changesOnly_setPath _ s

theorem changesOnly_setCard (x : CardSlot) (c : Card) (s : State) : changesOnly [.card x] s (s.setCard x c) :=
  changesOnly_updateCard x (fun _ => c) s

theorem softResetCard_parts (x : CardSlot) (s : State) : changesOnly [.path, .card x] s (softResetCard x s) ∧
    (softResetCard x s).path = (abandonReads s (· == .card x)).path := by
  have cleared : changesOnly [.path, .card x] s ((abandonReads s (· == .card x)).setCard x (clearCard (s.card x))) :=
    changesOnly_trans (changesOnly_mono (by simp) (changesOnly_abandonReads s _)) (changesOnly_mono (by simp) (changesOnly_setCard x _ _))
  rcases softResetCard_cases x s with ⟨-, e⟩ | ⟨-, -, e⟩
  · rw [e]
    exact ⟨cleared, State.setCard_path _ _ _⟩
  · obtain ⟨-, drained⟩ := drainCard_keeps x (s.card x).phase (probed x s)
    rw [e]
    refine ⟨changesOnly_trans cleared (changesOnly_mono (by simp) (changesOnly_trans (changesOnly_updateCard x _ _) drained)), ?_⟩
    exact (drained .path (by simp)).trans ((updateCard_path _ _ _).trans (State.setCard_path _ _ _))

/-- What a SOFT_RESET makes of a card (R69). -/
structure CardReset (c d : Card) : Prop where
  cleared : cardCleared d
  detect : d.detect = c.detect
  settling : d.settling = c.settling
  absent : c.state = .absent → d.state = .absent
  asleep : c.state = .asleep → c.phase ≠ .wake → d.state = .asleep
  probing : c.state ≠ .absent → c.state ≠ .asleep → d.state = .probing ∧
    (c.phase = .idle → c.erase = none → d.phase = .ident ∧ d.issuedOps = [.ident]) ∧ (c.phase = .pageWrite → d.phase = .drainPage)
  waking : c.state = .asleep → c.phase = .wake → d.state = .probing ∧ d.phase = .drainWake

theorem cardReset_softResetCard (x : CardSlot) (s : State) : CardReset (s.card x) ((softResetCard x s).card x) := by
  rcases softResetCard_cases x s with ⟨hstays, e⟩ | ⟨habsent, hwake, e⟩
  · rw [e, State.setCard_card]
    refine ⟨cardCleared_clearCard _, rfl, rfl, fun h => h, fun h _ => h, fun ha hs => ?_, fun h hw => ?_⟩
    · rcases hstays with h | ⟨h, -⟩
      · exact absurd h ha
      · exact absurd h hs
    · rcases hstays with h' | ⟨-, h'⟩
      · rw [h] at h'
        cases h'
      · exact absurd hw h'
  · obtain ⟨link, -⟩ := drainCard_keeps x (s.card x).phase (probed x s)
    rw [e]
    rw [probed_card] at link
    have state : ((drainCard x (s.card x).phase (probed x s)).card x).state = .probing := congrArg Card.state link
    refine ⟨cardCleared_linkOnly (c := { clearCard (s.card x) with state := .probing }) (cardCleared_clearCard (s.card x)) link,
      (congrArg Card.detect link).trans rfl, (congrArg Card.settling link).trans rfl,
      fun h => absurd h habsent, fun h hw => absurd (hwake h) hw, fun _ _ => ⟨state, fun hidle hnone => ?_, fun hpage => ?_⟩,
      fun _ hw => ⟨state, ?_⟩⟩
    · rw [hidle]
      refine drainCard_idle ?_
      rw [probed_card]
      simp [clearCard, orphanErase, clearIdentity, hnone]
    · rw [hpage, drainCard, updateCard_card]
    · rw [hw, drainCard, updateCard_card]

/-! ### The blocks of a SOFT_RESET (R203) -/

/-- The Stream Tap, the assembler and the cards after their part of a SOFT_RESET (R21, R43, R69). -/
def mediaReset (s : State) : State := softResetCard .b (softResetCard .a (softResetClip (softResetTap s)))

/-- The other blocks after their part of a SOFT_RESET (R105, R121, R143, R163, R187, R203). -/
def restReset (s : State) : State :=
  softResetControl (softResetAcc (softResetAudio (softResetZoom (softResetView (softResetMotion s)))))

theorem softReset_eq (s : State) : softReset s = restReset (mediaReset s) := rfl

theorem reports_stops (a b c : Condition) (s : State) :
    reports [.stop a, .stop b, .stop c] s = endCause c (endCause b (endCause a s)) := rfl

theorem changesOnly_restReset (s : State) : changesOnly [.motion, .view, .zoom, .audio, .acc, .control] s (restReset s) := by
  intro p hp
  cases p <;> simp [Part.same, restReset, softResetControl, softResetAcc, softResetAudio, softResetZoom, softResetView, softResetMotion,
    reports_stops] at hp ⊢

theorem restReset_blocks (s : State) : (restReset s).motion = Motion.reset ∧ (restReset s).view = { s.view with aliasWrites := 0 } ∧
    (restReset s).zoom = softResetZoomDrive s.zoom ∧ (restReset s).audio = { Audio.reset with
      role := s.audio.role, enables := s.audio.enables, blocks := s.audio.blocks.map fun _ => .free } ∧
    (restReset s).acc = Acc.reset := by
  simp [restReset, softResetControl, softResetAcc, softResetAudio, softResetZoom, softResetView, softResetMotion, reports_stops]

/-- The causes that end on the way leave no trace in the cleared Condition Set (R203). -/
theorem restReset_control (s : State) : (restReset s).control = { s.control with
    pendingNotices := [], conditions := Vector.replicate 14 .clear } := by
  simp only [restReset, softResetControl, softResetAcc, softResetAudio, softResetZoom, softResetView, softResetMotion, reports_stops,
    endCause, setCondState, State.setControl_control, State.setAcc_control, State.setAudio_control, State.setZoom_control,
    State.setView_control, State.setMotion_control]

theorem softResetZoomDrive_eq (z : Zoom) : softResetZoomDrive z = { z with
    servo := .unhomed, homed := false, pos := 0, level := 0, hostDemand := 0, homingSteps := 0, encoder := 0, override := false
    move := none, homingCmd := none, stopRequest := z.running
    enable := z.running && z.enable, enableOffPending := z.running } := by
  unfold softResetZoomDrive enableOff
  split
  · rename_i h
    have running : z.running = true := h
    simp [requestStop, running]
  · rename_i h
    have stopped : z.running = false := Bool.not_eq_true _ ▸ h
    simp [requestStop, stopped]

theorem changesOnly_softResetClip (s : State) : changesOnly [.path, .clip] s (softResetClip s) :=
  changesOnly_trans (changesOnly_mono (by simp) (changesOnly_abandonReads s isPayload))
    (changesOnly_mono (by simp) (changesOnly_setClip _ _))

theorem changesOnly_softResetTap (s : State) : changesOnly [.path, .tap] s (softResetTap s) :=
  changesOnly_trans (changesOnly_mono (by simp) (changesOnly_setPath _ s)) (changesOnly_mono (by simp) (changesOnly_setTap _ _))

theorem changesOnly_mediaReset (s : State) : changesOnly [.path, .tap, .clip, .card .a, .card .b] s (mediaReset s) := by
  obtain ⟨a, -⟩ := softResetCard_parts .a (softResetClip (softResetTap s))
  obtain ⟨b, -⟩ := softResetCard_parts .b (softResetCard .a (softResetClip (softResetTap s)))
  exact changesOnly_trans (changesOnly_trans (changesOnly_trans (changesOnly_mono (by simp) (changesOnly_softResetTap s))
    (changesOnly_mono (by simp) (changesOnly_softResetClip _))) (changesOnly_mono (by simp) a)) (changesOnly_mono (by simp) b)

theorem mediaReset_tap (s : State) : (mediaReset s).tap = Tap.reset := by
  obtain ⟨a, -⟩ := softResetCard_parts .a (softResetClip (softResetTap s))
  obtain ⟨b, -⟩ := softResetCard_parts .b (softResetCard .a (softResetClip (softResetTap s)))
  exact (b .tap (by simp)).trans (a .tap (by simp))

theorem mediaReset_clip (s : State) : (mediaReset s).clip = (softResetClip (softResetTap s)).clip := by
  obtain ⟨a, -⟩ := softResetCard_parts .a (softResetClip (softResetTap s))
  obtain ⟨b, -⟩ := softResetCard_parts .b (softResetCard .a (softResetClip (softResetTap s)))
  exact (b .clip (by simp)).trans (a .clip (by simp))

theorem cardReset_mediaReset (s : State) (x : CardSlot) : CardReset (s.card x) ((mediaReset s).card x) := by
  obtain ⟨a, -⟩ := softResetCard_parts .a (softResetClip (softResetTap s))
  obtain ⟨b, -⟩ := softResetCard_parts .b (softResetCard .a (softResetClip (softResetTap s)))
  have before : (softResetClip (softResetTap s)).card x = s.card x := by cases x <;> rfl
  rw [← before]
  cases x with
  | a =>
    have kept : (mediaReset s).card .a = (softResetCard .a (softResetClip (softResetTap s))).card .a := b (.card .a) (by simp)
    rw [kept]
    exact cardReset_softResetCard .a _
  | b =>
    have kept : (softResetCard .a (softResetClip (softResetTap s))).card .b = (softResetClip (softResetTap s)).card .b :=
      a (.card .b) (by simp)
    rw [← kept]
    exact cardReset_softResetCard .b _

/-- The completion of a payload read or a descriptor fetch comes back to nothing (R43, R69, R72). -/
theorem abandoned_soft (i : Issued) :
    (fun i : Issued => if i.dest == .card .b then { i with dest := .ignored } else i)
      ((fun i : Issued => if i.dest == .card .a then { i with dest := .ignored } else i)
        (if isPayload i.dest then { i with dest := .ignored } else i)) =
      match i.dest with
      | .video _ _ _ => ⟨i.txn, .ignored⟩
      | .audioPayload => ⟨i.txn, .ignored⟩
      | .card _ => ⟨i.txn, .ignored⟩
      | _ => i := by
  obtain ⟨txn, dest⟩ := i
  cases dest with
  | card x => cases x <;> rfl
  | _ => rfl

theorem mediaReset_path (s : State) : (mediaReset s).path = { s.path with
    queue := s.path.queue.map fun e => if e.progress = .held then { e with progress := .waiting } else e
    inFlight := s.path.inFlight.map fun i => match i.dest with
      | .video _ _ _ => ⟨i.txn, .ignored⟩
      | .audioPayload => ⟨i.txn, .ignored⟩
      | .card _ => ⟨i.txn, .ignored⟩
      | _ => i } := by
  obtain ⟨-, a⟩ := softResetCard_parts .a (softResetClip (softResetTap s))
  obtain ⟨-, b⟩ := softResetCard_parts .b (softResetCard .a (softResetClip (softResetTap s)))
  have inFlight := List.map_congr_left (l := s.path.inFlight) fun i _ => abandoned_soft i
  rw [mediaReset, b, abandonReads, State.setPath_path, a, ← inFlight]
  simp only [abandonReads, softResetClip, softResetTap, forwardHeld, State.setPath_path, State.setClip_path, State.setTap_path,
    List.map_map, Function.comp_def]

/-- Settles O57: the parts of the reset by block, and the answer with the request of a status block. -/
theorem softResetReturnsEveryBlock : Obligations.SoftResetReturnsEveryBlock := by
  intro h s hret
  have row : exec (.softReset h) s = .next (requestStatus (finishCommand .ok (restReset (mediaReset (afterReturn s))))) := by
    show execSoftReset h s = _
    rw [execSoftReset, takeEntry_of_entryReturns hret]
    rfl
  have media := changesOnly_mediaReset (afterReturn s)
  have rest := changesOnly_restReset (mediaReset (afterReturn s))
  have mediaPath := mediaReset_path (afterReturn s)
  have mediaClip := mediaReset_clip (afterReturn s)
  have cards := cardReset_mediaReset (afterReturn s)
  obtain ⟨motion, view, zoom, audio, acc⟩ := restReset_blocks (mediaReset (afterReturn s))
  have control := restReset_control (mediaReset (afterReturn s))
  generalize hm : mediaReset (afterReturn s) = m at *
  generalize hu : restReset m = u at *
  have path : u.path = m.path := rest .path (by simp)
  have tap : m.tap = Tap.reset := by rw [← hm]; exact mediaReset_tap _
  refine ⟨u, row, (rest .now (by simp)).trans (media .now (by simp)), (rest .pending (by simp)).trans (media .pending (by simp)),
    (rest .tap (by simp)).trans tap, (rest .clip (by simp)).trans mediaClip, fun x => ?_, motion, acc, ?_, ?_, ?_, ?_, ?_, ?_, ?_⟩
  · have card : u.card x = m.card x := rest (.card x) (by simp)
    have reset := cards x
    rw [afterReturn_card] at reset
    rw [card]
    exact ⟨reset.cleared, reset.detect, reset.settling, reset.absent, reset.asleep, reset.probing, reset.waking⟩
  · rw [view, media .view (by simp)]
    rfl
  · rw [zoom, media .zoom (by simp), softResetZoomDrive_eq]
    rfl
  · rw [audio, media .audio (by simp), List.map_const']
    rfl
  · rw [control, media .control (by simp)]
    rfl
  · rw [path, mediaPath]
    rfl
  · exact congrArg Path.inFlight (path.trans mediaPath)
  · exact congrArg Path.queue (path.trans mediaPath)

end Sys2Proof.Machine

namespace Sys2Proof.Machine

/-! ### Which internal request is granted (R81, R84) -/

theorem readWaits_iff {s : State} {o : Option ReadRequest} : readWaits s o = true ↔ ∃ r, o = some r ∧ readEligible s r = true := by
  cases o <;> simp [readWaits]

theorem readWaits_eq_false {s : State} {o : Option ReadRequest} : readWaits s o = false ↔ ∀ r, o = some r → readEligible s r = false := by
  cases o <;> simp [readWaits]

section

variable {s : State}

/-- Nothing of rank 2 or 3 waits for a grant: no audio line and no eligible descriptor fetch (R81). -/
def linesAndFetchesQuiet (s : State) : Prop :=
  s.audio.lines = [] ∧ ∀ slot q, (s.card slot).fetchReq = some q → readEligible s q = false

/-- Nothing of rank 2 to 4 waits for a grant (R37, R81). -/
def payloadQuiet (s : State) : Prop :=
  linesAndFetchesQuiet s ∧ ∀ r, s.clip.readReq = some r → readEligible s r = false ∨ assemblerStalled s.clip = true

theorem internalRequest_audio {l : AudioLine} {rest : List AudioLine} (h : s.audio.lines = l :: rest) :
    internalRequest s = some .audioUnit := by simp [internalRequest, h]

theorem internalRequest_card {slot : CardSlot} {r : ReadRequest} (hl : s.audio.lines = []) (hr : (s.card slot).fetchReq = some r)
    (he : readEligible s r = true) (hfirst : slot = .b → ∀ q, s.cardA.fetchReq = some q → readEligible s q = false) :
    internalRequest s = some (.card slot) := by
  have waits : readWaits s (s.card slot).fetchReq = true := readWaits_iff.mpr ⟨r, hr, he⟩
  cases slot with
  | a => simpa [internalRequest, hl] using fun h => absurd waits (by simp [State.card, h])
  | b =>
    have none_a := readWaits_eq_false.mpr (hfirst rfl)
    simpa [internalRequest, hl, none_a] using fun h => absurd waits (by simp [State.card, h])

theorem internalRequest_below_cards (h : linesAndFetchesQuiet s) : internalRequest s =
    if readWaits s s.clip.readReq && !assemblerStalled s.clip then some .clipAssembler
    else if readWaits s s.control.readReq then some .commandReads
    else if !s.control.writes.isEmpty then some .reportWrites
    else none := by
  obtain ⟨hl, hf⟩ := h
  have none_a := readWaits_eq_false.mpr (hf .a)
  have none_b := readWaits_eq_false.mpr (hf .b)
  simp only [State.card] at none_a none_b
  simp [internalRequest, hl, none_a, none_b]

theorem internalRequest_clip {r : ReadRequest} (h : linesAndFetchesQuiet s) (hr : s.clip.readReq = some r)
    (he : readEligible s r = true) (hs : assemblerStalled s.clip = false) : internalRequest s = some .clipAssembler := by
  rw [internalRequest_below_cards h, readWaits_iff.mpr ⟨r, hr, he⟩, hs]
  rfl

theorem internalRequest_below_clip (h : payloadQuiet s) : internalRequest s =
    if readWaits s s.control.readReq then some .commandReads
    else if !s.control.writes.isEmpty then some .reportWrites
    else none := by
  have withheld : (readWaits s s.clip.readReq && !assemblerStalled s.clip) = false := by
    rw [Bool.eq_false_iff, ne_eq, Bool.and_eq_true, readWaits_iff]
    rintro ⟨⟨r, hr, he⟩, hs⟩
    rcases h.2 r hr with hn | hn
    · rw [hn] at he
      cases he
    · simp [hn] at hs
  rw [internalRequest_below_cards h.1, withheld]
  rfl

/-- An internal grant: the fairness count returns to 0 and the requester's transaction is issued (R82, R83). -/
theorem exec_internalGrant {r : Requester} (hrun : running s) (hhost : hostRequest s = none) (hr : internalRequest s = some r) :
    exec .downstreamGrant s = .next (grantInternal r (setHostGrants 0 s)) := by
  have off : s.path.resetLow = false := hrun
  show Host.Outcome.next (grant s) = _
  simp [grant, hhost, hr, off]

theorem exec_idleGrant (hhost : hostRequest s = none) (hr : internalRequest s = none) : exec .downstreamGrant s = .next s := by
  show Host.Outcome.next (grant s) = _
  simp [grant, hhost, hr]

/-! ### What an internal grant issues (R33, R34, R72, R154, R190, R194) -/

/-- The path after an internal grant has issued `x` for the destination `d` (R72, R83). -/
def internalIssued (x : Transaction) (d : Destination) (s : State) : Path :=
  { s.path with hostGrants := 0, inFlight := s.path.inFlight ++ [⟨x, d⟩] }

theorem changesOnly_setPath_setAudio (p : Path) (a : Audio) (s : State) : changesOnly [.path, .audio] s ((s.setPath p).setAudio a) := by
  intro q hq
  cases q <;> simp [Part.same] at hq ⊢

theorem changesOnly_setPath_setCard (p : Path) (x : CardSlot) (c : Card) (s : State) :
    changesOnly [.path, .card x] s ((s.setPath p).setCard x c) :=
  changesOnly_trans (changesOnly_mono (by simp) (changesOnly_setPath p s)) (changesOnly_mono (by simp) (changesOnly_setCard x c _))

theorem changesOnly_setPath_setClip (p : Path) (c : Clip) (s : State) : changesOnly [.path, .clip] s ((s.setPath p).setClip c) := by
  intro q hq
  cases q <;> simp [Part.same] at hq ⊢

theorem changesOnly_setPath_setControl (p : Path) (c : Control) (s : State) :
    changesOnly [.path, .control] s ((s.setPath p).setControl c) := by
  intro q hq
  cases q <;> simp [Part.same] at hq ⊢

/-- The records of the audio blocks once line `l` is granted: the 96th makes its block DONE (R154). -/
theorem grantAudio_eq {l : AudioLine} {rest : List AudioLine} (h : s.audio.lines = l :: rest) :
    grantAudio (setHostGrants 0 s) =
      (s.setPath (internalIssued (.write l.addr (allLanes l.bytes)) .ignored s)).setAudio { s.audio with
        lines := rest
        blocks := if l.line + 1 = 96 then s.audio.blocks.map (blockDone l.number) else s.audio.blocks } := by
  unfold grantAudio
  rw [setHostGrants_audio, h]
  rfl

theorem grantCard_eq {slot : CardSlot} {r : ReadRequest} (h : (s.card slot).fetchReq = some r) :
    grantCard slot (setHostGrants 0 s) =
      (s.setPath (internalIssued (.read r.addr r.len) (.card slot) s)).setCard slot { s.card slot with fetchReq := none } := by
  unfold grantCard
  simp only [setHostGrants_card, h]
  cases slot <;> rfl

theorem grantCommand_eq {r : ReadRequest} (h : s.control.readReq = some r) : grantCommand (setHostGrants 0 s) =
    (s.setPath (internalIssued (.read r.addr r.len) (readDestination s.control.phase) s)).setControl
      { s.control with readReq := none } := by
  unfold grantCommand
  rw [setHostGrants_control, h]
  rfl

/-! ### Payload reads and the reads that follow them (R33, R34, R115) -/

theorem presentClipRead_eq (h : s.clip.readReq = none) : presentClipRead s =
    s.setClip { s.clip with readReq := (nextPayloadRead s).map fun q => presentRead s q.1.addr q.1.len } := by
  unfold presentClipRead
  rw [if_neg (by simp [h])]
  cases nextPayloadRead s with
  | none => rw [Option.map_none, ← h]; rfl
  | some q => rfl

/-- Address of stream position `p` in the ring (R3). -/
def ringAddress (q : StreamRegion) (p : Nat) : Nat := q.base + p % q.size

/-- The bytes that a payload read from position `p` is responsible for: up to the end of its line, of the ring or of the chunk (R33). -/
def videoCount (q : StreamRegion) (p last : Nat) : Nat :=
  min (min (128 - ringAddress q p % 128) (q.size - p % q.size)) (last - p)

/-- The whole beats of the payload read from position `p` (R115). -/
def videoLen (q : StreamRegion) (p last : Nat) : Nat :=
  (ringAddress q p + videoCount q p last + 7) / 8 * 8 - ringAddress q p / 8 * 8

theorem nextPayloadRead_video {next back last : Nat} {q : StreamRegion} (hrun : s.clip.run = .video next back last)
    (hq : streamRegion s = some q) : nextPayloadRead s =
    if next < last then some (.read (ringAddress q next / 8 * 8) (videoLen q next last),
      .video next (next + videoCount q next last) (ringAddress q next % 8)) else none := by
  unfold nextPayloadRead
  rw [hrun, hq]
  rfl

theorem nextPayloadRead_audio {slot base next back : Nat} (hrun : s.clip.run = .audio slot base next back) : nextPayloadRead s =
    if next < 96 then some (.read (base + 128 * next) 128, .audioPayload) else none := by
  unfold nextPayloadRead
  rw [hrun]
  rfl

/-- A payload read has been issued, and the run stands at `run` (R33, R34). -/
def payloadIssued (x : Transaction) (d : Destination) (run : PayloadRun) (s : State) : State :=
  (s.setPath (internalIssued x d s)).setClip { s.clip with readReq := none, run := run }

/-- A payload read is issued and the next one presented, with the host writes WAITING then (R33, R34; log 16). -/
theorem grantClip_eq {x : Transaction} {d : Destination} (h : nextPayloadRead s = some (x, d)) :
    grantClip (setHostGrants 0 s) = presentClipRead (payloadIssued x d (advanceRun d s.clip.run) s) := by
  have hn : nextPayloadRead (setHostGrants 0 s) = some (x, d) := h
  unfold grantClip
  rw [hn]
  rfl

theorem grantClip_video {next back last : Nat} {q : StreamRegion} (hrun : s.clip.run = .video next back last)
    (hq : streamRegion s = some q) (hlt : next < last) :
    grantClip (setHostGrants 0 s) = (s.setPath (internalIssued (.read (ringAddress q next / 8 * 8) (videoLen q next last))
        (.video next (next + videoCount q next last) (ringAddress q next % 8)) s)).setClip { s.clip with
      run := .video (next + videoCount q next last) back last
      readReq := if next + videoCount q next last < last then
        some ⟨ringAddress q (next + videoCount q next last) / 8 * 8, videoLen q (next + videoCount q next last) last, unissuedWrites s⟩
        else none } := by
  have first := nextPayloadRead_video hrun hq
  rw [if_pos hlt] at first
  rw [grantClip_eq first, hrun]
  generalize hu : payloadIssued _ _ _ s = u
  have run : u.clip.run = .video (next + videoCount q next last) back last := by rw [← hu]; rfl
  have region : streamRegion u = some q := by rw [← hu, ← hq]; rfl
  rw [presentClipRead_eq (by rw [← hu]; rfl), nextPayloadRead_video run region]
  split <;> rw [← hu] <;> rfl

theorem grantClip_audio {slot base next back : Nat} (hrun : s.clip.run = .audio slot base next back) (hlt : next < 96) :
    grantClip (setHostGrants 0 s) = (s.setPath (internalIssued (.read (base + 128 * next) 128) .audioPayload s)).setClip { s.clip with
      run := .audio slot base (next + 1) back
      readReq := if next + 1 < 96 then some ⟨base + 128 * (next + 1), 128, unissuedWrites s⟩ else none } := by
  have first := nextPayloadRead_audio hrun
  rw [if_pos hlt] at first
  rw [grantClip_eq first, hrun]
  generalize hu : payloadIssued _ _ _ s = u
  have run : u.clip.run = .audio slot base (next + 1) back := by rw [← hu]; rfl
  rw [presentClipRead_eq (by rw [← hu]; rfl), nextPayloadRead_audio run]
  split <;> rw [← hu] <;> rfl

/-! ### Writes at rank 6 and the rewritten snapshot (R81, R201, R208) -/

theorem littleEndianInt_length (n : Nat) (v : Int) : (littleEndianInt n v).length = n := littleEndian_length n _

theorem fillingBytes_length (slots : List SlotRecord) : (fillingBytes slots).length = 16 := by
  unfold fillingBytes
  split <;> simp [littleEndianInt_length]

theorem currentBlockBytes_length (c : Option CurrentBlock) : (currentBlockBytes c).length = 8 := by
  cases c <;> simp [currentBlockBytes]

theorem cardStatusBytes_length (c : Card) : (cardStatusBytes c).length = 8 := by simp [cardStatusBytes]

theorem axisStatusBytes_length (a : Axis) : (axisStatusBytes a).length = 8 := by simp [axisStatusBytes, littleEndianInt_length]

theorem statusBytes_length (s : State) : (statusBytes s).length = 512 := by
  unfold statusBytes
  simp only [List.length_append, List.length_cons, List.length_nil, List.length_map, List.length_replicate,
    Vector.length_toList, littleEndian_length, fillingBytes_length, currentBlockBytes_length, cardStatusBytes_length,
    axisStatusBytes_length]

theorem statusBytes_count (s : State) : field (statusBytes s) 0 4 = s.control.writeCount.toNat := by
  have split : ∃ rest, statusBytes s = littleEndian 4 s.control.writeCount.toNat ++ rest := by
    unfold statusBytes
    simp only [List.append_assoc]
    exact ⟨_, rfl⟩
  obtain ⟨rest, h⟩ := split
  rw [h, field_littleEndian_append]
  exact Nat.mod_eq_of_lt s.control.writeCount.isLt

theorem takeSnapshot_block (s : State) : ∃ block, block.length = 512 ∧ field block 0 4 = (s.control.writeCount + 1).toNat ∧
    takeSnapshot s = s.setControl { s.control with
      writeCount := s.control.writeCount + 1
      writes := s.control.writes ++ (List.range 4).map fun i =>
        ⟨controlPage s + 0xC00 + 128 * i, ((block.drop (128 * i)).take 128).map fun b => (b, true), .statusLine⟩ } :=
  ⟨statusBytes (s.setControl { s.control with writeCount := s.control.writeCount + 1 }), statusBytes_length _, statusBytes_count _, rfl⟩

/-- A rank 6 write has been issued, before the rewrite mark is looked at (R81, R194). -/
def reportIssued (w : ReportWrite) (rest : List ReportWrite) (s : State) : State :=
  (s.setPath (internalIssued (.write w.addr w.lanes) (writeDestination w.tag) s)).setControl { s.control with writes := rest }

theorem grantReport_eq {w : ReportWrite} {rest : List ReportWrite} (h : s.control.writes = w :: rest) :
    grantReport (setHostGrants 0 s) = rewriteStatus (reportIssued w rest s) := by
  unfold grantReport
  rw [setHostGrants_control, h]
  rfl

theorem snapshotInProgress_iff (s : State) : snapshotInProgress s = true ↔ ∃ x ∈ s.control.writes.drop 1, x.tag = .statusLine := by
  simp [snapshotInProgress]

theorem rewriteStatus_rests (h : s.control.rewrite = false ∨ ∃ x ∈ s.control.writes.drop 1, x.tag = .statusLine) : rewriteStatus s = s := by
  rw [← snapshotInProgress_iff] at h
  unfold rewriteStatus
  rcases h with h | h <;> simp [h]

theorem rewriteStatus_rewrites (h : s.control.rewrite = true) (hn : ∀ x ∈ s.control.writes.drop 1, x.tag ≠ .statusLine) :
    rewriteStatus s = takeSnapshot (s.setControl { s.control with rewrite := false }) := by
  have idle : snapshotInProgress s = false := by
    rw [Bool.eq_false_iff, ne_eq, snapshotInProgress_iff]
    rintro ⟨x, hx, ht⟩
    exact hn x hx ht
  simp [rewriteStatus, h, idle]

/-- The rewrite of the status block presents writes and nothing else. -/
theorem changesOnly_rewriteStatus (s : State) : changesOnly [.control] s (rewriteStatus s) := by
  unfold rewriteStatus
  split
  · intro p hp
    cases p <;> simp [Part.same] at hp ⊢
  · exact changesOnly_refl _ s

end

/-- Settles O9: the requester is found by rank, and each requester issues its transaction and presents its next. -/
theorem internalGrantsIssueTheRequestersNext : Obligations.InternalGrantsIssueTheRequestersNext := by
  intro s hrun hhost
  refine ⟨fun l rest hl => ?_, fun hl slot r hr he hfirst => ?_, fun hl hf r hr he hs =>
      ⟨fun next back last q hvideo hq hlt => ?_, fun slot base next back haudio hlt => ?_⟩,
    fun hl hf hp => ⟨fun r hr he => ?_, fun w rest hno hw => ?_, fun hno hw => ?_⟩⟩
  · refine ⟨_, exec_internalGrant hrun hhost (internalRequest_audio hl), ?_⟩
    rw [grantInternal, grantAudio_eq hl]
    refine ⟨changesOnly_setPath_setAudio _ _ s, rfl, ?_⟩
    rw [State.setAudio_audio]
    congr
  · refine ⟨_, exec_internalGrant hrun hhost (internalRequest_card hl hr he hfirst), ?_⟩
    rw [grantInternal, grantCard_eq hr]
    exact ⟨changesOnly_setPath_setCard _ _ _ s, by simp [internalIssued], by simp⟩
  · refine ⟨_, exec_internalGrant hrun hhost (internalRequest_clip ⟨hl, hf⟩ hr he hs), ?_⟩
    rw [grantInternal, grantClip_video hvideo hq hlt]
    exact ⟨changesOnly_setPath_setClip _ _ s, rfl, rfl⟩
  · refine ⟨_, exec_internalGrant hrun hhost (internalRequest_clip ⟨hl, hf⟩ hr he hs), ?_⟩
    rw [grantInternal, grantClip_audio haudio hlt]
    exact ⟨changesOnly_setPath_setClip _ _ s, rfl, rfl⟩
  · have hreq : internalRequest s = some .commandReads := by
      rw [internalRequest_below_clip ⟨⟨hl, hf⟩, hp⟩, readWaits_iff.mpr ⟨r, hr, he⟩]
      rfl
    refine ⟨_, exec_internalGrant hrun hhost hreq, ?_⟩
    rw [grantInternal, grantCommand_eq hr]
    refine ⟨changesOnly_setPath_setControl _ _ s, ?_, rfl⟩
    cases h : s.control.phase <;> simp [internalIssued, readDestination]
  · have hreq : internalRequest s = some .reportWrites := by
      rw [internalRequest_below_clip ⟨⟨hl, hf⟩, hp⟩, readWaits_eq_false.mpr hno, hw]
      rfl
    refine ⟨_, exec_internalGrant hrun hhost hreq, ?_⟩
    rw [grantInternal, grantReport_eq hw]
    have only := changesOnly_rewriteStatus (reportIssued w rest s)
    refine ⟨changesOnly_trans (changesOnly_setPath_setControl _ _ s) (changesOnly_mono (by simp) only), ?_, fun hrest => ?_, fun hrw hnone => ?_⟩
    · refine (only .path (by simp)).trans ?_
      cases h : w.tag <;> simp [reportIssued, internalIssued, writeDestination, h]
    · rw [rewriteStatus_rests (s := reportIssued w rest s) hrest]
      rfl
    · obtain ⟨block, hlen, hcount, hsnap⟩ := takeSnapshot_block
        ((reportIssued w rest s).setControl { (reportIssued w rest s).control with rewrite := false })
      rw [rewriteStatus_rewrites (s := reportIssued w rest s) hrw hnone, hsnap]
      exact ⟨block, hlen, hcount, rfl⟩
  · refine exec_idleGrant hhost ?_
    rw [internalRequest_below_clip ⟨⟨hl, hf⟩, hp⟩, readWaits_eq_false.mpr hno, hw]
    rfl

end Sys2Proof.Machine

namespace Sys2Proof.Machine

/-! ### Slots that are listened in (R166, R167) -/

section

variable {n : BitVec 4} {m : LinkMessage} {s : State}

theorem bufferFor_eq_none_iff {a : Acc} : a.bufferFor n = none ↔ ∀ i : Fin 16, (a.buffers[i]).identifier ≠ some n := by
  simp [Acc.bufferFor, Acc.buffer, bufferIndices]

theorem identifier_of_bufferFor {a : Acc} {i : Fin 16} (h : a.bufferFor n = some i) : (a.buffers[i]).identifier = some n := by
  simpa [Acc.buffer] using List.find?_some h

theorem ownsSlot_iff {a : Acc} : ownsSlot a n = true ↔ ∃ i x, a.bufferFor n = some i ∧ a.buffers[i] = .transmit x := by
  unfold ownsSlot
  cases h : a.bufferFor n with
  | none => simp
  | some i => cases hb : a.buffers[i] <;> simp_all [Acc.buffer]

theorem slotOpen_iff {a : Acc} : slotOpen a n = true ↔
    a.link = .running ∧ ownsSlot a n = false ∧ a.heard.getLsbD n.toNat = false := by
  simp [slotOpen, and_assoc]

/-- Outside RUNNING, in a slot of the part, and in a slot already judged nothing is listened to (R166, R167). -/
theorem slotOpen_shut (h : (∃ (i : Fin 16) (x : TransmitBuffer), s.acc.bufferFor n = some i ∧ s.acc.buffers[i] = .transmit x) ∨
    s.acc.link ≠ .running ∨ s.acc.heard.getLsbD n.toNat = true) : slotOpen s.acc n = false := by
  rw [Bool.eq_false_iff, ne_eq, slotOpen_iff, ← Bool.not_eq_true (ownsSlot s.acc n), ownsSlot_iff]
  rintro ⟨hl, ho, hh⟩
  rcases h with ⟨i, x, hi, hx⟩ | h | h
  · exact ho ⟨i, x, hi, hx⟩
  · exact h hl
  · rw [hh] at h
    cases h

theorem slotOpen_listened (hl : s.acc.link = .running)
    (ho : ¬∃ (i : Fin 16) (x : TransmitBuffer), s.acc.buffers[i] = .transmit x ∧ x.identifier = n)
    (hh : ¬s.acc.heard.getLsbD n.toNat = true) : slotOpen s.acc n = true := by
  rw [slotOpen_iff, ← Bool.not_eq_true (ownsSlot s.acc n), ownsSlot_iff]
  refine ⟨hl, fun ⟨i, x, hi, hx⟩ => ho ⟨i, x, hx, ?_⟩, Bool.eq_false_iff.mpr hh⟩
  have known := identifier_of_bufferFor hi
  rw [hx] at known
  exact Option.some.inj known

theorem exec_accMessageReceive (hrun : running s) (hform : m.wellFormed = true) :
    exec (.accMessageReceive n m) s = .next (messageReceive n m s) := by
  show execAccMessageReceive n m s = _
  simp [execAccMessageReceive, hform, act_of_running _ hrun]

theorem exec_accSlotEnd (hrun : running s) : exec (.accSlotEnd n) s =
    .next (if slotOpen s.acc n then linkError (markHeard n s) else s) := act_of_running _ hrun

theorem messageGood_iff : messageGood n m = true ↔
    m.length.toNat ≤ 12 ∧ crc8 (m.identifier :: m.length :: m.data) = m.crc ∧ m.identifier = n.zeroExtend 8 := by
  have same : m.identifier.toNat = n.toNat ↔ m.identifier = n.zeroExtend 8 := by
    rw [← BitVec.toNat_inj]
    simp [show n.toNat % 256 = n.toNat by have := n.isLt; omega]
  simp [messageGood, and_assoc, same]

theorem messageReceive_good (ho : slotOpen s.acc n = true) (hg : messageGood n m = true) :
    messageReceive n m s = routeMessage n m.data (markHeard n s) := by simp [messageReceive, ho, hg]

theorem messageReceive_bad (ho : slotOpen s.acc n = true) (hg : ¬messageGood n m = true) :
    messageReceive n m s = linkError (markHeard n s) := by simp [messageReceive, ho, hg]

/-! ### Errors of a slot (R168) -/

theorem changesOnly_setAcc (v : Acc) (s : State) : changesOnly [.acc] s (s.setAcc v) := by
  intro p hp
  cases p <;> simp [Part.same] at hp ⊢

theorem linkError_acc (s : State) : (linkError s).acc = { s.acc with errors := s.acc.errors ||| 1 } := by
  unfold linkError
  dsimp only
  split <;> simp

theorem changesOnly_linkError (s : State) : changesOnly [.acc, .control] s (linkError s) := by
  unfold linkError
  dsimp only
  split
  · exact changesOnly_trans (changesOnly_mono (by simp) (changesOnly_startCause _ s)) (changesOnly_mono (by simp) (changesOnly_setAcc _ _))
  · exact changesOnly_mono (by simp) (changesOnly_setAcc _ s)

theorem causePresent_linkError (h : s.acc.errors = 0) : causePresent (linkError s) .accLinkError = true := by
  unfold linkError
  dsimp only
  rw [if_pos h]
  exact causePresent_startCause .accLinkError s

theorem linkError_control (h : s.acc.errors ≠ 0) : (linkError s).control = s.control := by
  unfold linkError
  dsimp only
  rw [if_neg h]
  rfl

/-! ### Messages of a dedicated buffer (R167, R178, R180) -/

/-- A RECEIVE buffer with a fresh content `data` and the notified content `notified` (R167). -/
def filledBuffer (r : ReceiveBuffer) (data : List Byte) (notified : Option LinkContent) : ReceiveBuffer :=
  { r with content := some ⟨data⟩, freshness := 0, notified := notified }

/-- The content `data` has gone to RECEIVE buffer `i` (R167). -/
def bufferFilled (i : Fin 16) (r : ReceiveBuffer) (data : List Byte) (notified : Option LinkContent) (s : State) : State :=
  setLinkBuffer i (.receive (filledBuffer r data notified)) s

theorem bufferReceives_eq (i : Fin 16) (r : ReceiveBuffer) (data : List Byte) (s : State) : bufferReceives i r data s =
    match r.owner with
    | .gripIn => gripReceived r data (bufferFilled i r data r.notified s)
    | .host => hostReceived i (filledBuffer r data r.notified) data (bufferFilled i r data r.notified s)
    | _ => bufferFilled i r data r.notified s := rfl

theorem routeMessage_buffer {i : Fin 16} {r : ReceiveBuffer} {data : List Byte} (hi : s.acc.bufferFor n = some i)
    (hr : s.acc.buffers[i] = .receive r) : routeMessage n data s = bufferReceives i r data s := by
  have hb : s.acc.buffer i = .receive r := hr
  simp only [routeMessage, hi, hb]

theorem setLinkBuffer_twice (i : Fin 16) (b c : LinkBuffer) (s : State) :
    setLinkBuffer i b (setLinkBuffer i c s) = setLinkBuffer i b s := by
  simp [setLinkBuffer, Acc.setBuffer, State.setAcc]

theorem bufferReceives_known {r : ReceiveBuffer} {data : List Byte} (ho : r.owner = .host) (hn : r.notified = some ⟨data⟩)
    (i : Fin 16) (s : State) : bufferReceives i r data s = bufferFilled i r data r.notified s := by
  rw [bufferReceives_eq, ho]
  exact if_pos hn

theorem bufferReceives_news {r : ReceiveBuffer} {data : List Byte} (ho : r.owner = .host) (hn : r.notified ≠ some ⟨data⟩)
    (i : Fin 16) (s : State) : bufferReceives i r data s =
      postNotice (.accMsg i.val r.identifier false data) (bufferFilled i r data (some ⟨data⟩) s) := by
  have replaced := setLinkBuffer_twice i (.receive (filledBuffer r data (some ⟨data⟩))) (.receive (filledBuffer r data r.notified)) s
  rw [bufferReceives_eq, ho]
  refine (if_neg hn).trans ?_
  rw [bufferFilled, bufferFilled, ← replaced]
  rfl

theorem bufferReceives_grip {r : ReceiveBuffer} (ho : r.owner = .gripIn) (data : List Byte) (i : Fin 16) (s : State) :
    bufferReceives i r data s = gripReceived r data (bufferFilled i r data r.notified s) := by
  rw [bufferReceives_eq, ho]

theorem gripReceived_stale {r : ReceiveBuffer} (h : r.staleCycles < r.freshness) (data : List Byte) (s : State) :
    gripReceived r data s = endCause .gripStale s := if_pos (decide_eq_true h)

theorem gripReceived_fresh {r : ReceiveBuffer} (h : r.freshness ≤ r.staleCycles) (data : List Byte) (s : State) :
    gripReceived r data s = if !recBit r.content && recBit (some ⟨data⟩) then gripPress s else s :=
  if_neg (by simp [ReceiveBuffer.stale, h])

/-! ### Messages of the receive queue (R174, R175) -/

theorem passesFilter_iff {f : LinkFilter} : passesFilter f n = true ↔
    f.acceptEnable = true ∧ n &&& f.acceptMask = f.acceptCode &&& f.acceptMask ∧
      ¬(f.rejectEnable = true ∧ n &&& f.rejectMask = f.rejectCode &&& f.rejectMask) := by
  unfold passesFilter
  cases f.rejectEnable <;> simp [and_assoc]

theorem routeMessage_discards {data : List Byte} (hi : s.acc.bufferFor n = none)
    (h : s.acc.q = 0 ∨ ¬passesFilter s.acc.filter n = true) : routeMessage n data s = s := by
  simp only [routeMessage, hi]
  refine if_neg fun hq => ?_
  rcases h with h | h
  · omega
  · exact h hq.2

theorem routeMessage_queue {data : List Byte} (hi : s.acc.bufferFor n = none) (hq : 1 ≤ s.acc.q)
    (hp : passesFilter s.acc.filter n = true) : routeMessage n data s = queueReceives ⟨n, data⟩ s := by
  simp only [routeMessage, hi]
  exact if_pos ⟨hq, hp⟩

theorem queueReceives_full (h : s.acc.q ≤ s.acc.queue.length) (q : QueueMessage) :
    queueReceives q s = startCause .accQueueOverrun s := if_neg (Nat.not_lt.mpr h)

/-- A message has joined the receive queue (R175). -/
def queued (q : QueueMessage) (s : State) : State := s.setAcc { s.acc with queue := s.acc.queue ++ [q] }

theorem queueReceives_joins (h : s.acc.queue.length < s.acc.q) (q : QueueMessage) : queueReceives q s = fillRing 64 (queued q s) :=
  if_pos h

theorem fillRing_full (fuel : Nat) (h : 64 ≤ unread s) : fillRing fuel s = s := by
  cases fuel with
  | zero => rfl
  | succ fuel => exact if_neg (Nat.not_lt.mpr h)

theorem fillRing_empty (fuel : Nat) (hp : s.control.pendingNotices = []) (hq : s.acc.queue = []) : fillRing fuel s = s := by
  cases fuel with
  | zero => rfl
  | succ fuel =>
    rw [fillRing, hp, hq]
    simp

theorem fillRing_message {q : QueueMessage} (fuel : Nat) (h : unread s < 64) (hp : s.control.pendingNotices = [])
    (hq : s.acc.queue = [q]) : fillRing (fuel + 1) s = fillRing fuel (writeQueueHead q [] s) := by
  rw [fillRing, hp, hq]
  exact if_pos h

theorem writeQueueHead_last (q : QueueMessage) (s : State) : ∃ bytes, writeQueueHead q [] s =
    endCause .accQueueOverrun ((writeRing bytes s).setAcc { (writeRing bytes s).acc with queue := [] }) := ⟨_, rfl⟩

/-- A message that finds the queue empty and a free place in the ring is written at once (R193, R196). -/
theorem fillRing_queued {q : QueueMessage} (h : unread s < 64) (hp : s.control.pendingNotices = []) (hq : s.acc.queue = []) :
    changesOnly [.acc, .control] s (fillRing 64 (queued q s)) ∧ (fillRing 64 (queued q s)).acc = s.acc ∧
      (fillRing 64 (queued q s)).control.reportProducer = s.control.reportProducer + 1 := by
  obtain ⟨bytes, hw⟩ := writeQueueHead_last q (queued q s)
  have one : (queued q s).acc.queue = [q] := by simp [queued, hq]
  rw [fillRing_message 63 (s := queued q s) h hp one, hw, fillRing_empty 63 (by simp [queued, endCause, setCondState, hp]) (by simp)]
  refine ⟨?_, ?_, by simp [queued, endCause, setCondState]⟩
  · exact changesOnly_trans (changesOnly_trans (changesOnly_trans (changesOnly_mono (by simp) (changesOnly_setAcc _ s))
      (changesOnly_mono (by simp) (writeRing_changesOnly bytes _))) (changesOnly_mono (by simp) (changesOnly_setAcc _ _)))
      (changesOnly_mono (by simp) (changesOnly_endCause _ _))
  · simp [queued, ← hq]

/-! ### A press edge of the grip (R29) -/

theorem gripPress_off (h : s.clip.gripRec = false ∨ s.clip.state = .stopping) : gripPress s = s := by
  unfold gripPress
  rcases h with h | h <;> simp [h]

theorem gripPress_idle (hg : s.clip.gripRec = true) (h : s.clip.state = .idle) : gripPress s =
    let r := recStart (s.clip.lastClip + 1) s
    if r.2 = .ok then r.1 else postNotice (.recState .refused r.1.clip.state (some r.2) r.1.clip.mode (s.clip.lastClip + 1) 0) r.1 := by
  unfold gripPress
  rw [if_pos hg, h]

theorem gripPress_refused {r : Result} (hg : s.clip.gripRec = true) (h : s.clip.state = .idle) (hr : r ≠ .ok)
    (hs : recStart (s.clip.lastClip + 1) s = (s, r)) :
    gripPress s = postNotice (.recState .refused .idle (some r) s.clip.mode (s.clip.lastClip + 1) 0) s := by
  rw [gripPress_idle hg h, hs]
  dsimp only
  rw [if_neg hr, h]

theorem gripPress_stops (hg : s.clip.gripRec = true) (h : s.clip.state = .armed ∨ s.clip.state = .recording) :
    gripPress s = (recStop none s).1 := by
  unfold gripPress
  rw [if_pos hg]
  rcases h with h | h <;> rw [h]

end

/-- Settles O46: a slot is listened in or not, its message is good or not, and a good one has its buffer, the queue or no place. -/
theorem messagesAreJudgedAndRouted : Obligations.MessagesAreJudgedAndRouted := by
  refine ⟨fun n m s hrun hform => ?_, fun s => ⟨gripPress_off, fun hg => ⟨fun hidle => ⟨fun hbad => ?_, fun hreg hpages => ?_,
    fun hreg hpages hno => ?_, fun hreg hpages hready => ?_⟩, fun harmed => ?_, fun hrec hship => ?_, fun hrec hship hheld => ?_⟩⟩⟩
  · intro shut judged good failed passes
    refine ⟨fun hshut => ?_, fun hopen => ?_⟩
    · have closed := slotOpen_shut hshut
      rw [exec_accMessageReceive hrun hform, exec_accSlotEnd hrun]
      simp [messageReceive, closed]
    · simp only [shut, not_or, ne_eq, not_not] at hopen
      obtain ⟨hlink, howned, hheard⟩ := hopen
      have listened := slotOpen_listened hlink howned hheard
      have fails : failed (linkError (markHeard n s)) :=
        ⟨changesOnly_trans (changesOnly_mono (by simp) (changesOnly_setAcc _ s)) (changesOnly_linkError _), linkError_acc _,
          causePresent_linkError (s := markHeard n s), linkError_control (s := markHeard n s)⟩
      refine ⟨⟨_, by rw [exec_accSlotEnd hrun, if_pos listened], fails⟩, fun hbad => ⟨_, ?_, fails⟩, fun hgood => ?_⟩
      · rw [exec_accMessageReceive hrun hform, messageReceive_bad listened (messageGood_iff.not.mpr hbad)]
      · have row : exec (.accMessageReceive n m) s = .next (routeMessage n m.data judged) := by
          rw [exec_accMessageReceive hrun hform, messageReceive_good listened (messageGood_iff.mpr hgood)]
          rfl
        rw [row]
        refine ⟨fun i r hi hr => ?_, fun hnone => ?_⟩
        · intro kept edge
          rw [routeMessage_buffer (s := judged) hi hr]
          refine ⟨fun ho hn => ?_, fun ho hn => ?_, fun ho hst => ?_, fun ho hfr hedge => ?_, fun ho hedge => ?_⟩
          · rw [bufferReceives_known ho hn]
            rfl
          · rw [bufferReceives_news ho hn]
            rfl
          · rw [bufferReceives_grip ho, gripReceived_stale hst]
            rfl
          · have none_pressed : ¬(!recBit r.content && recBit (some ⟨m.data⟩)) = true := fun h => by
              simp only [Bool.and_eq_true, Bool.not_eq_true'] at h
              exact hedge ⟨hfr, h.1, h.2⟩
            rw [bufferReceives_grip ho, gripReceived_fresh hfr, if_neg none_pressed]
            rfl
          · obtain ⟨hfr, hbefore, hnow⟩ := hedge
            rw [bufferReceives_grip ho, gripReceived_fresh hfr, if_pos (by simp [hbefore, hnow])]
            rfl
        · have free : judged.acc.bufferFor n = none := bufferFor_eq_none_iff.mpr hnone
          refine ⟨fun hno => ?_, fun hp hq hfull => ?_, fun hp hroom hread => ?_, fun hp hq hempty hpend hread => ?_⟩
          · rw [routeMessage_discards free (hno.imp_right passesFilter_iff.not.mpr)]
          · rw [routeMessage_queue free hq (passesFilter_iff.mpr hp), queueReceives_full (s := judged) hfull]
          · rw [routeMessage_queue free (s := judged) (by show 1 ≤ s.acc.q; omega) (passesFilter_iff.mpr hp),
              queueReceives_joins (s := judged) hroom, fillRing_full 64 (s := queued _ judged) hread]
            rfl
          · have room : judged.acc.queue.length < judged.acc.q := by
              show s.acc.queue.length < s.acc.q
              rw [hempty]
              exact hq
            rw [routeMessage_queue free hq (passesFilter_iff.mpr hp), queueReceives_joins room]
            obtain ⟨only, hacc, hproducer⟩ := fillRing_queued (s := judged) (q := ⟨n, m.data⟩) hread hpend hempty
            exact ⟨_, rfl, changesOnly_trans (changesOnly_mono (by simp) (changesOnly_setAcc _ s)) only, hacc, hproducer⟩
  · exact gripPress_refused hg hidle (by decide) (recStart_badState (.inr hbad) _)
  · exact gripPress_refused hg hidle (by decide) (recStart_busy hidle hreg hpages _)
  · exact gripPress_refused hg hidle (by decide) (recStart_noMedia hidle hreg hpages hno _)
  · obtain ⟨v, hv, starts⟩ := recStart_starts hidle hreg hpages hready (s.clip.lastClip + 1)
    exact ⟨v, by rw [gripPress_idle hg hidle, hv]; rfl, starts⟩
  · obtain ⟨v, stops, hv⟩ := stopsArmed_recStop harmed none
    exact ⟨v, stops, by rw [gripPress_stops hg (.inl harmed), hv]⟩
  · exact ⟨_, audioStopFixed_audioStopAt s, by rw [gripPress_stops hg (.inr hrec), recStop_shipping hrec hship]⟩
  · exact ⟨_, audioStopFixed_audioStopAt s, by rw [gripPress_stops hg (.inr hrec), recStop_shipped hrec hship hheld]⟩

end Sys2Proof.Machine

namespace Sys2Proof.Machine

/-! ### A period frame in the current block and in the meters (R145, R152, R154, R157) -/

theorem flagCurrent_eq (f : BlockFlags → BlockFlags) (a : Audio) : flagCurrent f a = { a with blocks := (flagCurrent f a).blocks } := by
  unfold flagCurrent
  split <;> rfl

theorem flagCurrent_blocks {f : BlockFlags → BlockFlags} {a : Audio} {c : CurrentBlock} (h : a.current = some c) :
    (flagCurrent f a).blocks = a.blocks.map (flagBlock c.number f) := by
  unfold flagCurrent
  rw [h]

theorem flagCurrent_none {f : BlockFlags → BlockFlags} {a : Audio} (h : a.current = none) : flagCurrent f a = a := by
  unfold flagCurrent
  rw [h]

@[simp] theorem flagCurrent_current (f : BlockFlags → BlockFlags) (a : Audio) : (flagCurrent f a).current = a.current := by
  rw [flagCurrent_eq]
@[simp] theorem flagCurrent_lines (f : BlockFlags → BlockFlags) (a : Audio) : (flagCurrent f a).lines = a.lines := by
  rw [flagCurrent_eq]

theorem takeFrame_eq (base : Nat) (f : AudioFrame) (a : Audio) : takeFrame base f a =
    { a with current := (takeFrame base f a).current, lines := (takeFrame base f a).lines } := by
  unfold takeFrame
  cases a.current with
  | none => rfl
  | some c =>
    dsimp only
    split <;> rfl

theorem takeFrame_none {base : Nat} {f : AudioFrame} {a : Audio} (h : a.current = none) : takeFrame base f a = a := by
  unfold takeFrame
  rw [h]

/-- A frame that leaves the line incomplete (R154). -/
theorem takeFrame_partial {base : Nat} {f : AudioFrame} {a : Audio} {c : CurrentBlock} (h : a.current = some c)
    (hl : (c.partialLine ++ frameBytes f).length < 128) : takeFrame base f a =
      { a with current := some { c with index := c.index + 1, partialLine := c.partialLine ++ frameBytes f } } := by
  unfold takeFrame
  rw [h]
  exact if_pos hl

/-- A frame that completes a line, which then waits for its grant (R154). -/
theorem takeFrame_line {base : Nat} {f : AudioFrame} {a : Audio} {c : CurrentBlock} (h : a.current = some c)
    (hl : 128 ≤ (c.partialLine ++ frameBytes f).length) : takeFrame base f a =
      { a with
        current := some { c with index := c.index + 1, partialLine := (c.partialLine ++ frameBytes f).drop 128 }
        lines := a.lines ++ [⟨c.number, 12 * (c.index + 1) / 128 - 1,
          base + 12288 * (c.number.toNat % a.blocks.length) + 128 * (12 * (c.index + 1) / 128 - 1),
          (c.partialLine ++ frameBytes f).take 128⟩] } := by
  unfold takeFrame
  rw [h]
  exact if_neg (Nat.not_lt.mpr hl)

/-- The samples of a period frame as the enables pass them (R145). -/
def passedSamples (enables : BitVec 4) (f : AudioFrame) : List Sample :=
  [if enables.getLsbD 0 then f.c0 else 0, if enables.getLsbD 1 then f.c1 else 0, if enables.getLsbD 2 then f.c2 else 0,
    if enables.getLsbD 3 then f.c3 else 0]

theorem frameBytes_enabled (enables : BitVec 4) (f : AudioFrame) :
    frameBytes (enabledFrame enables f) = (passedSamples enables f).flatMap fun x => littleEndian 3 x.toNat := by
  simp [frameBytes, enabledFrame, passedSamples]

theorem passedSamples_getElem (enables : BitVec 4) (f : AudioFrame) (i : Fin 4) :
    (passedSamples enables f)[i.val]? = some (sampleOf (enabledFrame enables f) i) := by
  match i with
  | 0 => rfl
  | 1 => rfl
  | 2 => rfl
  | 3 => rfl

/-- The audio unit once a period frame has gone to block assembly, before the meters (R145). -/
def frameLaid (base : Nat) (p : PeriodFrame) (a : Audio) : Audio :=
  takeFrame base (enabledFrame a.enables p.frame) (flagCurrent (frameFlags a.enables p) a)

theorem usePeriodFrame_eq (base : Nat) (p : PeriodFrame) (a : Audio) : usePeriodFrame base p a = { a with
    driving := a.role == .master, meters := meterFrame (enabledFrame a.enables p.frame) a.meters, windowCount := a.windowCount + 1
    blocks := (flagCurrent (frameFlags a.enables p) a).blocks
    current := (frameLaid base p a).current, lines := (frameLaid base p a).lines } := by
  have laid : frameLaid base p a = { a with
      blocks := (flagCurrent (frameFlags a.enables p) a).blocks
      current := (frameLaid base p a).current, lines := (frameLaid base p a).lines } := by
    rw [frameLaid, takeFrame_eq, flagCurrent_eq]
  unfold usePeriodFrame
  dsimp only
  rw [← frameLaid]
  rw [laid]

theorem frameTaken_usePeriodFrame (base : Nat) (f : AudioFrame) (zeros repeated : Bool) (a : Audio) :
    frameTaken base f zeros repeated a (usePeriodFrame base ⟨f, repeated, zeros⟩ a) := by
  rw [usePeriodFrame_eq]
  refine ⟨rfl, fun i x hx => ?_, fun hnone => ?_, fun c bytes hc hbytes => ⟨?_, fun hl => ?_, fun hl => ?_⟩⟩
  · have taken : sampleOf (enabledFrame a.enables f) i = x := Option.some.inj ((passedSamples_getElem a.enables f i).symm.trans hx)
    simp [meterFrame, magnitude, taken]
  · rw [frameLaid, flagCurrent_none hnone, takeFrame_none hnone]
    exact ⟨hnone, rfl, rfl⟩
  · rw [flagCurrent_blocks hc]
    refine List.map_congr_left fun r _ => ?_
    cases r <;> rfl
  · have whole : bytes = c.partialLine ++ frameBytes (enabledFrame a.enables f) := by rw [hbytes, frameBytes_enabled]; rfl
    rw [whole] at hl ⊢
    rw [frameLaid, takeFrame_partial (by rw [flagCurrent_current, hc]) hl]
    exact ⟨flagCurrent_lines _ _, rfl⟩
  · have whole : bytes = c.partialLine ++ frameBytes (enabledFrame a.enables f) := by rw [hbytes, frameBytes_enabled]; rfl
    have count : (flagCurrent (frameFlags a.enables ⟨f, repeated, zeros⟩) a).blocks.length = a.blocks.length := by
      rw [flagCurrent_blocks hc, List.length_map]
    rw [whole] at hl ⊢
    rw [frameLaid, takeFrame_line (by rw [flagCurrent_current, hc]) hl, flagCurrent_lines, count]
    exact ⟨rfl, rfl⟩

/-! ### What a sample period brings (R144, R145, R150, R151) -/

section

variable {received : BitVec 128} {s : State}

theorem periodFrame_master (hr : s.audio.role = .master) (hs : s.audio.state = .locked) :
    periodFrame received s = (⟨frameOf received, false, false⟩, s) := by
  unfold periodFrame
  rw [hr, hs]

theorem periodFrame_zeros (hr : s.audio.role = .follower)
    (h : s.audio.state = .seek ∨ ((s.audio.state = .locked ∨ s.audio.state = .holdover) ∧ s.audio.priming = true)) :
    periodFrame received s = (⟨silentFrame, false, true⟩, s) := by
  unfold periodFrame
  rw [hr]
  rcases h with h | ⟨h | h, hp⟩
  · rw [h]
  · rw [h]
    exact if_pos hp
  · rw [h]
    exact if_pos hp

theorem periodFrame_draining (hr : s.audio.role = .follower) (h : s.audio.state = .locked ∨ s.audio.state = .holdover)
    (hp : s.audio.priming = false) : periodFrame received s = drain s := by
  unfold periodFrame
  rw [hr]
  rcases h with h | h
  · rw [h]
    exact if_neg (by simp [hp])
  · rw [h]
    exact if_neg (by simp [hp])

theorem drain_stored {f : StoredFrame} {rest : List StoredFrame} (h : s.audio.store = f :: rest) :
    drain s = (⟨f.frame, f.repeated, false⟩, s.setAudio { s.audio with store := rest, lastDrained := f.frame }) := by
  unfold drain
  rw [h]

theorem drain_empty (h : s.audio.store = []) : drain s = (⟨s.audio.lastDrained, true, false⟩, audioSlip s) := by
  unfold drain
  rw [h]

/-- Without a slip a sample period's frame leaves everything but the audio unit (R145, R150). -/
theorem periodFrame_quiet (received : BitVec 128) (h : ¬storeSlips s.audio) :
    ∃ v, (periodFrame received s).2 = s.setAudio v ∧ v.blocks = s.audio.blocks ∧ v.current = s.audio.current := by
  have drained : s.audio.role = .follower → s.audio.state = .locked ∨ s.audio.state = .holdover → s.audio.priming = false →
      ∃ v, (drain s).2 = s.setAudio v ∧ v.blocks = s.audio.blocks ∧ v.current = s.audio.current := fun hr hs hp => by
    cases hst : s.audio.store with
    | nil => exact absurd ⟨hr, hs, hp, hst⟩ h
    | cons f rest =>
      rw [drain_stored hst]
      exact ⟨_, rfl, rfl, rfl⟩
  have still : ∃ v, s = s.setAudio v ∧ v.blocks = s.audio.blocks ∧ v.current = s.audio.current := ⟨s.audio, rfl, rfl, rfl⟩
  unfold periodFrame
  split
  · exact still
  · rename_i hr hs
    split
    · exact still
    · rename_i hp
      exact drained hr (.inl hs) (Bool.eq_false_iff.mpr hp)
  · rename_i hr hs
    split
    · exact still
    · rename_i hp
      exact drained hr (.inr hs) (Bool.eq_false_iff.mpr hp)
  · exact still

theorem periodFrame_slips (received : BitVec 128) (h : storeSlips s.audio) :
    periodFrame received s = (⟨s.audio.lastDrained, true, false⟩, audioSlip s) := by
  obtain ⟨hr, hs, hp, hst⟩ := h
  rw [periodFrame_draining hr hs hp, drain_empty hst]

/-- The audio unit with the timer of a slip running (R151). -/
def slipTimed (a : Audio) : Audio := { a with slipTimer := true }

theorem audioSlip_audio (s : State) : (audioSlip s).audio = slipTimed (flagCurrent degrade s.audio) := startCause_audio _ _

/-- The DEGRADED of a slip is the one that its REPEAT frame sets (R151, R152). -/
theorem flagCurrent_degraded {p : PeriodFrame} (h : p.repeated = true) (a : Audio) :
    (flagCurrent (frameFlags a.enables p) (flagCurrent degrade a)).blocks = (flagCurrent (frameFlags a.enables p) a).blocks := by
  cases hc : a.current with
  | none => rw [flagCurrent_none (f := degrade) hc]
  | some c =>
    have hc' : (flagCurrent degrade a).current = some c := by rw [flagCurrent_current, hc]
    rw [flagCurrent_blocks hc', flagCurrent_blocks hc, flagCurrent_blocks hc, List.map_map]
    refine List.map_congr_left fun r _ => ?_
    cases r with
    | filling i => by_cases hn : i.number = c.number <;> simp [flagBlock, hn, frameFlags, degrade, h]
    | _ => rfl

theorem takeFrame_slipTimed (base : Nat) (f : AudioFrame) (a : Audio) :
    takeFrame base f (slipTimed a) = slipTimed (takeFrame base f a) := by
  cases hc : a.current with
  | none => rw [takeFrame_none hc, takeFrame_none (a := slipTimed a) hc]
  | some c =>
    rcases Nat.lt_or_ge (c.partialLine ++ frameBytes f).length 128 with hl | hl
    · rw [takeFrame_partial hc hl, takeFrame_partial (a := slipTimed a) hc hl]
      rfl
    · rw [takeFrame_line hc hl, takeFrame_line (a := slipTimed a) hc hl]
      rfl

theorem flagCurrent_slipTimed (f : BlockFlags → BlockFlags) (a : Audio) : flagCurrent f (slipTimed a) = slipTimed (flagCurrent f a) := by
  cases hc : a.current with
  | none => rw [flagCurrent_none hc, flagCurrent_none (a := slipTimed a) hc]
  | some c =>
    rw [flagCurrent_eq, flagCurrent_blocks (a := slipTimed a) hc, flagCurrent_eq f a, flagCurrent_blocks hc]
    rfl

/-- On a slip the frame is used as it would be without the slip's own DEGRADED mark (R151, R152). -/
theorem usePeriodFrame_slipped {base : Nat} {p : PeriodFrame} (h : p.repeated = true) (a : Audio) :
    usePeriodFrame base p (slipTimed (flagCurrent degrade a)) = slipTimed (usePeriodFrame base p a) := by
  have enables : (slipTimed (flagCurrent degrade a)).enables = a.enables := by rw [flagCurrent_eq]; rfl
  have flagged : flagCurrent (frameFlags a.enables p) (flagCurrent degrade a) = flagCurrent (frameFlags a.enables p) a := by
    rw [flagCurrent_eq, flagCurrent_degraded h, flagCurrent_eq (frameFlags a.enables p) a, flagCurrent_eq degrade a]
  unfold usePeriodFrame
  dsimp only
  rw [enables, flagCurrent_slipTimed, flagged, takeFrame_slipTimed]
  rfl

theorem usePeriodFrame_only (base : Nat) (p : PeriodFrame) {a : Audio} {r : AudioRole} (hr : a.role = r) :
    usePeriodFrame base p a = { a with
      driving := r == .master, meters := (usePeriodFrame base p a).meters, windowCount := (usePeriodFrame base p a).windowCount
      blocks := (usePeriodFrame base p a).blocks, current := (usePeriodFrame base p a).current
      lines := (usePeriodFrame base p a).lines } := by
  rw [usePeriodFrame_eq, hr]

/-- What a sample period leaves in the audio unit, by role and state (R144, R145, R150 to R152). -/
theorem periodTaken_periodFrame (base : Nat) (received : BitVec 128) (s : State) : periodTaken base received s.audio
    (usePeriodFrame base (periodFrame received s).1 (periodFrame received s).2.audio) := by
  refine ⟨fun hr hs => ?_, fun hr => ⟨fun h => ?_, fun f rest h hp hst => ?_, fun h => ?_⟩⟩
  · rw [periodFrame_master hr hs]
    exact ⟨usePeriodFrame_only base _ hr, frameTaken_usePeriodFrame base _ false false s.audio⟩
  · rw [periodFrame_zeros hr h]
    exact ⟨usePeriodFrame_only base _ hr, frameTaken_usePeriodFrame base _ true false s.audio⟩
  · rw [periodFrame_draining hr h hp, drain_stored hst]
    exact ⟨usePeriodFrame_only base _ (a := { s.audio with store := rest, lastDrained := f.frame }) hr,
      frameTaken_usePeriodFrame base _ false f.repeated { s.audio with store := rest, lastDrained := f.frame }⟩
  · rw [periodFrame_slips received h, audioSlip_audio, usePeriodFrame_slipped rfl]
    exact ⟨congrArg slipTimed (usePeriodFrame_only base _ hr), frameTaken_usePeriodFrame base _ false true s.audio⟩

end

/-! ### Causes in states that differ elsewhere (R194, R198) -/

section

variable {s t : State}

/-- A CONDITION notice reads the control page, the report ring and the frame count (R194). -/
theorem postNotice_condition_control (hp : t.path = s.path) (hv : t.view = s.view) (hc : t.control = s.control) (c : Condition) :
    (postNotice (.condition c) t).control = (postNotice (.condition c) s).control := by
  have places : unread t = unread s := by rw [unread, unread, hp, hc]
  have page : controlPage t = controlPage s := by rw [controlPage, controlPage, hp]
  have bytes : ringBytes ⟨.condition c, t.view.frameCount, 0⟩ t = ringBytes ⟨.condition c, s.view.frameCount, 0⟩ s := by
    simp only [ringBytes, noticePayload, hc, hv]
  rcases Nat.lt_or_ge (unread s) 64 with hr | hr
  · rw [postNotice_of_room hr, postNotice_of_room (places.trans_lt hr), clearNoticeCount_control, clearNoticeCount_control,
      writeRing_control, writeRing_control, bytes, page, hc]
  · rw [postNotice_of_full hr, postNotice_of_full (hr.trans_eq places.symm), hc, hv]
    rfl

theorem startCause_control_congr (hp : t.path = s.path) (hv : t.view = s.view) (hc : t.control = s.control) (c : Condition) :
    (startCause c t).control = (startCause c s).control := by
  have present : causePresent t c = causePresent s c := by rw [causePresent, causePresent, condState, condState, hc]
  have active : (setCondState t c .active).control = (setCondState s c .active).control := by
    rw [setCondState, setCondState, State.setControl_control, State.setControl_control, hc]
  unfold startCause
  dsimp only
  rw [present, hc]
  split
  · exact hc
  · split
    · exact active
    · exact postNotice_condition_control (s := setCondState s c .active) (t := setCondState t c .active) hp hv active c

theorem endCause_control_congr (hc : t.control = s.control) (c : Condition) : (endCause c t).control = (endCause c s).control := by
  rw [endCause_control, endCause_control, hc]
  simp only [endCause, setCondState, condState, State.setControl_control, hc]

/-! ### A block starts (R34, R154, R155, R156) -/

/-- The audio unit once block `nextBlock` has its record and takes samples (R154, R155). -/
def blockBegun (s : State) : Audio := { s.audio with
  nextBlock := s.audio.nextBlock + 1, current := some ⟨s.audio.nextBlock, s.view.frameCount, 0, []⟩
  blocks := s.audio.blocks.set (blockSlot s.audio s.audio.nextBlock)
    (.filling ⟨s.audio.nextBlock, s.view.frameCount, ⟨0, false⟩⟩) }

/-- The part once a block has started, before what it overwrites is looked at (R34, R155). -/
def slotTaken (s : State) : State := markSlotStart (blockSlot s.audio s.audio.nextBlock) (s.setAudio (blockBegun s))

theorem markSlotStart_clip (slot : Nat) (s : State) :
    ((∀ b n k, s.clip.run = .audio slot b n k → (markSlotStart slot s).clip = { s.clip with audioDiscontinuity := true }) ∧
      ((∀ b n k, s.clip.run ≠ .audio slot b n k) → (markSlotStart slot s).clip = s.clip)) := by
  unfold markSlotStart
  refine ⟨fun b n k hrun => ?_, fun hrun => ?_⟩
  · rw [hrun]
    simp
  · split
    · rename_i j b n k hj
      rw [if_neg fun e : j = slot => hrun b n k (by rw [hj, e])]
    · rfl

theorem markSlotStart_mark (slot : Nat) (s : State) :
    { (markSlotStart slot s).clip with audioDiscontinuity := true } = { s.clip with audioDiscontinuity := true } := by
  unfold markSlotStart
  split
  · split <;> rfl
  · rfl

theorem changesOnly_markSlotStart (slot : Nat) (s : State) : changesOnly [.clip] s (markSlotStart slot s) := by
  unfold markSlotStart
  split
  · split
    · exact changesOnly_setClip _ s
    · exact changesOnly_refl _ s
  · exact changesOnly_refl _ s

theorem changesOnly_setAudio (v : Audio) (s : State) : changesOnly [.audio] s (s.setAudio v) := by
  intro p hp
  cases p <;> simp [Part.same] at hp ⊢

theorem changesOnly_slotTaken (s : State) : changesOnly [.audio, .clip] s (slotTaken s) :=
  changesOnly_trans (changesOnly_mono (by simp) (changesOnly_setAudio _ s)) (changesOnly_mono (by simp) (changesOnly_markSlotStart _ _))

theorem slotTaken_audio (s : State) : (slotTaken s).audio = blockBegun s := changesOnly_markSlotStart _ _ .audio (by simp)

theorem slotTaken_shipPtr (s : State) : (slotTaken s).clip.shipPtr = s.clip.shipPtr := by
  have marked := congrArg Clip.shipPtr (markSlotStart_mark (blockSlot s.audio s.audio.nextBlock) (s.setAudio (blockBegun s)))
  exact marked

/-- The block that starts overwrites block `i`, which is to be shipped (R156). -/
def overwritesShipped (s : State) (i : BlockInfo) : Prop :=
  s.audio.blocks[blockSlot s.audio s.audio.nextBlock]? = some (.done i) ∧ toBeShipped (slotTaken s) i.number = true

theorem startBlock_overwrites {i : BlockInfo} (h : overwritesShipped s i) :
    startBlock s = audioOverrunEndTest (audioOverrun s.audio.nextBlock (slotTaken s)) := by
  have old : (s.audio.blocks[blockSlot s.audio s.audio.nextBlock]?).getD .free = .done i := by rw [h.1]; rfl
  have shipped := h.2
  rw [slotTaken, blockBegun] at shipped
  unfold startBlock
  simp only [old, overwriteEffect]
  exact congrArg audioOverrunEndTest (if_pos shipped)

theorem startBlock_keeps (h : ∀ i, ¬overwritesShipped s i) : startBlock s = audioOverrunEndTest (slotTaken s) := by
  unfold startBlock
  refine congrArg audioOverrunEndTest ?_
  change overwriteEffect s.audio.nextBlock _ (slotTaken s) = slotTaken s
  unfold overwriteEffect
  split
  · rename_i i hi
    refine if_neg fun shipped => h i ⟨?_, shipped⟩
    cases hr : s.audio.blocks[blockSlot s.audio s.audio.nextBlock]? with
    | none => simp [hr] at hi
    | some r => rw [hr] at hi; exact congrArg some hi
  · rfl

theorem slotTaken_clip (s : State) :
    (slotTaken s).clip = { s.clip with audioDiscontinuity := (slotTaken s).clip.audioDiscontinuity } := by
  unfold slotTaken markSlotStart
  split
  · split <;> rfl
  · rfl

theorem withinAudioStop_iff {n : Word32} : withinAudioStop s n = true ↔ (s.clip.state = .stopping →
    s.clip.audioStop ≠ .nothing ∧ ∀ b, s.clip.audioStop = .upTo b → blockOrder s.audio n ≤ blockOrder s.audio b) := by
  unfold withinAudioStop
  cases s.clip.state <;> cases s.clip.audioStop <;> simp

theorem toBeShipped_iff {n : Word32} : toBeShipped s n = true ↔ s.clip.audioPart = true ∧ assembled s = true ∧
    (∃ q, s.clip.shipPtr = some q ∧ blockOrder s.audio q ≤ blockOrder s.audio n) ∧ withinAudioStop s n = true := by
  unfold toBeShipped
  cases s.clip.shipPtr <;> simp [and_assoc]

/-- What counts as to be shipped when a block starts (R156; log 12). -/
theorem toBeShipped_slotTaken {n : Word32} : toBeShipped (slotTaken s) n = true ↔ s.clip.audioPart = true ∧ assembled s = true ∧
    (∃ q, s.clip.shipPtr = some q ∧ blockPlace (blockBegun s) q ≤ blockPlace (blockBegun s) n) ∧
    (s.clip.state = .stopping → s.clip.audioStop ≠ .nothing ∧
      ∀ b, s.clip.audioStop = .upTo b → blockPlace (blockBegun s) n ≤ blockPlace (blockBegun s) b) := by
  have same : assembled (slotTaken s) = assembled s := by
    rw [assembled, assembled, slotTaken_clip, changesOnly_slotTaken s .tap (by simp)]
  rw [toBeShipped_iff, withinAudioStop_iff, same, slotTaken_clip, slotTaken_audio]
  rfl

/-- The oldest DONE block, or `b` with none (R156). -/
def oldestOr (b : Word32) (a : Audio) : Word32 := ((oldestBlock a (doneBlocks a)).map BlockInfo.number).getD b

theorem oldestOr_spec (b : Word32) (a : Audio) :
    (∀ i, BlockRecord.done i ∈ a.blocks → blockPlace a (oldestOr b a) ≤ blockPlace a i.number) ∧
      ((∃ i, BlockRecord.done i ∈ a.blocks ∧ i.number = oldestOr b a) ∨
        ((∀ i, BlockRecord.done i ∉ a.blocks) ∧ oldestOr b a = b)) := by
  unfold oldestOr
  cases h : oldestBlock a (doneBlocks a) with
  | none =>
    have none_done : ∀ i, BlockRecord.done i ∉ a.blocks := fun i hi => by
      simpa [oldestBlock_eq_none h] using mem_doneBlocks.mpr hi
    exact ⟨fun i hi => absurd hi (none_done i), .inr ⟨none_done, rfl⟩⟩
  | some k =>
    obtain ⟨hk, hall⟩ := oldestBlock_spec h
    exact ⟨fun i hi => hall i (mem_doneBlocks.mpr hi), .inl ⟨k, mem_doneBlocks.mp hk, rfl⟩⟩

/-- The distance from the pointer `p` to block `b` is below half of the slots (R156). -/
def pointerNear (a : Audio) (b p : Word32) : Bool := decide (2 * (b - p).toInt < a.blocks.length)

/-- AUDIO_OVERRUN's cause ends where `near` holds (R156). -/
def overrunEndedIf (near : Bool) (s : State) : State := if near then endCause .audioOverrun s else s

theorem audioOverrunEndTest_eq (s : State) : audioOverrunEndTest s = overrunEndedIf (match s.clip.shipPtr, s.audio.current with
    | some p, some c => pointerNear s.audio c.number p
    | _, _ => false) s := by
  unfold audioOverrunEndTest overrunEndedIf
  cases s.clip.shipPtr <;> cases s.audio.current <;> simp [pointerNear]

theorem changesOnly_overrunEndedIf (near : Bool) (s : State) : changesOnly [.control] s (overrunEndedIf near s) := by
  unfold overrunEndedIf
  split
  · exact changesOnly_endCause _ s
  · exact changesOnly_refl _ s

theorem overrunEndedIf_control_congr (h : t.control = s.control) (near : Bool) :
    (overrunEndedIf near t).control = (overrunEndedIf near s).control := by
  unfold overrunEndedIf
  split
  · exact endCause_control_congr h _
  · exact h

/-- The pointer that the assembler has is near to the block that starts (R156). -/
def shipNear (s : State) : Bool := (s.clip.shipPtr.map (pointerNear s.audio s.audio.nextBlock)).getD false

/-- A start that overwrites nothing to be shipped (R155, R156). -/
theorem startBlock_kept (h : ∀ i, ¬overwritesShipped s i) : startBlock s = overrunEndedIf (shipNear s) (slotTaken s) := by
  rw [startBlock_keeps h, audioOverrunEndTest_eq, slotTaken_shipPtr, slotTaken_audio]
  cases hp : s.clip.shipPtr <;> simp [shipNear, hp, pointerNear, blockBegun]

/-- The part once an overwritten block has moved the pointer to `p` (R156). -/
def pointerMoved (s : State) : State := audioOverrun s.audio.nextBlock (slotTaken s)

theorem pointerMoved_clip (s : State) : (pointerMoved s).clip = { s.clip with
    audioDiscontinuity := true, shipPtr := some (oldestOr s.audio.nextBlock (blockBegun s)) } := by
  rw [pointerMoved, audioOverrun, startCause_clip, State.setClip_clip, slotTaken_audio, slotTaken_clip]
  rfl

theorem pointerMoved_control (s : State) : (pointerMoved s).control = (startCause .audioOverrun s).control := by
  have taken : (startCause .audioOverrun (slotTaken s)).control = (startCause .audioOverrun s).control :=
    startCause_control_congr (changesOnly_slotTaken s .path (by simp)) (changesOnly_slotTaken s .view (by simp))
      (changesOnly_slotTaken s .control (by simp)) _
  rw [← taken]
  exact startCause_control_congr (State.setClip_path _ _) (State.setClip_view _ _) (State.setClip_control _ _) _

theorem changesOnly_pointerMoved (s : State) : changesOnly [.audio, .clip, .control] s (pointerMoved s) :=
  changesOnly_trans (changesOnly_trans (changesOnly_mono (by simp) (changesOnly_slotTaken s)) (changesOnly_mono (by simp)
    (changesOnly_setClip _ _))) (changesOnly_mono (by simp) (changesOnly_startCause _ _))

theorem pointerMoved_audio (s : State) : (pointerMoved s).audio = blockBegun s := by
  rw [pointerMoved, audioOverrun, startCause_audio, State.setClip_audio, slotTaken_audio]

/-- A start that overwrites a block to be shipped (R156). -/
theorem startBlock_moved {i : BlockInfo} (h : overwritesShipped s i) : startBlock s =
    overrunEndedIf (pointerNear s.audio s.audio.nextBlock (oldestOr s.audio.nextBlock (blockBegun s))) (pointerMoved s) := by
  rw [startBlock_overwrites h, ← pointerMoved, audioOverrunEndTest_eq, pointerMoved_clip, pointerMoved_audio]
  simp [pointerNear, blockBegun]

theorem changesOnly_startBlock (s : State) : changesOnly [.audio, .clip, .control] s (startBlock s) := by
  by_cases h : ∃ i, overwritesShipped s i
  · obtain ⟨i, hi⟩ := h
    rw [startBlock_moved hi]
    exact changesOnly_trans (changesOnly_pointerMoved s) (changesOnly_mono (by simp) (changesOnly_overrunEndedIf _ _))
  · rw [startBlock_kept (not_exists.mp h)]
    exact changesOnly_trans (changesOnly_mono (by simp) (changesOnly_slotTaken s))
      (changesOnly_mono (by simp) (changesOnly_overrunEndedIf _ _))

theorem overrunEndedIf_audio (near : Bool) (s : State) : (overrunEndedIf near s).audio = s.audio :=
  changesOnly_overrunEndedIf near s .audio (by simp)

theorem overrunEndedIf_clip (near : Bool) (s : State) : (overrunEndedIf near s).clip = s.clip :=
  changesOnly_overrunEndedIf near s .clip (by simp)

theorem startBlock_audio (s : State) : (startBlock s).audio = blockBegun s := by
  by_cases h : ∃ i, overwritesShipped s i
  · obtain ⟨i, hi⟩ := h
    rw [startBlock_moved hi, overrunEndedIf_audio, pointerMoved_audio]
  · rw [startBlock_kept (not_exists.mp h), overrunEndedIf_audio, slotTaken_audio]

/-! ### The period that starts a block -/

/-- The part after the sample period of `w`, with the frame taken (R145). -/
def periodEnded (base : Nat) (received : BitVec 128) (w : State) : State :=
  (periodFrame received w).2.setAudio (usePeriodFrame base (periodFrame received w).1 (periodFrame received w).2.audio)

theorem audioRegion_startBlock (s : State) : audioRegion (startBlock s) = audioRegion s := by
  have path : (startBlock s).path = s.path := changesOnly_startBlock s .path (by simp)
  exact audioRegion_congr path

theorem samplePeriod_starts {received : BitVec 128} {base size : Nat} (hs : s.audio.state ≠ .off)
    (hregion : audioRegion s = some (base, size)) (hb : s.audio.blocks ≠ []) (hw : s.audio.windowCount < 960)
    (hc : ∀ c, s.audio.current = some c → 1024 ≤ c.index) :
    samplePeriod received s = periodEnded base received (startBlock s) := by
  have window : windowFull s.audio = false := decide_eq_false (Nat.not_le.mpr hw)
  have due : blockDue s.audio = true := by
    unfold blockDue
    cases h : s.audio.current with
    | none => simp [hb]
    | some c => simp [hb, hc c h, Config.blockPeriods]
  unfold samplePeriod
  simp [hs, window, due, audioRegion_startBlock, hregion, periodEnded]

theorem periodEnded_control_quiet {base : Nat} {received : BitVec 128} (h : ¬storeSlips s.audio) :
    (periodEnded base received s).control = s.control := by
  obtain ⟨v, hv, -, -⟩ := periodFrame_quiet received h
  rw [periodEnded, hv]
  rfl

theorem periodEnded_control_slips {base : Nat} {received : BitVec 128} (h : storeSlips s.audio) :
    (periodEnded base received s).control = (startCause .audioSlip s).control := by
  rw [periodEnded, periodFrame_slips received h, State.setAudio_control]
  exact startCause_control_congr (State.setAudio_path _ _) (State.setAudio_view _ _) (State.setAudio_control _ _) _

theorem changesOnly_periodEnded (base : Nat) (received : BitVec 128) (s : State) :
    changesOnly [.audio, .control] s (periodEnded base received s) := by
  refine changesOnly_trans ?_ (changesOnly_mono (by simp) (changesOnly_setAudio _ _))
  by_cases h : storeSlips s.audio
  · rw [periodFrame_slips received h]
    exact changesOnly_trans (changesOnly_mono (by simp) (changesOnly_setAudio _ _))
      (changesOnly_mono (by simp) (changesOnly_startCause _ _))
  · obtain ⟨v, hv, -, -⟩ := periodFrame_quiet received h
    rw [hv]
    exact changesOnly_mono (by simp) (changesOnly_setAudio _ _)

theorem done_flagCurrent {f : BlockFlags → BlockFlags} {a : Audio} {j : Nat} {k : BlockInfo} :
    (flagCurrent f a).blocks[j]? = some (.done k) ↔ a.blocks[j]? = some (.done k) := by
  cases hc : a.current with
  | none => rw [flagCurrent_none hc]
  | some c =>
    rw [flagCurrent_blocks hc, List.getElem?_map]
    cases a.blocks[j]? with
    | none => simp
    | some r =>
      cases r with
      | filling i => by_cases hn : i.number = c.number <;> simp [flagBlock, hn]
      | _ => simp [flagBlock]

theorem done_periodEnded {base : Nat} {received : BitVec 128} {j : Nat} {k : BlockInfo} :
    (periodEnded base received s).audio.blocks[j]? = some (.done k) ↔ s.audio.blocks[j]? = some (.done k) := by
  rw [periodEnded, State.setAudio_audio, usePeriodFrame_eq, done_flagCurrent]
  by_cases h : storeSlips s.audio
  · rw [periodFrame_slips received h, audioSlip_audio]
    exact done_flagCurrent
  · obtain ⟨v, hv, hblocks, -⟩ := periodFrame_quiet received h
    rw [hv, State.setAudio_audio, hblocks]

end

/-- A block to be shipped meets none of the reasons for which an overwritten block has no effect (R156). -/
theorem not_keptBlock {s : State} {n : Word32} (lost : s.clip.audioPart = true ∧ assembled s = true ∧
      (∃ q, s.clip.shipPtr = some q ∧ blockPlace (blockBegun s) q ≤ blockPlace (blockBegun s) n) ∧
      (s.clip.state = .stopping → s.clip.audioStop ≠ .nothing ∧
        ∀ b, s.clip.audioStop = .upTo b → blockPlace (blockBegun s) n ≤ blockPlace (blockBegun s) b)) :
    ¬(s.clip.audioPart = false ∨ s.clip.shipPtr = none ∨ s.clip.state = .idle ∨ s.clip.state = .armed ∨
      (∃ q, s.clip.shipPtr = some q ∧ blockPlace (blockBegun s) n < blockPlace (blockBegun s) q) ∨
      (s.clip.state = .stopping ∧ (s.clip.stopPos ≤ s.tap.ship ∨ s.clip.audioStop = .nothing ∨
        ∃ e, s.clip.audioStop = .upTo e ∧ blockPlace (blockBegun s) e < blockPlace (blockBegun s) n))) := by
  obtain ⟨part, asm, ⟨q, hq, hqn⟩, stop⟩ := lost
  have state := (assembled_iff s).mp asm
  rintro (h | h | h | h | ⟨p, hp, hlt⟩ | ⟨stopping, h | h | ⟨e, he, hlt⟩⟩)
  · simp [part] at h
  · simp [hq] at h
  · simp [h] at state
  · simp [h] at state
  · obtain rfl : q = p := Option.some.inj (hq.symm.trans hp)
    omega
  · simp [stopping] at state
    omega
  · exact (stop stopping).1 h
  · have := (stop stopping).2 e he
    omega

/-- Settles O39: the start of the block gives the record, the pointer and the cause of AUDIO_OVERRUN, and the period's frame is then
taken into the block as in any other period. -/
theorem blocksStartInTheirSlots : Obligations.BlocksStartInTheirSlots := by
  unfold Obligations.BlocksStartInTheirSlots
  intro received slot base size s hrun hs hregion hb hw hc hslot
  subst hslot
  intro begun place near marked
  have hexec : exec (.samplePeriod received) s = .next (periodEnded base received (startBlock s)) :=
    (act_of_running _ hrun).trans (congrArg _ (samplePeriod_starts hs hregion hb hw hc))
  have audio : (startBlock s).audio = begun := startBlock_audio s
  have slips : storeSlips (startBlock s).audio ↔ storeSlips s.audio := by rw [audio]; rfl
  have taken : periodTaken base received begun (periodEnded base received (startBlock s)).audio := by
    have ends := periodTaken_periodFrame base received (startBlock s)
    rwa [audio] at ends
  have only : changesOnly [.audio, .clip, .control] s (periodEnded base received (startBlock s)) :=
    changesOnly_trans (changesOnly_startBlock s) (changesOnly_mono (by simp) (changesOnly_periodEnded _ _ _))
  have clip : (periodEnded base received (startBlock s)).clip = (startBlock s).clip := changesOnly_periodEnded _ _ _ .clip (by simp)
  have control {u : State} (hu : (startBlock s).control = u.control) (hp : (startBlock s).path = u.path)
      (hv : (startBlock s).view = u.view) :
      (storeSlips s.audio → (periodEnded base received (startBlock s)).control = (startCause .audioSlip u).control) ∧
        (¬storeSlips s.audio → (periodEnded base received (startBlock s)).control = u.control) :=
    ⟨fun h => (periodEnded_control_slips (slips.mpr h)).trans (startCause_control_congr hp hv hu _),
      fun h => (periodEnded_control_quiet (mt slips.mp h)).trans hu⟩
  have path : (startBlock s).path = s.path := changesOnly_startBlock s .path (by simp)
  have view : (startBlock s).view = s.view := changesOnly_startBlock s .view (by simp)
  by_cases h : ∃ i, overwritesShipped s i
  · obtain ⟨i, hi⟩ := h
    have moved := startBlock_moved hi
    have lost := toBeShipped_slotTaken.mp hi.2
    have near_control : (startBlock s).control =
        (overrunEndedIf (near (oldestOr s.audio.nextBlock (blockBegun s))) (startCause .audioOverrun s)).control := by
      rw [moved]
      exact overrunEndedIf_control_congr (pointerMoved_control s) _
    have ends := control near_control
      (path.trans ((changesOnly_overrunEndedIf _ _ .path (by simp)).trans (startCause_path _ _)).symm)
      (view.trans ((changesOnly_overrunEndedIf _ _ .view (by simp)).trans (startCause_view _ _)).symm)
    refine ⟨_, _, hexec, only, taken, ends.1, ends.2, fun hkept => ?_, fun k q hk _ _ _ _ => ?_⟩
    · exact absurd (hkept i hi.1) (not_keptBlock lost)
    · have done {j : Nat} {k : BlockInfo} : (periodEnded base received (startBlock s)).audio.blocks[j]? = some (.done k) ↔
          (blockBegun s).blocks[j]? = some (.done k) := done_periodEnded.trans (by rw [audio]; rfl)
      obtain ⟨oldest, named⟩ := oldestOr_spec s.audio.nextBlock (blockBegun s)
      refine ⟨oldestOr s.audio.nextBlock (blockBegun s), ?_, fun hn => by rw [hn]; rfl, fun hn => by rw [hn]; rfl,
        fun j k hj => oldest k (List.mem_of_getElem? (done.mp hj)), named.imp (fun ⟨k, hk, hkp⟩ => ?_) (fun ⟨none_done, hp⟩ => ?_)⟩
      · rw [clip, moved, overrunEndedIf_clip, pointerMoved_clip]
      · obtain ⟨j, hj⟩ := List.mem_iff_getElem?.mp hk
        exact ⟨j, k, done.mpr hj, hkp⟩
      · exact ⟨fun j k hj => none_done k (List.mem_of_getElem? (done.mp hj)), hp⟩
  · have kept := startBlock_kept (not_exists.mp h)
    have near_control : (startBlock s).control = (overrunEndedIf (shipNear s) s).control := by
      rw [kept]
      exact overrunEndedIf_control_congr (changesOnly_slotTaken s .control (by simp)) _
    have ends := control near_control (path.trans (changesOnly_overrunEndedIf _ _ .path (by simp)).symm)
      (view.trans (changesOnly_overrunEndedIf _ _ .view (by simp)).symm)
    have marks := markSlotStart_clip (blockSlot s.audio s.audio.nextBlock) (s.setAudio (blockBegun s))
    have taken_clip : (periodEnded base received (startBlock s)).clip = (slotTaken s).clip := by
      rw [clip, kept, overrunEndedIf_clip]
    refine ⟨_, _, hexec, only, taken, ends.1, ends.2, fun _ => ⟨fun far => ?_, fun p hp hnear => ?_,
      fun b n k hk => taken_clip.trans (marks.1 b n k hk), fun hk => taken_clip.trans (marks.2 hk)⟩,
      fun i q hi part hq hqi st => absurd ⟨i, hi, ?_⟩ h⟩
    · have away : shipNear s = false := by
        cases hp : s.clip.shipPtr with
        | none => rw [shipNear, hp]; rfl
        | some p => rw [shipNear, hp]; exact far p hp
      rw [away]
      rfl
    · have close : shipNear s = true := by rw [shipNear, hp]; exact hnear
      rw [close]
      rfl
    · refine toBeShipped_slotTaken.mpr ⟨part, (assembled_iff s).mpr (st.imp id fun ⟨a, b, _⟩ => ⟨a, b⟩), ⟨q, hq, hqi⟩, fun stopping => ?_⟩
      rcases st with recording | ⟨-, -, e, he, hie⟩
      · rw [recording] at stopping
        cases stopping
      · refine ⟨by rw [he]; simp, fun b hb => ?_⟩
        rw [he] at hb
        cases hb
        exact hie

end Sys2Proof.Machine

namespace Sys2Proof.Machine

/-! ### Bytes into the open page (R36) -/

/-- The bytes that wait to be laid, in order. -/
def waiting (l : List LayRun) : List Byte := l.flatMap LayRun.bytes

theorem layPage_fields (l : List LayRun) (p : PageRecord) : (layPage l p).1 =
    { p with content := (layPage l p).1.content, firstHeader := (layPage l p).1.firstHeader } := by
  induction l generalizing p with
  | nil => rfl
  | cons r rest ih =>
    unfold layPage
    dsimp only
    split
    · rfl
    · split
      · rw [ih]
      · rfl

/-- No byte is lost or reordered (R36). -/
theorem layPage_content (l : List LayRun) (p : PageRecord) :
    (layPage l p).1.content ++ waiting (layPage l p).2 = p.content ++ waiting l := by
  induction l generalizing p with
  | nil => rfl
  | cons r rest ih =>
    unfold layPage
    dsimp only
    split
    · rfl
    · split
      · rename_i hfit
        rw [ih]
        simp [waiting, List.take_of_length_le hfit]
      · simp only [waiting, List.flatMap_cons, List.append_assoc]
        rw [← List.append_assoc (r.bytes.take _), List.take_append_drop]

/-- A page takes what it has room for (R36). -/
theorem layPage_length (l : List LayRun) (p : PageRecord) (h : p.content.length ≤ 4096) :
    (layPage l p).1.content.length = min 4096 (p.content.length + (waiting l).length) := by
  induction l generalizing p with
  | nil => simp [layPage, waiting, h]
  | cons r rest ih =>
    have total : (waiting (r :: rest)).length = r.bytes.length + (waiting rest).length := by simp [waiting]
    unfold layPage
    dsimp only [Config.pageBytes]
    split
    · dsimp only
      omega
    · split
      · rename_i hfit
        have whole : (p.content ++ r.bytes.take (4096 - p.content.length)).length = p.content.length + r.bytes.length := by
          rw [List.take_of_length_le hfit, List.length_append]
        rw [ih _ (by dsimp only; omega)]
        dsimp only
        omega
      · rw [List.length_append, List.length_take]
        omega

theorem openPage_unsealed {c : Clip} {p : PageRecord} (h : openPage c = some p) : p.sealed = false := by
  unfold openPage at h
  split at h
  · split at h
    · cases h
    · rename_i hs
      cases h
      exact Bool.eq_false_iff.mpr hs
  · cases h

theorem lay_open {c : Clip} {p : PageRecord} (h : openPage c = some p) : lay c =
    { c with pages := c.pages.dropLast ++ [sealIfFull (layPage c.lay p).1], lay := (layPage c.lay p).2 } := by
  unfold lay
  rw [h]

theorem sealIfFull_eq (p : PageRecord) : sealIfFull p = { p with sealed := p.sealed || decide (p.content.length = 4096) } := by
  unfold sealIfFull
  split
  · rename_i h
    have full : p.content.length = 4096 := h
    simp [full]
  · rename_i h
    have room : p.content.length ≠ 4096 := h
    simp [room]

/-! ### Chunk boundaries and unbounded room (R32, R38) -/

section

variable {s : State}

theorem assemblerStalled_iff {c : Clip} : assemblerStalled c = true ↔ openPage c = none ∧ 8 ≤ c.pages.length := by
  rw [assemblerStalled, Bool.and_eq_true, Option.isNone_iff_eq_none, decide_eq_true_eq]
  rfl

theorem atBoundary_iff (h : running s) : atBoundary s.clip = true ↔ chunkBoundary s := by
  have stalls : assemblerStalled s.clip = false ↔ (openPage s.clip = none → s.clip.pages.length < 8) := by
    rw [← Bool.not_eq_true, assemblerStalled_iff, not_and, Nat.not_le]
  simp [atBoundary, chunkBoundary, h, stalls, and_assoc]

theorem cardRoom_unbounded {x : CardSlot} (h : ∃ n e, (s.card x).lookahead = .au n e) : cardRoom s x = ⟨none, false⟩ := by
  obtain ⟨n, e, h⟩ := h
  simp [cardRoom, h]

theorem clipRoom_unbounded (h : roomUnbounded s) : clipRoom s = ⟨none, false⟩ := by
  obtain ⟨some_target, all⟩ := h
  unfold clipRoom
  cases ha : s.clip.targets.a <;> cases hb : s.clip.targets.b
  · exact absurd (congrArg₂ CardSet.mk ha hb) some_target
  · exact cardRoom_unbounded (all .b hb)
  · exact cardRoom_unbounded (all .a ha)
  · dsimp only
    rw [cardRoom_unbounded (all .a ha), cardRoom_unbounded (all .b hb)]
    rfl

theorem chunkHeader_length (c : Clip) (kind flags : Byte) (len locator : Nat) (stamp : Word32) (first : Nat) :
    (chunkHeader c kind flags len locator stamp first).length = 32 := by
  simp [chunkHeader, headerBytes, headerBody]

/-! ### PAGE_OPEN (R36, R37, R39) -/

theorem pageOpen_still (h : openPage s.clip ≠ none ∨ 8 ≤ s.clip.pages.length ∨ s.clip.state = .idle ∨ s.clip.state = .armed) :
    pageOpen s = s := by
  refine if_neg fun ⟨state, noOpen, room, _⟩ => ?_
  rcases h with h | h | h | h
  · exact h noOpen
  · exact absurd room (Nat.not_lt.mpr h)
  · simp [h] at state
  · simp [h] at state

theorem pageWanted_of (h : s.clip.relayHead = true ∨ s.clip.lay ≠ [] ∨ s.clip.run ≠ .none ∨ (s.clip.closed = false ∧ roomUnbounded s)) :
    pageWanted s = true := by
  unfold pageWanted
  rcases h with h | h | h | ⟨hc, hr⟩
  · simp [h]
  · simp [h]
  · simp [h]
  · simp [hc, clipRoom_unbounded hr]

/-- The 64 bytes of a RELAY_CONTINUE CLIP_HEAD at the start of a page (R31, R39, R209). -/
theorem clipHead_relay (c : Clip) : clipHead c c.targets true 64 = chunkHeader c 1 4 32 0 c.startFrame 64 ++
    littleEndian 2 c.clipNumber.toNat ++ [c.mode.code, c.targets.role] ++ littleEndian 4 c.startFrame.toNat ++ littleEndian 8 c.preRecord
    ++ littleEndian 2 64 ++ List.replicate 14 (0 : Byte) := by
  rw [clipHead, toLength_eq (by simp)]
  simp only [List.append_assoc, List.length_append, littleEndian_length]
  rfl

theorem pageOpen_opens (hstate : s.clip.state = .recording ∨ s.clip.state = .stopping) (hopen : openPage s.clip = none)
    (hroom : s.clip.pages.length < 8) (hw : pageWanted s = true) : pageOpen s = presentClipRead (s.setClip (lay { s.clip with
      pages := s.clip.pages ++ [newPage s.clip], relayHead := false
      lay := if s.clip.relayHead then ⟨true, clipHead s.clip s.clip.targets true 64⟩ :: s.clip.lay else s.clip.lay
      chunkSeq := if s.clip.relayHead then s.clip.chunkSeq + 1 else s.clip.chunkSeq })) := by
  unfold pageOpen
  rw [if_pos ⟨hstate, hopen, hroom, hw⟩]
  cases s.clip.relayHead <;> rfl

/-! ### CLIP_CLOSE (R28, R35, R36) -/

theorem closingDue_iff : closingDue s = true ↔ s.clip.state = .stopping ∧ atBoundary s.clip = true ∧ s.clip.stopPos ≤ s.tap.ship ∧
    audioShipped s = true := by
  simp [closingDue, and_assoc]

theorem audioShipped_of (h : s.clip.audioPart = false ∨ s.clip.audioStop = .nothing ∨ ∃ b p, s.clip.audioStop = .upTo b ∧
      s.clip.shipPtr = some p ∧ ∀ i, BlockRecord.done i ∈ s.audio.blocks ∨ BlockRecord.filling i ∈ s.audio.blocks →
        ¬(blockPlace s.audio p ≤ blockPlace s.audio i.number ∧ blockPlace s.audio i.number ≤ blockPlace s.audio b)) :
    audioShipped s = true := by
  unfold audioShipped
  rcases h with h | h | ⟨b, p, hb, hp, hall⟩
  · simp [h]
  · simp [h]
  · rw [hb, hp]
    cases s.clip.audioPart
    · rfl
    · dsimp only
      rw [Bool.or_eq_true, decide_eq_true_eq, or_iff_not_imp_left]
      refine fun hle => List.all_eq_true.mpr fun i hi => ?_
      obtain ⟨r, hr, hri⟩ := List.mem_filterMap.mp hi
      have held : BlockRecord.done i ∈ s.audio.blocks ∨ BlockRecord.filling i ∈ s.audio.blocks := by
        cases r <;> simp [doneOf, fillingOf] at hri <;> subst hri
        · exact .inr hr
        · exact .inl hr
      refine bne_iff_ne.mpr fun e => hall i held ?_
      rw [e]
      exact ⟨le_rfl, Int.not_lt.mp hle⟩

/-- Bytes from the end of the closing INDEX chunk to the end of its page (R28, R36). -/
def closingFill (c : Clip) : Nat := (4096 - (openUsed c + 32 + 16 * c.index.length) % 4096) % 4096

theorem indexEntryBytes_length (start : Nat) (e : Entry) : (indexEntryBytes start e).length = 16 := by simp [indexEntryBytes]

theorem indexBytes_length (start : Nat) (l : List Entry) : (l.flatMap (indexEntryBytes start)).length = 16 * l.length := by
  induction l with
  | nil => rfl
  | cons e rest ih => rw [List.flatMap_cons, List.length_append, ih, indexEntryBytes_length, List.length_cons]; omega

theorem layClosing_eq (h : s.clip.lay = []) : layClosing s =
    s.setClip { lay (fill (closingFill s.clip) (layIndex s.clip)) with closed := true } := by
  have used : openUsed (layIndex s.clip) + layBytes (layIndex s.clip).lay = openUsed s.clip + 32 + 16 * s.clip.index.length := by
    have pages : openUsed (layIndex s.clip) = openUsed s.clip := rfl
    rw [pages]
    simp only [layIndex, addChunk, h, layBytes, List.nil_append, List.map_cons, List.map_nil, List.sum_singleton,
      List.length_append, chunkHeader_length, indexBytes_length]
    omega
  unfold layClosing
  dsimp only [Config.pageBytes]
  rw [used]
  rfl

/-- The closing INDEX chunk with its fill (R28, R36). -/
theorem fill_layIndex {c : Clip} {n : Nat} (h : c.lay = []) : fill n (layIndex c) =
    let chunk : LayRun := ⟨true, chunkHeader c 4 0 (16 * c.index.length) 0 ((c.index.getLast?.map Entry.frame).getD 0) 0
      ++ c.index.flatMap (indexEntryBytes c.clipStart)⟩
    let pad : LayRun := ⟨true, chunkHeader { c with chunkSeq := c.chunkSeq + 1 } 5 0 (n - 32) 0 0 0 ++ List.replicate (n - 32) (0 : Byte)⟩
    { c with
      index := []
      lay := if n = 0 then [chunk] else if n < 32 then [chunk, ⟨false, List.replicate n (0 : Byte)⟩] else [chunk, pad]
      chunkSeq := if n < 32 then c.chunkSeq + 1 else c.chunkSeq + 2 } := by
  have two : c.chunkSeq + 1 + 1 = c.chunkSeq + 2 := by rw [add_assoc]; rfl
  unfold fill layIndex addChunk
  rw [h]
  dsimp only
  by_cases h0 : n = 0
  · subst h0
    rfl
  · by_cases h32 : n < 32
    · simp only [h0, h32, if_true, if_false]
      rfl
    · simp only [h0, h32, if_false, two]
      rfl

theorem clipClose_closes (hb : atBoundary s.clip = true) (hstate : s.clip.state = .stopping) (hship : s.clip.stopPos ≤ s.tap.ship)
    (hroom : roomUnbounded s) (ha : audioShipped s = true) : clipClose s = layClosing s := by
  have due : closingDue s = true := closingDue_iff.mpr ⟨hstate, hb, hship, ha⟩
  unfold clipClose
  simp [due, clipRoom_unbounded hroom, atEnd, fits]

theorem clipClose_still (h : s.clip.state ≠ .stopping ∨ s.tap.ship < s.clip.stopPos) : clipClose s = s := by
  refine if_pos ?_
  rw [Bool.not_eq_true', ← Bool.not_eq_true, closingDue_iff]
  rintro ⟨hstate, -, hship, -⟩
  rcases h with h | h
  · exact h hstate
  · exact absurd hship (Nat.not_le.mpr h)

/-! ### RECORDING_STOPPED (R28) -/

/-- The assembler and the cards once the clip has ended, before the reports (R28, R41). -/
def clipReturned (s : State) : State := releaseCard .b (releaseCard .a (s.setClip { s.clip with
  state := .idle, stopCmd := none, closed := false, shipPtr := none, audioDiscontinuity := false }))

theorem recordingStopped_still (h : s.clip.state ≠ .stopping ∨ s.clip.closed = false ∨ s.clip.pages ≠ []) : recordingStopped s = s := by
  refine if_neg fun ⟨hstate, hclosed, _, hpages⟩ => ?_
  rcases h with h | h | h
  · exact h hstate
  · rw [h] at hclosed
    cases hclosed
  · exact h (List.isEmpty_iff.mp hpages)

theorem reports_commandEnds (k : Kept) (r : Result) (s : State) : reports (commandEnds (some k) r) s = commandDone k r s := by
  cases hn : k.notify <;> simp [commandEnds, commandDone, hn, reports, report]

theorem reports_append (l m : List Report) (s : State) : reports (l ++ m) s = reports m (reports l s) := List.foldl_append

theorem recordingStopped_ends (hstate : s.clip.state = .stopping) (hclosed : s.clip.closed = true) (hlay : s.clip.lay = [])
    (hpages : s.clip.pages = []) : recordingStopped s = reports (commandEnds s.clip.stopCmd .ok)
      (postNotice (.recState .stopped .idle none s.clip.mode s.clip.clipNumber s.clip.chunkSeq) (endCause .audioOverrun (clipReturned s))) := by
  unfold recordingStopped
  rw [if_pos ⟨hstate, hclosed, by rw [hlay]; rfl, by rw [hpages]; rfl⟩, reports_append, releaseCard_clip, releaseCard_clip]
  rfl

theorem changesOnly_clipReturned (s : State) : changesOnly [.clip, .card .a, .card .b, .control] s (clipReturned s) :=
  changesOnly_trans (changesOnly_trans (changesOnly_mono (by simp) (changesOnly_setClip _ s))
    (changesOnly_mono (by simp) (changesOnly_releaseCard .a _))) (changesOnly_mono (by simp) (changesOnly_releaseCard .b _))

theorem clipReturned_clip (s : State) : (clipReturned s).clip = { s.clip with
    state := .idle, stopCmd := none, closed := false, shipPtr := none, audioDiscontinuity := false } := by
  rw [clipReturned, releaseCard_clip, releaseCard_clip, State.setClip_clip]

theorem cardMoved_clipReturned (x : CardSlot) (s : State) :
    cardMoved s (clipReturned s) x (if (s.card x).state = .active then .ready else (s.card x).state) := by
  unfold clipReturned
  generalize hu : s.setClip _ = u
  have cards : ∀ y, s.card y = u.card y := fun y => by rw [← hu, State.setClip_card]
  have moved : cardMoved u (releaseCard .b (releaseCard .a u)) x (if (u.card x).state = .active then .ready else (u.card x).state) := by
    cases x with
    | a =>
      have kept : (releaseCard .b (releaseCard .a u)).card .a = (releaseCard .a u).card .a := changesOnly_releaseCard .b _ (.card .a) (by simp)
      have ended := cardMoved_releaseCard .a u
      rwa [cardMoved, ← kept] at ended
    | b =>
      have kept : (releaseCard .a u).card .b = u.card .b := changesOnly_releaseCard .a u (.card .b) (by simp)
      have ended := cardMoved_releaseCard .b (releaseCard .a u)
      rwa [cardMoved, kept] at ended
  rw [cardMoved, ← cards] at moved
  exact moved

end

/-- Settles O50: what is laid fills the open page in order, and each row is its branch. -/
theorem pagesOpenAndClipsClose : Obligations.PagesOpenAndClipsClose := by
  unfold Obligations.PagesOpenAndClipsClose
  refine ⟨fun c p hp hlen => ?_, fun s hrun => ⟨fun h => ?_, ?_⟩, fun s hrun => ⟨fun h => ?_, ?_⟩,
    fun s hrun => ⟨fun h => ?_, fun hstate hclosed hlay hpages => ?_⟩⟩
  · have unsealed := openPage_unsealed hp
    have fields := layPage_fields c.lay p
    have length := layPage_length c.lay p hlen
    have content := layPage_content c.lay p
    refine ⟨sealIfFull (layPage c.lay p).1, by rw [lay_open hp], ?_⟩
    rw [lay_open hp, sealIfFull_eq]
    refine ⟨content, length, ?_, ?_, ?_, rfl, rfl⟩
    · rw [fields, unsealed]
      simp
    · rw [fields]
    · rw [fields]
  · exact (act_of_running _ hrun).trans (congrArg _ (pageOpen_still h))
  · intro hstate hopen hroom hw page head
    refine (act_of_running _ hrun).trans (congrArg _ ?_)
    rw [pageOpen_opens hstate hopen hroom (pageWanted_of hw), clipHead_relay]
    rfl
  · exact (act_of_running _ hrun).trans (congrArg _ (clipClose_still h))
  · intro hb hstate hship hroom ha n chunk pad
    have boundary := (atBoundary_iff hrun).mpr hb
    obtain ⟨-, -, -, -, hlay, -⟩ := hb
    refine (act_of_running _ hrun).trans (congrArg _ ?_)
    rw [clipClose_closes boundary hstate hship hroom (audioShipped_of ha), layClosing_eq hlay, fill_layIndex hlay]
    rfl
  · exact (act_of_running _ hrun).trans (congrArg _ (recordingStopped_still h))
  · refine ⟨endCause .audioOverrun (clipReturned s), changesOnly_trans (changesOnly_clipReturned s)
      (changesOnly_mono (by simp) (changesOnly_endCause _ _)), ?_, fun x => ?_, ?_⟩
    · rw [endCause_clip, clipReturned_clip]
    · have moved := cardMoved_clipReturned x s
      rwa [cardMoved, ← endCause_card (c := .audioOverrun)] at moved
    · refine (act_of_running _ hrun).trans (congrArg _ ?_)
      rw [recordingStopped_ends hstate hclosed hlay hpages]
      cases s.clip.stopCmd with
      | none => rfl
      | some k => exact reports_commandEnds k .ok _

end Sys2Proof.Machine

namespace Sys2Proof.Machine

/-! ### The notices of a step (R192 to R195) -/

/-- From `s` to `t` notices of the kinds and sources `l` may have been posted, one of each: nothing presented or pending is lost but a
pending notice whose place such a notice takes. -/
structure postsOnly (l : List (Byte × Byte)) (s t : State) : Prop where
  frame : t.view.frameCount = s.view.frameCount
  mem : t.path.memSize = s.path.memSize
  copy : t.path.consumerCopy = s.path.consumerCopy
  mask : t.control.noticeMask = s.control.noticeMask
  full : 64 ≤ unread s → 64 ≤ unread t
  room : unread t ≤ unread s + l.length
  writes : ∀ w ∈ s.control.writes, w ∈ t.control.writes
  pend : ∀ p ∈ s.control.pendingNotices, (p.notice.kind, p.notice.source) ∉ l → p ∈ t.control.pendingNotices

/-- Kind and source of a notice, by which it takes its place among the pending (R195). -/
def noticePlace (n : Notice) : Byte × Byte := (n.kind, n.source)

section

variable {s t u : State} {l m : List (Byte × Byte)}

theorem postsOnly.trans (h : postsOnly l s t) (k : postsOnly m t u) : postsOnly (l ++ m) s u where
  frame := k.frame.trans h.frame
  mem := k.mem.trans h.mem
  copy := k.copy.trans h.copy
  mask := k.mask.trans h.mask
  full hs := k.full (h.full hs)
  room := by
    have first := h.room
    have second := k.room
    rw [List.length_append]
    omega
  writes w hw := k.writes w (h.writes w hw)
  pend p hp hn := by
    rw [List.mem_append, not_or] at hn
    exact k.pend p (h.pend p hp hn.1) hn.2

theorem postsOnly.mono (h : postsOnly l s t) (sub : l.Sublist m) : postsOnly m s t :=
  { h with
    room := h.room.trans (Nat.add_le_add_left sub.length_le _)
    pend := fun p hp hn => h.pend p hp fun mem => hn (sub.subset mem) }

/-- The place of the CMD_DONE of a command that may wait (R192, R195). -/
def donePlaces (cmd : Option Kept) : List (Byte × Byte) := cmd.toList.map fun k => (2, k.code)

/-- A step that leaves the ring, the pending notices and the frame count posts nothing. -/
theorem postsOnly_of_still (hv : t.view = s.view) (hp : t.path.memSize = s.path.memSize) (hc : t.path.consumerCopy = s.path.consumerCopy)
    (hctl : t.control = { s.control with conditions := t.control.conditions }) : postsOnly [] s t := by
  have places : unread t = unread s := by rw [unread, unread, hc, hctl]
  refine ⟨by rw [hv], hp, hc, by rw [hctl], fun h => places ▸ h, places.le, fun w hw => by rw [hctl]; exact hw, fun p hp _ => ?_⟩
  rw [hctl]
  exact hp

theorem postsOnly_refl (s : State) : postsOnly [] s s := postsOnly_of_still rfl rfl rfl rfl

theorem postsOnly_setClip (v : Clip) (s : State) : postsOnly [] s (s.setClip v) := postsOnly_of_still rfl rfl rfl rfl
theorem postsOnly_setCard (x : CardSlot) (v : Card) (s : State) : postsOnly [] s (s.setCard x v) := by
  cases x <;> exact postsOnly_of_still rfl rfl rfl rfl
theorem postsOnly_abandonReads (lost : Destination → Bool) (s : State) : postsOnly [] s (abandonReads s lost) :=
  postsOnly_of_still rfl rfl rfl rfl

theorem postsOnly_endCause (c : Condition) (s : State) : postsOnly [] s (endCause c s) :=
  postsOnly_of_still (by simp) (by rw [endCause_path]) (by rw [endCause_path]) (by rw [endCause_control])

theorem mem_pendNotice_of_other {p q : StampedNotice} {l : List StampedNotice} (hq : q ∈ l) (h : sameSource q.notice p.notice = false) :
    q ∈ pendNotice p l := by
  induction l with
  | nil => cases hq
  | cons r rest ih =>
    unfold pendNotice
    split
    · rename_i same
      refine List.mem_cons_of_mem _ ((List.mem_cons.mp hq).resolve_left fun e => ?_)
      rw [← e, h] at same
      cases same
    · rcases List.mem_cons.mp hq with rfl | hq
      · exact List.mem_cons_self
      · exact List.mem_cons_of_mem _ (ih hq)

/-- A notice that pends is among the pending (R195). -/
theorem mem_pendNotice (p : StampedNotice) (l : List StampedNotice) :
    ∃ q ∈ pendNotice p l, q.notice = p.notice ∧ q.frame = p.frame := by
  induction l with
  | nil => exact ⟨p, List.mem_cons_self, rfl, rfl⟩
  | cons r rest ih =>
    unfold pendNotice
    split
    · exact ⟨_, List.mem_cons_self, rfl, rfl⟩
    · obtain ⟨q, hq, same⟩ := ih
      exact ⟨q, List.mem_cons_of_mem _ hq, same⟩

theorem frameCount_postNotice (n : Notice) (s : State) : (postNotice n s).view.frameCount = s.view.frameCount := by
  rcases Nat.lt_or_ge (unread s) 64 with h | h
  · rw [postNotice_of_room h]
    cases n with
    | tapEvent src => cases src <;> rfl
    | auBad slot => cases slot <;> rfl
    | _ => rfl
  · rw [postNotice_of_full h]
    rfl

theorem postsOnly_postNotice (n : Notice) (s : State) : postsOnly [noticePlace n] s (postNotice n s) := by
  refine ⟨frameCount_postNotice n s, by rw [postNotice_path], by rw [postNotice_path], ?_, fun h => ?_, ?_, fun w hw => ?_,
    fun p hp hn => ?_⟩
  · rcases Nat.lt_or_ge (unread s) 64 with h | h
    · rw [postNotice_of_room h, clearNoticeCount_control]
      rfl
    · rw [postNotice_of_full h]
      rfl
  · rw [postNotice_of_full h]
    exact h
  · rcases Nat.lt_or_ge (unread s) 64 with h | h
    · have next : unread (postNotice n s) = unread s + 1 := by
        refine unread_succ ?_ (by rw [postNotice_path]) h
        rw [postNotice_of_room h, clearNoticeCount_control]
        rfl
      exact next.le
    · rw [postNotice_of_full h]
      exact Nat.le_add_right _ _
  · rcases Nat.lt_or_ge (unread s) 64 with h | h
    · rw [postNotice_of_room h, clearNoticeCount_control, writeRing_control]
      exact List.mem_append_left _ hw
    · rw [postNotice_of_full h]
      exact hw
  · rcases Nat.lt_or_ge (unread s) 64 with h | h
    · rw [postNotice_of_room h, clearNoticeCount_control, writeRing_control]
      exact hp
    · rw [postNotice_of_full h]
      refine mem_pendNotice_of_other hp (sameSource_eq_false ?_)
      by_contra both
      rw [not_or, not_not, not_not] at both
      exact hn (List.mem_singleton.mpr (Prod.ext both.1 both.2))

theorem postsOnly_startCause (c : Condition) (s : State) : postsOnly [noticePlace (.condition c)] s (startCause c s) := by
  have set : postsOnly [] s (setCondState s c .active) := postsOnly_of_still rfl rfl rfl rfl
  unfold startCause
  dsimp only
  split
  · exact (postsOnly_refl s).mono (List.nil_sublist _)
  · split
    · exact set.mono (List.nil_sublist _)
    · exact set.trans (postsOnly_postNotice _ _)

/-- The place of the CARD_STATE notices of a slot (R51, R195). -/
def cardPlace (x : CardSlot) : Byte × Byte := (4, BitVec.ofNat 8 (3 * slotNumber x))

theorem postsOnly_cardState (x : CardSlot) (new old : CardState) (au : Option Word16) (i : Nat) (probed : Option (Word16 × Word64))
    (s : State) : postsOnly [cardPlace x] s (postNotice (.cardState x new old au i probed) s) :=
  postsOnly_postNotice (.cardState x new old au i probed) s

theorem postsOnly_setCardState (x : CardSlot) (new : CardState) (s : State) :
    postsOnly [cardPlace x] s (setCardState x new s) := by
  unfold setCardState
  dsimp only
  split
  · exact (postsOnly_refl s).mono (List.nil_sublist _)
  · refine postsOnly.trans (l := []) ?_ (postsOnly_cardState _ _ _ _ _ _ _)
    split
    · exact (postsOnly_setCard x _ s).trans (postsOnly_endCause _ _)
    · exact postsOnly_setCard x _ s

theorem postsOnly_continueErase (x : CardSlot) (s : State) : postsOnly [] s (continueErase x s) := by
  unfold continueErase
  dsimp only
  split
  · split
    · exact postsOnly_setCard x _ _
    · exact postsOnly_refl _
  · exact postsOnly_refl _

theorem postsOnly_releaseCard (x : CardSlot) (s : State) :
    postsOnly [cardPlace x] s (releaseCard x s) := by
  unfold releaseCard
  split
  · exact (postsOnly_setCardState x .ready s).trans (postsOnly_continueErase x _)
  · exact (postsOnly_refl s).mono (List.nil_sublist _)

theorem postsOnly_commandEnds (cmd : Option Kept) (r : Result) (s : State) :
    postsOnly (donePlaces cmd) s (reports (commandEnds cmd r) s) := by
  cases cmd with
  | none => exact postsOnly_refl s
  | some k =>
    rw [reports_commandEnds]
    dsimp only [commandDone]
    split
    · exact postsOnly_postNotice (.cmdDone k r) s
    · exact (postsOnly_refl s).mono (List.nil_sublist _)

/-! ### Posted notices stand (R193, R194, R195) -/

theorem controlPage_congr (h : t.path.memSize = s.path.memSize) : controlPage t = controlPage s := by rw [controlPage, controlPage, h]

/-- A notice that is posted after fewer than 16 others is written with the ring as it then stands (R194). -/
theorem noticeWritten_postNotice (h : postsOnly l s u) (hl : l.length < 16) (n : Notice) : noticeWritten n s u (postNotice n u) := by
  intro hroom
  have room : unread u < 64 := by
    have := h.room
    omega
  refine ⟨u.control.reportProducer, fun w hw => ?_⟩
  have line : ringBytes ⟨n, u.view.frameCount, 0⟩ u = noticeLine u ⟨n, s.view.frameCount, 0⟩ u.control.reportProducer := by
    rw [noticeLine, ringBytes, noticePayload_eq, h.frame, kind_eq_noticeFields u 0, source_eq_noticeFields u 0]
    rfl
  rw [postNotice_of_room room, clearNoticeCount_control, writeRing_control, line, controlPage_congr h.mem]
  exact List.mem_append_right _ hw

theorem noticePends_postNotice (h : postsOnly l s u) (n : Notice) : noticePends n s (postNotice n u) := by
  intro hfull
  rw [postNotice_of_full (h.full hfull)]
  obtain ⟨q, hq, hn, hf⟩ := mem_pendNotice ⟨n, u.view.frameCount, 0⟩ u.control.pendingNotices
  exact ⟨q, hq, hn, hf.trans h.frame⟩

/-- Bytes of a notice that no count and no condition enters (R207). -/
def standsAlone (n : Notice) : Prop := ∀ s t : State, noticeFields s 0 n = noticeFields t 0 n

theorem noticePosted_postNotice {n : Notice} (h : postsOnly l s u) (hl : l.length < 16) (alone : standsAlone n) :
    noticePosted n s (postNotice n u) := by
  refine ⟨noticePends_postNotice h n, ?_⟩
  have written := noticeWritten_postNotice h hl n
  have line : ∀ k, noticeLine u ⟨n, s.view.frameCount, 0⟩ k = noticeLine s ⟨n, s.view.frameCount, 0⟩ k := fun k => by
    simp only [noticeLine, alone u s]
  unfold noticeWritten at written ⊢
  simpa only [line] using written

theorem noticeWritten_after {n : Notice} {v : State} (h : noticeWritten n s v t) (k : postsOnly l t u) : noticeWritten n s v u :=
  fun hroom => (h hroom).imp fun _ all w hw => k.writes w (all w hw)

theorem noticePends_after {n : Notice} (h : noticePends n s t) (k : postsOnly l t u) (hn : noticePlace n ∉ l) : noticePends n s u := by
  intro hfull
  obtain ⟨p, hp, rfl, hf⟩ := h hfull
  exact ⟨p, k.pend p hp hn, rfl, hf⟩

theorem noticePosted_after {n : Notice} (h : noticePosted n s t) (k : postsOnly l t u) (hn : noticePlace n ∉ l) : noticePosted n s u :=
  ⟨noticePends_after h.1 k hn, noticeWritten_after h.2 k⟩

theorem standsAlone_cardState (x : CardSlot) (new old : CardState) (au : Option Word16) (i : Nat) (probed : Option (Word16 × Word64)) :
    standsAlone (.cardState x new old au i probed) := fun _ _ => rfl
theorem standsAlone_recState (ev : RecEvent) (st : RecState) (r : Option Result) (mode : Mode) (clip : Word16) (chunks : Word32) :
    standsAlone (.recState ev st r mode clip chunks) := fun _ _ => rfl
theorem standsAlone_cmdDone (k : Kept) (r : Result) : standsAlone (.cmdDone k r) := fun _ _ => rfl

theorem donePosted_commandEnds {k : Kept} {r : Result} (h : postsOnly l s u) (hl : l.length < 16) :
    donePosted k r s (reports (commandEnds (some k) r) u) := by
  intro hn
  have posted : reports (commandEnds (some k) r) u = postNotice (.cmdDone k r) u := by
    rw [reports_commandEnds]
    exact if_pos hn
  rw [posted]
  exact noticePosted_postNotice h hl (standsAlone_cmdDone k r)

theorem donePosted_after {k : Kept} {r : Result} (h : donePosted k r s t) (p : postsOnly l t u) (hn : (2, k.code) ∉ l) :
    donePosted k r s u := fun notify => noticePosted_after (h notify) p hn

end

end Sys2Proof.Machine

namespace Sys2Proof.Machine

/-! ### The end of assembly posts at most the event of a gap (R7, R12, R14) -/

section

variable {s t u : State} {l : List (Byte × Byte)}

def gapPlace : Byte × Byte := (6, 1)

theorem postsOnly_tapEvent_gap (offset skipped : Nat) (s : State) : postsOnly [gapPlace] s (tapEvent .gap offset skipped s) := by
  have counted : postsOnly [] s (setTapCount s (saturatingSucc (tapCount s .gap)) .gap) := postsOnly_of_still rfl rfl rfl rfl
  exact counted.trans (postsOnly_postNotice (.tapEvent .gap offset skipped) _)

theorem postsOnly_overrunEndTest (s : State) : postsOnly [] s (overrunEndTest s) := by
  unfold overrunEndTest
  split
  · exact postsOnly_refl s
  · split
    · exact postsOnly_endCause _ s
    · exact postsOnly_refl s

theorem postsOnly_recomputeFloor (s : State) : postsOnly [] s (recomputeFloor s) := by
  unfold recomputeFloor
  split
  · exact postsOnly_refl s
  · split
    · exact postsOnly_refl s
    · exact postsOnly_of_still rfl rfl rfl rfl

theorem postsOnly_advanceCursor (w : StreamWrite) (s : State) : postsOnly [gapPlace] s (advanceCursor w s) := by
  have moved : postsOnly [] s (s.setTap { s.tap with cursor := w.newCursor }) := postsOnly_of_still rfl rfl rfl rfl
  have ends (v : State) : postsOnly [] v (overrunEndTest (recomputeFloor v)) :=
    (postsOnly_recomputeFloor v).trans (postsOnly_overrunEndTest _)
  unfold advanceCursor
  dsimp only
  split
  · exact (moved.trans (postsOnly_tapEvent_gap _ _ _)).trans (ends _)
  · exact (moved.trans (ends _)).mono (List.nil_sublist _)

theorem postsOnly_assemblyEnded (s : State) : postsOnly [gapPlace] s (assemblyEnded s) := by
  refine (postsOnly_endCause .streamOverrun s).trans (u := retestHeld (endCause .streamOverrun s)) ?_
  rcases retestHeld_cases (endCause .streamOverrun s) with h | ⟨w, -, h, -⟩
  · rw [h]
    exact (postsOnly_refl _).mono (List.nil_sublist _)
  · have forwarded : postsOnly [] (endCause .streamOverrun s) (unheld (endCause .streamOverrun s)) := postsOnly_of_still rfl rfl rfl rfl
    rw [h]
    exact forwarded.trans (postsOnly_advanceCursor w _)

theorem changesOnly_assemblyEnded (s : State) : changesOnly [.tap, .path, .control] s (assemblyEnded s) := by
  refine changesOnly_trans (changesOnly_mono (by simp) (changesOnly_endCause .streamOverrun s)) (u := retestHeld (endCause .streamOverrun s)) ?_
  rcases retestHeld_cases (endCause .streamOverrun s) with h | ⟨w, -, h, -⟩
  · rw [h]
    exact changesOnly_refl _ _
  · rw [h]
    exact changesOnly_released w _

theorem causePresent_assemblyEnded (s : State) : causePresent (assemblyEnded s) .streamOverrun = false := by
  have ended := causePresent_endCause .streamOverrun s
  unfold assemblyEnded
  rcases retestHeld_cases (endCause .streamOverrun s) with h | ⟨w, -, h, -⟩
  · rw [h]
    exact ended
  · rw [h]
    exact causePresent_advanceCursor ended

/-! ### Cards that leave a clip that has ended (R41) -/

theorem conditions_setCardState {x : CardSlot} (h : (s.card x).state ≠ .failed) (new : CardState) :
    (setCardState x new s).control.conditions = s.control.conditions := by
  unfold setCardState
  dsimp only
  split
  · rfl
  · rw [conditions_postNotice, State.setCard_control]

theorem conditions_releaseCard (x : CardSlot) (s : State) : (releaseCard x s).control.conditions = s.control.conditions := by
  unfold releaseCard
  split
  · rename_i active
    have continued : (continueErase x (setCardState x .ready s)).control = (setCardState x .ready s).control :=
      changesOnly_continueErase x _ .control (by simp)
    rw [leaveActive, continued, conditions_setCardState (by rw [active]; decide)]
  · rfl

theorem changesOnly_releaseDrainedCard (x : CardSlot) (s : State) : changesOnly [.card x, .control] s (releaseDrainedCard x s) := by
  unfold releaseDrainedCard
  split
  · exact changesOnly_releaseCard x s
  · exact changesOnly_refl _ s

theorem changesOnly_releaseDrained (s : State) : changesOnly [.card .a, .card .b, .control] s (releaseDrained s) :=
  changesOnly_trans (changesOnly_mono (by simp) (changesOnly_releaseDrainedCard .a s))
    (changesOnly_mono (by simp) (changesOnly_releaseDrainedCard .b _))

theorem postsOnly_releaseDrained (s : State) : postsOnly [cardPlace .a, cardPlace .b] s (releaseDrained s) := by
  have one (x : CardSlot) (v : State) : postsOnly [cardPlace x] v (releaseDrainedCard x v) := by
    unfold releaseDrainedCard
    split
    · exact postsOnly_releaseCard x v
    · exact (postsOnly_refl v).mono (List.nil_sublist _)
  exact (one .a s).trans (one .b _)

theorem conditions_releaseDrained (s : State) : (releaseDrained s).control.conditions = s.control.conditions := by
  have one (x : CardSlot) (v : State) : (releaseDrainedCard x v).control.conditions = v.control.conditions := by
    unfold releaseDrainedCard
    split
    · exact conditions_releaseCard x v
    · rfl
  rw [releaseDrained, one, one]

/-- A card that is not ACTIVE is not released (R48). -/
theorem releaseDrained_card {x : CardSlot} (h : (s.card x).state ≠ .active) : (releaseDrained s).card x = s.card x := by
  have one (y : CardSlot) (v : State) (hv : (v.card x).state ≠ .active) : (releaseDrainedCard y v).card x = v.card x := by
    by_cases e : y = x
    · subst e
      unfold releaseDrainedCard
      split
      · rw [releaseCard, if_neg hv]
      · rfl
    · exact changesOnly_releaseDrainedCard y v (.card x) (by simpa using Ne.symm e)
  rw [releaseDrained, one .b _ (by rwa [one .a s h]), one .a s h]

/-! ### The open page at an abort (R36, R41) -/

theorem closeOpenPage_eq (c : Clip) : closeOpenPage c =
    { c with pages := (closeOpenPage c).pages, lay := (closeOpenPage c).lay, chunkSeq := (closeOpenPage c).chunkSeq } := by
  unfold closeOpenPage
  split
  · rw [lay_eq, fill_eq]
  · rfl

theorem openPage_last {c : Clip} {p : PageRecord} (h : openPage c = some p) : c.pages = c.pages.dropLast ++ [p] := by
  unfold openPage at h
  split at h
  · rename_i q hq
    split at h
    · cases h
    · cases h
      exact (List.dropLast_append_getLast? _ hq).symm
  · cases h

theorem openPage_mem {c : Clip} {p : PageRecord} (h : openPage c = some p) : p ∈ c.pages := by
  rw [openPage_last h]
  exact List.mem_append_right _ (List.mem_singleton_self p)

/-- A page with the targets and the reports of another. -/
def samePlace (p q : PageRecord) : Prop := p.target = q.target ∧ p.written = q.written ∧ p.failed = q.failed

theorem waitsFor_congr {p q : PageRecord} (h : samePlace p q) (x : CardSlot) : waitsFor p x = waitsFor q x := by
  obtain ⟨target, written, failed⟩ := h
  rw [waitsFor, waitsFor, target, written, failed]

theorem mem_pages_lay {c : Clip} {p : PageRecord} (h : p ∈ (lay c).pages) : ∃ q ∈ c.pages, samePlace p q := by
  cases ho : openPage c with
  | none =>
    rw [lay, ho] at h
    exact ⟨p, h, rfl, rfl, rfl⟩
  | some q =>
    rw [lay_open ho] at h
    rcases List.mem_append.mp h with h | h
    · exact ⟨p, List.mem_of_mem_dropLast h, rfl, rfl, rfl⟩
    · refine ⟨q, openPage_mem ho, ?_⟩
      rw [List.mem_singleton.mp h, sealIfFull_eq, layPage_fields]
      exact ⟨rfl, rfl, rfl⟩

theorem fill_pages (n : Nat) (c : Clip) : (fill n c).pages = c.pages := by rw [fill_eq]

theorem mem_pages_closeOpenPage {c : Clip} {p : PageRecord} (h : p ∈ (closeOpenPage c).pages) : ∃ q ∈ c.pages, samePlace p q := by
  unfold closeOpenPage at h
  split at h
  · obtain ⟨q, hq, same⟩ := mem_pages_lay h
    rw [fill_pages] at hq
    exact ⟨q, hq, same⟩
  · exact ⟨p, h, rfl, rfl, rfl⟩

/-! ### The abort step by step (R41) -/

/-- The assembler once its clip is given up, before its page is closed (R41). -/
def clipStopped (s : State) : State := s.setClip { s.clip with
  state := .idle, run := .none, readReq := none, relayHead := false, closed := false, index := [], stopCmd := none
  audioDiscontinuity := false, shipPtr := none }

/-- The causes of an abort have changed, and no notice of its own is posted yet (R41, R156). -/
def abortCaused (s : State) : State := startCause .mediaExhausted (endCause .audioOverrun (assemblyEnded (clipStopped s)))

/-- The REC_STATE notice of an abort (R41). -/
def abortNotice (s : State) : Notice := .recState .aborted .idle none s.clip.mode s.clip.clipNumber s.clip.chunkSeq

/-- An abort has been reported (R41). -/
def abortTold (s : State) : State := reports (commandEnds s.clip.stopCmd .aborted) (postNotice (abortNotice s) (abortCaused s))

/-- The open page has been closed at an abort (R36, R41). -/
def abortSealed (s : State) : State := (abandonReads (abortTold s) isPayload).setClip (closeOpenPage (clipStopped s).clip)

/-- The pages that a working card still awaits stay (R41). -/
def abortKept (s : State) : State :=
  (abortSealed s).setClip { (abortSealed s).clip with pages := (abortSealed s).clip.pages.filter (hasWorkingCard (abortSealed s)) }

theorem abortTold_clip (s : State) : (abortTold s).clip = (clipStopped s).clip := by
  rw [abortTold, reports_clip, postNotice_clip, abortCaused, startCause_clip, endCause_clip, assemblyEnded_clip]

theorem abortClip_eq (s : State) : abortClip s = releaseDrained (abortKept s) := by
  have told : reports ([.stop .audioOverrun, .start .mediaExhausted, .post (abortNotice s)] ++ commandEnds s.clip.stopCmd .aborted)
      (assemblyEnded (clipStopped s)) = abortTold s := by
    rw [reports_append]
    rfl
  have sealed : (abandonReads (abortTold s) isPayload).clip = (clipStopped s).clip := abortTold_clip s
  unfold abortClip abortKept abortSealed
  rw [← told, ← sealed, ← told]
  rfl

theorem postsOnly_abortCaused (s : State) : postsOnly [gapPlace, noticePlace (.condition .mediaExhausted)] s (abortCaused s) :=
  (((postsOnly_setClip _ s).trans (postsOnly_assemblyEnded (clipStopped s))).trans (postsOnly_endCause .audioOverrun _)).trans
    (postsOnly_startCause .mediaExhausted _)

/-- The places of the notices that an abort may post (R41, R195). -/
def abortPlaces (s : State) : List (Byte × Byte) :=
  [gapPlace, noticePlace (.condition .mediaExhausted), noticePlace (abortNotice s)] ++ donePlaces s.clip.stopCmd ++ [cardPlace .a, cardPlace .b]

/-- What an abort does after its reports posts nothing but the states of released cards (R41, R48). -/
theorem postsOnly_abortTold (s : State) : postsOnly [cardPlace .a, cardPlace .b] (abortTold s) (abortClip s) := by
  have kept : postsOnly [] (abortTold s) (abortKept s) :=
    ((postsOnly_abandonReads isPayload (abortTold s)).trans (postsOnly_setClip _ _)).trans (postsOnly_setClip _ _)
  rw [abortClip_eq]
  exact kept.trans (postsOnly_releaseDrained _)

theorem postsOnly_abortClip (s : State) : postsOnly (abortPlaces s) s (abortClip s) :=
  (((postsOnly_abortCaused s).trans (postsOnly_postNotice (abortNotice s) _)).trans (postsOnly_commandEnds s.clip.stopCmd .aborted _)).trans
    (postsOnly_abortTold s)

/-- The reports of an abort stand after it, also where other notices went ahead of them in the same step (R41, R194, R195). -/
theorem noticePosted_abortClip (h : postsOnly l s u) (hl : l.length ≤ 10) : noticePosted (abortNotice u) s (abortClip u) := by
  have posted : noticePosted (abortNotice u) s (postNotice (abortNotice u) (abortCaused u)) :=
    noticePosted_postNotice (h.trans (postsOnly_abortCaused u)) (by simp; omega) (standsAlone_recState _ _ _ _ _ _)
  refine noticePosted_after (noticePosted_after posted (postsOnly_commandEnds u.clip.stopCmd .aborted _) ?_) (postsOnly_abortTold u) ?_
  · simp [noticePlace, abortNotice, donePlaces, Notice.kind]
  · simp [noticePlace, abortNotice, cardPlace, Notice.kind]

theorem donePosted_abortClip (h : postsOnly l s u) (hl : l.length ≤ 10) {k : Kept} (hk : u.clip.stopCmd = some k) :
    donePosted k .aborted s (abortClip u) := by
  have posted : donePosted k .aborted s (abortTold u) := by
    rw [abortTold, hk]
    exact donePosted_commandEnds ((h.trans (postsOnly_abortCaused u)).trans (postsOnly_postNotice (abortNotice u) _)) (by simp; omega)
  exact donePosted_after posted (postsOnly_abortTold u) (by simp [cardPlace])

theorem abortReported_abortClip (h : postsOnly l s u) (hl : l.length ≤ 10) (hc : u.clip.mode = s.clip.mode)
    (hn : u.clip.clipNumber = s.clip.clipNumber) (hs : u.clip.chunkSeq = s.clip.chunkSeq) (hk : u.clip.stopCmd = s.clip.stopCmd) :
    abortReported s (abortClip u) := by
  have posted := noticePosted_abortClip h hl
  rw [abortNotice, hc, hn, hs] at posted
  exact ⟨posted, fun k e => donePosted_abortClip h hl (hk.trans e)⟩

/-! ### The state after an abort (R41) -/

/-- A notice of no source that counts changes the unit's state alone (R193, R194). -/
theorem changesOnly_postNotice {n : Notice} (h : ∀ v : State, clearNoticeCount n v = v) (s : State) :
    changesOnly [.control] s (postNotice n s) := by
  rcases Nat.lt_or_ge (unread s) 64 with hr | hr
  · rw [postNotice_of_room hr, h]
    exact writeRing_changesOnly _ s
  · rw [postNotice_of_full hr]
    exact fun p hp => by cases p <;> simp [Part.same] at hp ⊢

theorem changesOnly_commandEnds (cmd : Option Kept) (r : Result) (s : State) : changesOnly [.control] s (reports (commandEnds cmd r) s) := by
  cases cmd with
  | none => exact changesOnly_refl _ s
  | some k =>
    rw [reports_commandEnds, commandDone]
    split
    · exact changesOnly_postNotice (fun _ => rfl) s
    · exact changesOnly_refl _ s

theorem changesOnly_abortTold (s : State) : changesOnly [.clip, .tap, .path, .control] s (abortTold s) := by
  have caused : changesOnly [.clip, .tap, .path, .control] s (abortCaused s) :=
    changesOnly_trans (changesOnly_trans (changesOnly_trans (changesOnly_mono (by simp) (changesOnly_setClip _ s))
      (changesOnly_mono (by simp) (changesOnly_assemblyEnded (clipStopped s)))) (changesOnly_mono (by simp) (changesOnly_endCause _ _)))
      (changesOnly_mono (by simp) (changesOnly_startCause _ _))
  exact changesOnly_trans (changesOnly_trans caused (changesOnly_mono (by simp) (changesOnly_postNotice (fun _ => rfl) _)))
    (changesOnly_mono (by simp) (changesOnly_commandEnds _ _ _))

theorem changesOnly_abortKept (s : State) : changesOnly [.clip, .tap, .path, .control] s (abortKept s) :=
  changesOnly_trans (changesOnly_trans (changesOnly_trans (changesOnly_abortTold s)
    (changesOnly_mono (by simp) (changesOnly_abandonReads (abortTold s) isPayload))) (changesOnly_mono (by simp) (changesOnly_setClip _ _)))
    (changesOnly_mono (by simp) (changesOnly_setClip _ _))

theorem changesOnly_abortClip (s : State) : changesOnly [.clip, .tap, .path, .card .a, .card .b, .control] s (abortClip s) := by
  rw [abortClip_eq]
  exact changesOnly_trans (changesOnly_mono (by simp) (changesOnly_abortKept s)) (changesOnly_mono (by simp) (changesOnly_releaseDrained _))

theorem abortKept_card (x : CardSlot) (s : State) : (abortKept s).card x = s.card x := changesOnly_abortKept s (.card x) (by simp)

theorem abortClip_card {x : CardSlot} (h : (s.card x).state ≠ .active) : (abortClip s).card x = s.card x := by
  rw [abortClip_eq, releaseDrained_card (by rwa [abortKept_card]), abortKept_card]

theorem abortSealed_card (x : CardSlot) (s : State) : (abortSealed s).card x = s.card x := by
  have told : (abortTold s).card x = s.card x := changesOnly_abortTold s (.card x) (by simp)
  rw [← told]
  cases x <;> rfl

theorem abortClip_clip (s : State) : (abortClip s).clip = { closeOpenPage (clipStopped s).clip with
    pages := (closeOpenPage (clipStopped s).clip).pages.filter (hasWorkingCard s) } := by
  have cards : hasWorkingCard (abortSealed s) = hasWorkingCard s := funext fun p => by
    have a := abortSealed_card .a s
    have b := abortSealed_card .b s
    simp only [State.card] at a b
    rw [hasWorkingCard, hasWorkingCard, a, b]
  rw [abortClip_eq, releaseDrained_clip, abortKept, cards]
  rfl

theorem abortClip_state (s : State) : (abortClip s).clip.state = .idle ∧ (abortClip s).clip.index = [] ∧
    (abortClip s).clip.run = .none ∧ (abortClip s).clip.readReq = none := by
  rw [abortClip_clip, closeOpenPage_eq]
  exact ⟨rfl, rfl, rfl, rfl⟩

theorem mem_pages_abortClip {p : PageRecord} (h : p ∈ (abortClip s).clip.pages) :
    hasWorkingCard s p = true ∧ ∃ q ∈ s.clip.pages, samePlace p q := by
  rw [abortClip_clip] at h
  obtain ⟨hp, working⟩ := List.mem_filter.mp h
  exact ⟨working, mem_pages_closeOpenPage (c := (clipStopped s).clip) hp⟩

/-- With no working card on it an aborted clip leaves no page (R41). -/
theorem abortClip_noPages (h : s.clip.pages = [] ∨ ∀ x, (s.card x).state ≠ .active) : (abortClip s).clip.pages = [] := by
  refine List.eq_nil_iff_forall_not_mem.mpr fun p hp => ?_
  obtain ⟨working, q, hq, -⟩ := mem_pages_abortClip hp
  rcases h with h | h
  · rw [h] at hq
    cases hq
  · have a : s.cardA.state ≠ .active := h .a
    have b : s.cardB.state ≠ .active := h .b
    simp [hasWorkingCard, a, b] at working

theorem condState_startCause_other {c d : Condition} (h : d ≠ c) (s : State) : condState (startCause c s) d = condState s d := by
  unfold startCause
  dsimp only
  split
  · rfl
  · split
    · exact condState_setCondState_other s h _
    · rw [condState_congr (conditions_postNotice _ _)]
      exact condState_setCondState_other s h _

theorem conditions_commandEnds (cmd : Option Kept) (r : Result) (s : State) :
    (reports (commandEnds cmd r) s).control.conditions = s.control.conditions := by
  cases cmd with
  | none => rfl
  | some k =>
    rw [reports_commandEnds, commandDone]
    split
    · exact conditions_postNotice _ s
    · rfl

theorem conditions_abortClip (s : State) : (abortClip s).control.conditions = (abortCaused s).control.conditions := by
  have told : (abortTold s).control.conditions = (abortCaused s).control.conditions := by
    rw [abortTold, conditions_commandEnds, conditions_postNotice]
  rw [abortClip_eq, conditions_releaseDrained, ← told]
  rfl

theorem causePresent_abortClip (s : State) : causePresent (abortClip s) .mediaExhausted = true ∧
    causePresent (abortClip s) .streamOverrun = false := by
  have same (c : Condition) : causePresent (abortClip s) c = causePresent (abortCaused s) c := by
    rw [causePresent, causePresent, condState_congr (conditions_abortClip s)]
  refine ⟨(same _).trans (causePresent_startCause _ _), (same _).trans ?_⟩
  rw [causePresent, abortCaused, condState_startCause_other (by decide), condState_endCause_other _ (by decide)]
  exact causePresent_assemblyEnded _

end

end Sys2Proof.Machine

namespace Sys2Proof.Machine

section

variable {s : State}

/-! ### What a boundary chooses (R32, R33) -/

/-- The header of a chunk with its flags in full (R30, R209). -/
theorem chunkHeader_body (c : Clip) (kind flags : Byte) (len locator : Nat) (stamp : Word32) (first : Nat) :
    chunkHeader c kind flags len locator stamp first = headerBytes ([0xA7, 0xC1, 0xB3, 0xD5, kind,
      flags ||| (if c.targets.a && c.targets.b then 8 else 0)] ++ littleEndian 2 c.clipNumber.toNat ++ littleEndian 4 c.chunkSeq.toNat
      ++ littleEndian 4 len ++ littleEndian 8 locator ++ littleEndian 4 stamp.toNat ++ littleEndian 2 first) := by
  have mark : chunkFlags false false false (mirrored c) = if c.targets.a && c.targets.b then 8 else 0 := by
    rw [mirrored]
    cases c.targets.a && c.targets.b <;> rfl
  rw [chunkHeader, mark]
  rfl

theorem backlogIs_iff {n : Nat} : backlogIs s n ↔ n = backlog s := by
  unfold backlogIs backlog
  cases s.clip.state <;> simp

theorem videoLengthIs_eq {l : Nat} (h : videoLengthIs s l) : l = videoLength s := by
  obtain ⟨b, hb, rfl⟩ := h
  rw [backlogIs_iff] at hb
  subst hb
  unfold videoLength entryLimit
  dsimp only [Config.clipIndexCap]
  cases (s.tap.entries.filter fun e => s.tap.ship ≤ e.pos)[255 - s.clip.index.length]? <;> rfl

theorem videoDue_iff : videoDue s = true ↔ 0 < backlog s ∧ (s.clip.chunkMin ≤ backlog s ∨ s.clip.state = .stopping) := by
  simp only [videoDue, Bool.or_eq_true, Bool.and_eq_true, decide_eq_true_eq, beq_iff_eq]
  tauto

theorem audioDue_eq_some {p : Word32} {i : BlockInfo} (ha : s.clip.audioPart = true) (hp : s.clip.shipPtr = some p)
    (hi : doneBlock s.audio p = some i)
    (hstop : s.clip.state = .stopping → ∃ b, s.clip.audioStop = .upTo b ∧ blockPlace s.audio p ≤ blockPlace s.audio b) :
    audioDue s = some i := by
  have within : withinAudioStop s p = true := withinAudioStop_iff.mpr fun stopping => by
    obtain ⟨b, hb, hle⟩ := hstop stopping
    refine ⟨by rw [hb]; simp, fun d hd => ?_⟩
    rw [hb] at hd
    cases hd
    exact hle
  unfold audioDue
  rw [ha, hp]
  exact (if_pos within).trans hi

theorem doneBlock_number {a : Audio} {p : Word32} {i : BlockInfo} (h : doneBlock a p = some i) : i.number = p := by
  have found := List.find?_some h
  exact beq_iff_eq.mp found

theorem audioDue_eq_none (h : noAudioDue s) : audioDue s = none := by
  unfold audioDue
  rcases h with h | h | ⟨p, hp, h⟩
  · simp [h]
  · simp [h]
  · rw [hp]
    cases s.clip.audioPart with
    | false => rfl
    | true =>
      dsimp only
      split
      · rename_i within
        rcases h with h | ⟨stopping, h⟩
        · exact List.find?_eq_none.mpr fun i hi e => h i (mem_doneBlocks.mp hi) (beq_iff_eq.mp e)
        · obtain ⟨some_stop, upTo⟩ := withinAudioStop_iff.mp within stopping
          rcases h with h | ⟨b, hb, hlt⟩
          · exact absurd h some_stop
          · exact absurd (upTo b hb) (Int.not_le.mpr hlt)
      · rfl

theorem chooseChunk_index (h : 255 ≤ s.clip.index.length) : chooseChunk s = some .index := if_pos h

theorem chooseChunk_audio {i : BlockInfo} (h : s.clip.index.length < 255) (ha : audioDue s = some i) : chooseChunk s = some (.audio i) := by
  have places : ¬Config.clipIndexCap ≤ s.clip.index.length := Nat.not_le.mpr h
  unfold chooseChunk
  rw [if_neg places, ha]

theorem chooseChunk_video (h : s.clip.index.length < 255) (ha : audioDue s = none) :
    chooseChunk s = if videoDue s then some (.video (videoLength s)) else none := by
  have places : ¬Config.clipIndexCap ≤ s.clip.index.length := Nat.not_le.mpr h
  unfold chooseChunk
  rw [if_neg places, ha]

theorem videoDue_of {l : Nat} (hl : l = videoLength s) (h0 : 0 < l) (h : s.clip.chunkMin ≤ backlog s ∨ s.clip.state = .stopping) :
    videoDue s = true :=
  videoDue_iff.mpr ⟨h0.trans_le (hl ▸ videoLength_le s), h⟩

/-! ### A chunk with room is laid (R30, R33, R34, R35) -/

theorem nextPayloadRead_none (h : s.clip.run = .none) : nextPayloadRead s = none := by
  unfold nextPayloadRead
  rw [h]

theorem chunkChoice_still (h : atBoundary s.clip = false) : chunkChoice s = s := if_pos (by rw [h]; rfl)

theorem chunkChoice_none (hb : atBoundary s.clip = true) (he : atEnd (clipRoom s) = false) (hc : chooseChunk s = none) :
    chunkChoice s = s := by
  unfold chunkChoice
  rw [if_neg (by simp [hb]), if_neg (by simp [he]), hc]

theorem chunkChoice_some {p : ChunkPick} (hb : atBoundary s.clip = true) (he : atEnd (clipRoom s) = false)
    (hc : chooseChunk s = some p) : chunkChoice s = fitChunk p s := by
  unfold chunkChoice
  rw [if_neg (by simp [hb]), if_neg (by simp [he]), hc]

theorem chunkChoice_end (hb : atBoundary s.clip = true) (he : atEnd (clipRoom s) = true) : chunkChoice s = clipCardEnd s := by
  unfold chunkChoice
  rw [if_neg (by simp [hb]), if_pos he]

theorem chunkChoice_unbounded {p : ChunkPick} (hb : atBoundary s.clip = true) (hroom : roomUnbounded s) (hc : chooseChunk s = some p) :
    chunkChoice s = layChunk p s := by
  have room := clipRoom_unbounded hroom
  rw [chunkChoice_some hb (by rw [room]; rfl) hc]
  exact if_pos (by rw [room]; rfl)

theorem layChunk_index (hrun : s.clip.run = .none) (hread : s.clip.readReq = none) :
    layChunk .index s = s.setClip (lay (layIndex s.clip)) := by
  have run : (lay (layIndex s.clip)).run = .none := by rw [lay_run]; exact hrun
  have read : (lay (layIndex s.clip)).readReq = none := by rw [lay_eq]; exact hread
  show presentClipRead (s.setClip (lay (layIndex s.clip))) = _
  rw [presentClipRead_eq read, nextPayloadRead_none run, Option.map_none, ← read]
  rfl

theorem lay_setRun (c : Clip) (r : PayloadRun) : lay { c with run := r } = { lay c with run := r } := by
  have same : openPage { c with run := r } = openPage c := rfl
  unfold lay
  rw [same]
  cases openPage c <;> rfl

/-- Laying takes no notice of the run, the pointer and the mark (R36). -/
theorem lay_marked (c : Clip) (r : PayloadRun) (p : Option Word32) (d : Bool) :
    lay { c with run := r, shipPtr := p, audioDiscontinuity := d } = { lay c with run := r, shipPtr := p, audioDiscontinuity := d } := by
  have same : openPage { c with run := r, shipPtr := p, audioDiscontinuity := d } = openPage c := rfl
  unfold lay
  rw [same]
  cases openPage c <;> rfl

/-- The assembler with the header of a VIDEO chunk of `l` bytes laid, as far as its page takes it (R33, R36). -/
def videoHeaded (l : Nat) (s : State) : Clip :=
  lay (addChunk 2 (chunkFlags s.tap.discontinuity false false false) l s.tap.ship s.clip.videoStamp [] s.clip)

theorem videoHeaded_eq (h : s.clip.lay = []) (l : Nat) : videoHeaded l s = lay { s.clip with
    lay := [⟨true, chunkHeader s.clip 2 (if s.tap.discontinuity then 1 else 0) l s.tap.ship s.clip.videoStamp 0⟩]
    chunkSeq := s.clip.chunkSeq + 1 } := by
  have flags : chunkFlags s.tap.discontinuity false false false = if s.tap.discontinuity then 1 else 0 := by
    cases s.tap.discontinuity <;> rfl
  rw [videoHeaded, addChunk, flags, List.append_nil, h]
  rfl

/-- The part with a VIDEO chunk of `l` bytes begun at ship, before its first read (R33). -/
def videoBegun (l : Nat) (s : State) : State := (s.setTap { s.tap with discontinuity := false }).setClip { videoHeaded l s with
  run := .video s.tap.ship s.tap.ship (s.tap.ship + l) }

theorem layChunk_videoBegun (l : Nat) (s : State) : layChunk (.video l) s = presentClipRead (videoBegun l s) := by
  rw [videoBegun, videoHeaded, ← lay_setRun]
  rfl

theorem layChunk_video {l : Nat} {r : StreamRegion} (hread : s.clip.readReq = none) (hr : streamRegion s = some r) (hl : 0 < l) :
    layChunk (.video l) s = (videoBegun l s).setClip { (videoBegun l s).clip with
      readReq := some ⟨ringAddress r s.tap.ship / 8 * 8, videoLen r s.tap.ship (s.tap.ship + l), unissuedWrites s⟩ } := by
  have read : (videoBegun l s).clip.readReq = none := by
    show (videoHeaded l s).readReq = none
    rw [videoHeaded, lay_eq]
    exact hread
  have first := nextPayloadRead_video (s := videoBegun l s) (q := r) (next := s.tap.ship) (back := s.tap.ship) (last := s.tap.ship + l) rfl hr
  rw [if_pos (Nat.lt_add_of_pos_right hl)] at first
  rw [layChunk_videoBegun, presentClipRead_eq read, first]
  rfl

/-- The assembler with the header of the AUDIO chunk of block `i` laid, as far as its page takes it (R34, R36). -/
def audioHeaded (i : BlockInfo) (s : State) : Clip :=
  lay (addChunk 3 (chunkFlags s.clip.audioDiscontinuity i.flags.degradesChunk false false) 12288 i.number.toNat i.stamp [] s.clip)

theorem audioHeaded_eq (h : s.clip.lay = []) (i : BlockInfo) : audioHeaded i s = lay { s.clip with
    lay := [⟨true, chunkHeader s.clip 3 ((if s.clip.audioDiscontinuity then 1 else 0)
      ||| (if i.flags.degraded || i.flags.muted != 0 then 2 else 0)) 12288 i.number.toNat i.stamp 0⟩]
    chunkSeq := s.clip.chunkSeq + 1 } := by
  have flags : chunkFlags s.clip.audioDiscontinuity i.flags.degradesChunk false false =
      ((if s.clip.audioDiscontinuity then 1 else 0) ||| (if i.flags.degraded || i.flags.muted != 0 then 2 else 0)) := by
    rw [chunkFlags, BlockFlags.degradesChunk]
    simp
  rw [audioHeaded, addChunk, flags, List.append_nil, h]
  rfl

/-- The run of the AUDIO chunk of block `n` (R34). -/
def audioRun (a : Audio) (base : Nat) (n : Word32) : PayloadRun := .audio (blockSlot a n) (base + 12288 * blockSlot a n) 0 0

/-- The part with the AUDIO chunk of block `i` begun, before its first read (R34). -/
def audioBegun (i : BlockInfo) (base : Nat) (s : State) : State := s.setClip { audioHeaded i s with
  run := audioRun s.audio base i.number, shipPtr := some (i.number + 1), audioDiscontinuity := false }

/-- The advanced pointer is near to the current block (R156). -/
def nextNear (i : BlockInfo) (s : State) : Bool :=
  (s.audio.current.map fun c => pointerNear s.audio c.number (i.number + 1)).getD false

theorem overrunEndedIf_setClip (near : Bool) (v : Clip) (s : State) :
    overrunEndedIf near (s.setClip v) = (overrunEndedIf near s).setClip v := by
  cases near <;> rfl

theorem layChunk_audioBegun {i : BlockInfo} {base size : Nat} (hr : audioRegion s = some (base, size)) :
    layChunk (.audio i) s = presentClipRead (overrunEndedIf (nextNear i s) (audioBegun i base s)) := by
  have ends (v : Clip) (hv : v.shipPtr = some (i.number + 1)) :
      audioOverrunEndTest (s.setClip v) = overrunEndedIf (nextNear i s) (s.setClip v) := by
    rw [audioOverrunEndTest_eq, State.setClip_clip, State.setClip_audio, hv, nextNear]
    cases s.audio.current <;> rfl
  have begun : beginAudio i s = overrunEndedIf (nextNear i s) (s.setClip {
      addChunk 3 (chunkFlags s.clip.audioDiscontinuity i.flags.degradesChunk false false) 12288 i.number.toNat i.stamp [] s.clip with
      run := audioRun s.audio base i.number, shipPtr := some (i.number + 1), audioDiscontinuity := false }) := by
    rw [← ends _ rfl, beginAudio, hr]
    rfl
  show presentClipRead ((beginAudio i s).setClip (lay (beginAudio i s).clip)) = _
  rw [begun, overrunEndedIf_clip, State.setClip_clip, lay_marked, ← overrunEndedIf_setClip]
  rfl

theorem layChunk_audio {i : BlockInfo} {base size : Nat} (hread : s.clip.readReq = none) (hr : audioRegion s = some (base, size)) :
    layChunk (.audio i) s = overrunEndedIf (nextNear i s) ((audioBegun i base s).setClip { (audioBegun i base s).clip with
      readReq := some ⟨base + 12288 * blockSlot s.audio i.number, 128, unissuedWrites s⟩ }) := by
  have clip : (overrunEndedIf (nextNear i s) (audioBegun i base s)).clip = (audioBegun i base s).clip := overrunEndedIf_clip _ _
  have read : (audioBegun i base s).clip.readReq = none := by
    show (audioHeaded i s).readReq = none
    rw [audioHeaded, lay_eq]
    exact hread
  have path : (overrunEndedIf (nextNear i s) (audioBegun i base s)).path = s.path := changesOnly_overrunEndedIf _ _ .path (by simp)
  have first := nextPayloadRead_audio (s := overrunEndedIf (nextNear i s) (audioBegun i base s)) (congrArg Clip.run clip)
  rw [if_pos (by decide)] at first
  rw [layChunk_audioBegun hr, presentClipRead_eq (by rw [clip]; exact read), first, clip, overrunEndedIf_setClip,
    Option.map_some, presentRead, unissuedWrites, path]
  rfl

/-- Beginning an AUDIO chunk touches the assembler, and the cause of AUDIO_OVERRUN by the advanced pointer alone (R34, R156). -/
theorem layChunk_audio_only {i : BlockInfo} {base size : Nat} (hread : s.clip.readReq = none) (hr : audioRegion s = some (base, size)) :
    changesOnly [.clip, .control] s (layChunk (.audio i) s) ∧
      (layChunk (.audio i) s).control = (overrunEndedIf (nextNear i s) s).control := by
  rw [layChunk_audio hread hr]
  generalize ({ (audioBegun i base s).clip with readReq := _ } : Clip) = v
  exact ⟨changesOnly_trans (changesOnly_trans (changesOnly_mono (by simp) (changesOnly_setClip _ s))
      (changesOnly_mono (by simp) (changesOnly_setClip v _))) (changesOnly_mono (by simp) (changesOnly_overrunEndedIf _ _)),
    overrunEndedIf_control_congr (s := s) (t := (audioBegun i base s).setClip v) rfl _⟩

theorem nextNear_eq_true {i : BlockInfo} {c : CurrentBlock} (hc : s.audio.current = some c)
    (h : 2 * (c.number - (i.number + 1)).toInt < s.audio.blocks.length) : nextNear i s = true := by
  rw [nextNear, hc]
  exact decide_eq_true h

theorem nextNear_eq_false {i : BlockInfo} (h : ∀ c, s.audio.current = some c → ¬2 * (c.number - (i.number + 1)).toInt < s.audio.blocks.length) :
    nextNear i s = false := by
  rw [nextNear]
  cases hc : s.audio.current with
  | none => rfl
  | some c => exact decide_eq_false (h c hc)

theorem changesOnly_layChunk_video {l : Nat} {r : StreamRegion} (hread : s.clip.readReq = none) (hr : streamRegion s = some r)
    (hl : 0 < l) : changesOnly [.clip, .tap] s (layChunk (.video l) s) := by
  rw [layChunk_video hread hr hl]
  exact changesOnly_trans (changesOnly_trans (changesOnly_mono (by simp) (changesOnly_setTap _ s))
    (changesOnly_mono (by simp) (changesOnly_setClip _ _))) (changesOnly_mono (by simp) (changesOnly_setClip _ _))

/-! ### Limited room (R38, R39, R41) -/

theorem cardRoom_theEnd {x : CardSlot} {m : Nat} (hl : (s.card x).lookahead = .theEnd)
    (hm : m + 4096 * (s.clip.pages.filter fun p => waitsFor p x).length = 4096 * (1024 - (s.card x).pageIndex) + openFree s.clip) :
    cardRoom s x = ⟨some m, false⟩ := by
  unfold cardRoom
  rw [hl]
  dsimp only [Config.auPages, Config.pageBytes]
  congr 2
  omega

theorem clipRoom_only {x : CardSlot} (h : s.clip.targets = CardSet.only x) : clipRoom s = cardRoom s x := by
  unfold clipRoom
  rw [h]
  cases x <;> rfl

theorem clipRoom_roomIs {x : CardSlot} {m : Nat} (h : roomIs s x m) : clipRoom s = ⟨some m, false⟩ := by
  obtain ⟨targets, theEnd, room⟩ := h
  rw [clipRoom_only targets, cardRoom_theEnd theEnd room]

theorem isRelay_iff {m : Mode} : isRelay m = true ↔ m = .relayAB ∨ m = .relayBA := by cases m <;> simp [isRelay]

theorem available_iff {c : Card} : available c = true ↔ c.state = .ready ∧ c.chain = .set ∧ c.request = none := by
  simp [available, and_assoc]

theorem otherSlot_eq (x : CardSlot) : (if x = .a then CardSlot.b else .a) = otherSlot x := by cases x <;> rfl

theorem clipSlot_only {c : Clip} {x : CardSlot} (h : c.targets = CardSet.only x) : clipSlot c = x := by
  rw [clipSlot, h]
  cases x <;> rfl

/-- The part after a RELAY clip has left card `x` at its end for the other (R39). -/
def relayed (x : CardSlot) (s : State) : State :=
  (makeActive (otherSlot x) (s.setClip (fillOpenPage s.clip))).setClip
    { fillOpenPage s.clip with targets := CardSet.only (otherSlot x), relayHead := true }

theorem clipCardEnd_relay {x : CardSlot} (hm : s.clip.mode = .relayAB ∨ s.clip.mode = .relayBA) (ht : s.clip.targets = CardSet.only x)
    (ha : available (s.card (otherSlot x)) = true) : clipCardEnd s = relayed x s := by
  have clip : (makeActive (otherSlot x) (s.setClip (fillOpenPage s.clip))).clip = fillOpenPage s.clip := setCardState_clip _ _ _
  unfold clipCardEnd relayed
  rw [if_pos (isRelay_iff.mpr hm), clipSlot_only ht]
  dsimp only
  rw [if_pos ha, clip]

theorem clipCardEnd_abort {x : CardSlot} (ht : s.clip.targets = CardSet.only x) (he : atEnd (cardRoom s x) = true)
    (h : s.clip.mode = .singleA ∨ s.clip.mode = .singleB ∨ s.clip.mode = .mirror ∨
      ((s.clip.mode = .relayAB ∨ s.clip.mode = .relayBA) ∧ available (s.card (otherSlot x)) = false)) : clipCardEnd s = abortClip s := by
  unfold clipCardEnd
  rcases h with h | h | h | ⟨h, ha⟩
  · rw [h]
    rfl
  · rw [h]
    rfl
  · have none_left : (⟨s.clip.targets.a && !atEnd (cardRoom s .a), s.clip.targets.b && !atEnd (cardRoom s .b)⟩ : CardSet).isEmpty = true := by
      rw [ht]
      cases x <;> simp [CardSet.only, CardSet.isEmpty, he]
    rw [h]
    exact if_pos none_left
  · rw [if_pos (isRelay_iff.mpr h), clipSlot_only ht]
    exact if_neg (by rw [ha]; decide)

theorem changesOnly_relayed (x : CardSlot) (s : State) : changesOnly [.clip, .card (otherSlot x), .control] s (relayed x s) :=
  changesOnly_trans (changesOnly_trans (changesOnly_mono (by simp) (changesOnly_setClip _ s))
    (changesOnly_mono (by simp) (changesOnly_setCardState (otherSlot x) .active _))) (changesOnly_mono (by simp) (changesOnly_setClip _ _))

theorem relayed_card (x : CardSlot) (s : State) : (relayed x s).card (otherSlot x) = { s.card (otherSlot x) with state := .active } := by
  rw [relayed, State.setClip_card, makeActive, setCardState_card_same, State.setClip_card]

theorem fillOpenPage_none {c : Clip} (h : openPage c = none) : fillOpenPage c = c := by
  unfold fillOpenPage
  rw [h]

theorem fits_short {m n : Nat} (h : m < n) : fits ⟨some m, false⟩ n = false := decide_eq_false (Nat.not_le.mpr h)

/-- A VIDEO chunk is cut to the room less its header (R38). -/
theorem fitChunk_cut {l m : Nat} (hr : clipRoom s = ⟨some m, false⟩) (hm : 32 < m) (hl : m < 32 + l) :
    fitChunk (.video l) s = layChunk (.video (m - 32)) s := by
  have short : fits ⟨some m, false⟩ (chunkSize s (.video l)) = false := fits_short hl
  unfold fitChunk
  simp [hr, short, hm]

end

/-- Settles O48: the choice of a boundary, and what each chosen chunk lays and presents. -/
theorem boundariesChooseIndexAudioThenVideo : Obligations.BoundariesChooseIndexAudioThenVideo := by
  unfold Obligations.BoundariesChooseIndexAudioThenVideo
  refine ⟨fun c kind flags len locator first stamp body hbody => ?_, fun s hrun hb => ?_, ?_⟩
  · rw [chunkHeader_body, hbody]
    rfl
  · exact (act_of_running _ hrun).trans (congrArg _ (chunkChoice_still (by rwa [← Bool.not_eq_true, atBoundary_iff hrun])))
  · intro s hb hread videoTaken
    have hrun := hb.1
    have boundary := (atBoundary_iff hrun).mpr hb
    obtain ⟨-, -, -, run, hlay, -⟩ := hb
    have hexec {v : State} (hv : chunkChoice s = v) : exec .chunkChoice s = .next v := (act_of_running _ hrun).trans (congrArg _ hv)
    have video {l : Nat} {r : StreamRegion} (hr : streamRegion s = some r) (hl : 0 < l) : videoTaken l (layChunk (.video l) s) := by
      refine ⟨r, hr, changesOnly_layChunk_video hread hr hl, ?_⟩
      rw [layChunk_video hread hr hl]
      refine ⟨rfl, ?_, _, rfl, rfl⟩
      rw [videoBegun, videoHeaded_eq hlay]
      rfl
    have chosen {p : ChunkPick} (hroom : roomUnbounded s) (hc : chooseChunk s = some p) : exec .chunkChoice s = .next (layChunk p s) :=
      hexec (chunkChoice_unbounded boundary hroom hc)
    refine ⟨fun hroom => ⟨fun hfull => ?_, ?_, fun hindex hnone b l hbl hl => ⟨fun hdue => ?_, fun r hr h0 hdue => ?_⟩⟩,
      fun slot m hroom => ⟨fun b l r hindex hnone hbl hl hr hdue hm hcut => ?_, fun h0 => ?_⟩⟩
    · rw [chosen hroom (chooseChunk_index hfull), layChunk_index run hread, layIndex, addChunk, hlay]
      rfl
    · intro p i base size hindex ha hp hi hr hstop
      have number : i.number = p := doneBlock_number hi
      refine ⟨_, chosen hroom (chooseChunk_audio hindex (audioDue_eq_some ha hp hi hstop)), ?_⟩
      obtain ⟨only, control⟩ := layChunk_audio_only (i := i) hread hr
      refine ⟨only, ?_, fun c hc hnear => ?_, fun hfar => ?_⟩
      · rw [layChunk_audio hread hr, overrunEndedIf_clip, audioBegun, audioHeaded_eq hlay, number]
        rfl
      · rw [control, nextNear_eq_true hc (by rw [number]; exact hnear)]
        rfl
      · rw [control, nextNear_eq_false (by rw [number]; exact hfar)]
        rfl
    · have still : chooseChunk s = none := by
        rw [chooseChunk_video hindex (audioDue_eq_none hnone), if_neg]
        rw [videoDue_iff, ← backlogIs_iff.mp hbl]
        rintro ⟨hpos, hmin⟩
        rcases hdue with h | ⟨hlt, hst⟩
        · omega
        · exact hmin.elim (fun h => absurd hlt (Nat.not_lt.mpr h)) hst
      exact hexec (chunkChoice_none boundary (by rw [clipRoom_unbounded hroom]; rfl) still)
    · have due : videoDue s = true := videoDue_of (videoLengthIs_eq hl) h0 (backlogIs_iff.mp hbl ▸ hdue)
      have choice : chooseChunk s = some (.video l) := by
        rw [chooseChunk_video hindex (audioDue_eq_none hnone), if_pos due, ← videoLengthIs_eq hl]
      exact ⟨_, chosen hroom choice, video hr h0⟩
    · have due : videoDue s = true := videoDue_of (videoLengthIs_eq hl) (by omega) (backlogIs_iff.mp hbl ▸ hdue)
      have choice : chooseChunk s = some (.video l) := by
        rw [chooseChunk_video hindex (audioDue_eq_none hnone), if_pos due, ← videoLengthIs_eq hl]
      have room := clipRoom_roomIs hroom
      have inside : atEnd (clipRoom s) = false := by
        rw [room]
        simp [atEnd]
        omega
      exact ⟨_, hexec ((chunkChoice_some boundary inside choice).trans (fitChunk_cut room hm hcut)), video hr (Nat.sub_pos_of_lt hm)⟩
    · subst h0
      have room := clipRoom_roomIs hroom
      have ends : chunkChoice s = clipCardEnd s := chunkChoice_end boundary (by rw [room]; rfl)
      obtain ⟨targets, -, -⟩ := hroom
      intro other otherReady
      have same : other = otherSlot slot := otherSlot_eq slot
      clear_value other
      subst same
      refine ⟨fun hmode hready hopen => ?_, fun hmode => ?_⟩
      · refine ⟨_, hexec (ends.trans (clipCardEnd_relay hmode targets (available_iff.mpr hready))), changesOnly_relayed slot s,
          relayed_card slot s, ?_⟩
        rw [relayed, fillOpenPage_none hopen]
        rfl
      · have atEnds : atEnd (cardRoom s slot) = true := by
          rw [← clipRoom_only targets, room]
          rfl
        have given_up : clipCardEnd s = abortClip s := clipCardEnd_abort targets atEnds (hmode.imp_right fun h => h.imp_right fun h =>
          h.imp_right fun h => ⟨h.1, by rw [← Bool.not_eq_true, available_iff]; exact h.2⟩)
        obtain ⟨state, index, -, read⟩ := abortClip_state s
        exact ⟨_, hexec (ends.trans given_up), state, index, read, (causePresent_abortClip s).1,
          abortReported_abortClip (postsOnly_refl s) (by simp) rfl rfl rfl rfl, changesOnly_abortClip s⟩

end Sys2Proof.Machine

namespace Sys2Proof.Machine

section

variable {x : CardSlot} {s t u : State} {l : List (Byte × Byte)}

/-! ### The loss of a card, branch by branch (R26, R40, R41, R42) -/

/-- Each page of the queue counts card `x` as failed (R40, R50). -/
def lossMarked (x : CardSlot) (s : State) : State := s.setClip { s.clip with pages := s.clip.pages.map (markFailed x) }

/-- Something of the clip still goes to card `x`, which it is on (R40). -/
def stillOn (x : CardSlot) (c : Clip) : Prop := c.targets.has x = true ∧ (c.closed = false ∨ c.pages ≠ [] ∨ c.lay ≠ [])

theorem cardLost_idle (h : s.clip.state = .idle) : cardLost x s = releaseDrained (dropDone (lossMarked x s)) := by
  unfold cardLost
  rw [h]
  rfl

theorem cardLost_armed (h : s.clip.state = .armed) : cardLost x s = armedLosesCard x (lossMarked x s) := by
  unfold cardLost
  rw [h]
  rfl

theorem cardLost_making (h : s.clip.state = .recording ∨ s.clip.state = .stopping) : cardLost x s =
    if s.clip.targets.has x && !(s.clip.closed && s.clip.pages.isEmpty && s.clip.lay.isEmpty) then clipLosesCard x (lossMarked x s)
    else dropDone (lossMarked x s) := by
  unfold cardLost
  rcases h with h | h
  · rw [h]
    rfl
  · rw [h]
    rfl

theorem cardLost_on (h : s.clip.state = .recording ∨ s.clip.state = .stopping) (on : stillOn x s.clip) :
    cardLost x s = clipLosesCard x (lossMarked x s) := by
  obtain ⟨target, pending⟩ := on
  rw [cardLost_making h, if_pos]
  rcases pending with h | h | h <;> simp [target, h]

theorem cardLost_off (h : s.clip.state = .recording ∨ s.clip.state = .stopping) (off : ¬stillOn x s.clip) :
    cardLost x s = dropDone (lossMarked x s) := by
  rw [cardLost_making h, if_neg]
  intro on
  simp only [Bool.and_eq_true, Bool.not_eq_true', Bool.and_eq_false_iff, List.isEmpty_eq_false_iff] at on
  exact off ⟨on.1, by tauto⟩

/-! ### What the loss leaves (R26, R37, R40, R41, R42) -/

theorem waitsFor_markFailed (x : CardSlot) (p : PageRecord) : waitsFor (markFailed x p) x = false := by
  cases x <;> simp [waitsFor, markFailed, CardSet.add, CardSet.has]

theorem waitsFor_headed {p : PageRecord} (h : p.target = CardSet.only (otherSlot x)) : waitsFor p x = false := by
  rw [waitsFor, h]
  cases x <;> simp [CardSet.only, otherSlot, CardSet.has]

theorem waitsFor_retargetPage {p : PageRecord} (h : waitsFor p x = false) : waitsFor (retargetPage x (otherSlot x) p) x = false := by
  unfold retargetPage
  split
  · exact waitsFor_headed rfl
  · exact h

theorem mem_insertHead {other : CardSlot} {head : Nat → PageRecord} {l : List PageRecord} {p : PageRecord}
    (h : p ∈ insertHead x other head l) : (∃ n, p = head n) ∨ (∃ q ∈ l, p = retargetPage x other q) ∨ p ∈ l := by
  induction l with
  | nil => exact .inl ⟨_, List.mem_singleton.mp h⟩
  | cons q rest ih =>
    unfold insertHead at h
    split at h
    · rcases List.mem_cons.mp h with h | h
      · exact .inl ⟨_, h⟩
      · obtain ⟨r, hr, e⟩ := List.mem_map.mp h
        exact .inr (.inl ⟨r, hr, e.symm⟩)
    · rcases List.mem_cons.mp h with h | h
      · exact .inr (.inr (by rw [h]; exact List.mem_cons_self))
      · rcases ih h with h | ⟨r, hr, e⟩ | h
        · exact .inl h
        · exact .inr (.inl ⟨r, List.mem_cons_of_mem _ hr, e⟩)
        · exact .inr (.inr (List.mem_cons_of_mem _ h))

/-- The assembler `c` goes on after the loss of card `x`, which no page awaits and on which no unfinished clip is (R40, R42). -/
def lossSettled (x : CardSlot) (s : State) (c : Clip) : Prop :=
  c.state = s.clip.state ∧ (∀ p ∈ c.pages, waitsFor p x = false) ∧ (s.clip.state ≠ .idle → stillOn x s.clip → c.targets.has x = false)

theorem remove_has (set : CardSet) (x : CardSlot) : (set.remove x).has x = false := by cases x <;> rfl
theorem only_other_has (x : CardSlot) : (CardSet.only (otherSlot x)).has x = false := by cases x <;> rfl

theorem waitsFor_lossMarked {p : PageRecord} (h : p ∈ (lossMarked x s).clip.pages) : waitsFor p x = false := by
  obtain ⟨q, -, rfl⟩ := List.mem_map.mp h
  exact waitsFor_markFailed x q

/-- Card `x` is lost: the assembler goes on as it is, goes on with the other card made ACTIVE, ends an idle queue's wait, or gives the clip
up (R26, R40, R41, R42). -/
inductive lossTaken (x : CardSlot) (s : State) : State → Prop
  | kept (c : Clip) (h : lossSettled x s c) : lossTaken x s (s.setClip c)
  | drained (c : Clip) (idle : s.clip.state = .idle) (h : lossSettled x s c) : lossTaken x s (releaseDrained (s.setClip c))
  | moved (c d : Clip) (ready : available (s.card (otherSlot x)) = true) (h : lossSettled x s c) :
    lossTaken x s ((makeActive (otherSlot x) (s.setClip d)).setClip c)
  | aborted (targets : CardSet) : lossTaken x s (abortClip (s.setClip { (lossMarked x s).clip with targets := targets }))

theorem lossTaken_cardLost (x : CardSlot) (s : State) : lossTaken x s (cardLost x s) := by
  have left {p : PageRecord} (h : p ∈ (dropDone (lossMarked x s)).clip.pages) : waitsFor p x = false :=
    waitsFor_lossMarked (List.mem_filter.mp h).1
  have same : (lossMarked x s).card (otherSlot x) = s.card (otherSlot x) := State.setClip_card _ _ _
  have clip : (makeActive (otherSlot x) (lossMarked x s)).clip = (lossMarked x s).clip := setCardState_clip _ _ _
  have state : (makeActive (otherSlot x) (lossMarked x s)).clip.state = s.clip.state := by rw [clip]; rfl
  have making (h : s.clip.state = .recording ∨ s.clip.state = .stopping) : lossTaken x s (cardLost x s) := by
    by_cases on : stillOn x s.clip
    · rw [cardLost_on h on, clipLosesCard]
      split
      · split
        · rename_i ready
          rw [same] at ready
          refine .moved _ _ ready ⟨state, fun p hp => ?_, fun _ _ => only_other_has x⟩
          have hp := (List.mem_filter.mp hp).1
          rcases mem_insertHead hp with ⟨n, rfl⟩ | ⟨q, hq, rfl⟩ | hq
          · exact waitsFor_headed rfl
          · rw [clip] at hq
            exact waitsFor_retargetPage (waitsFor_lossMarked hq)
          · rw [clip] at hq
            exact waitsFor_lossMarked hq
        · exact .aborted s.clip.targets
      · dsimp only
        split
        · exact .aborted _
        · exact .kept _ ⟨rfl, fun p hp => left hp, fun _ _ => remove_has _ x⟩
    · rw [cardLost_off h on]
      exact .kept _ ⟨rfl, fun p hp => left hp, fun _ k => absurd k on⟩
  cases h : s.clip.state with
  | idle =>
    rw [cardLost_idle h]
    exact .drained _ h ⟨rfl, fun p hp => left hp, fun k => absurd h k⟩
  | armed =>
    rw [cardLost_armed h, armedLosesCard]
    split
    · split
      · exact .kept _ ⟨rfl, fun p hp => waitsFor_lossMarked hp, fun _ _ => remove_has _ x⟩
      · split
        · rename_i ready
          rw [same] at ready
          refine .moved _ _ ready.2 ⟨state, fun p hp => ?_, fun _ _ => only_other_has x⟩
          dsimp only at hp
          rw [clip] at hp
          exact waitsFor_lossMarked hp
        · exact .aborted s.clip.targets
    · rename_i off
      exact .kept _ ⟨rfl, fun p hp => waitsFor_lossMarked hp, fun _ k => absurd k.1 off⟩
  | recording => exact making (.inl h)
  | stopping => exact making (.inr h)

/-! ### What every loss of a card does and leaves (R40, R41, R42) -/

/-- The places of the notices that the loss of a card may bring, with the commands waiting in `c` (R41, R195). -/
def lossPlaces (c : Clip) : List (Byte × Byte) :=
  [gapPlace, noticePlace (.condition .mediaExhausted), (3, 0)] ++ donePlaces c.stopCmd ++ [cardPlace .a, cardPlace .b]

theorem abortPlaces_eq (s : State) : abortPlaces s = lossPlaces s.clip := rfl

theorem lossPlaces_congr {c d : Clip} (h : c.stopCmd = d.stopCmd) : lossPlaces c = lossPlaces d := by rw [lossPlaces, lossPlaces, h]

theorem cardPlace_sublist (x : CardSlot) (c : Clip) : [cardPlace x].Sublist (lossPlaces c) := by
  refine (List.singleton_sublist.mpr ?_).trans (List.sublist_append_right _ _)
  cases x <;> simp

theorem postsOnly_cardLost (x : CardSlot) (s : State) : postsOnly (lossPlaces s.clip) s (cardLost x s) := by
  have taken := lossTaken_cardLost x s
  generalize cardLost x s = t at taken
  cases taken with
  | kept c h => exact (postsOnly_setClip c s).mono (List.nil_sublist _)
  | drained c idle h => exact ((postsOnly_setClip c s).trans (postsOnly_releaseDrained _)).mono (List.sublist_append_right _ _)
  | moved c d ready h =>
    exact (((postsOnly_setClip d s).trans (postsOnly_setCardState (otherSlot x) .active _)).trans (postsOnly_setClip c _)).mono
      (cardPlace_sublist _ _)
  | aborted targets =>
    generalize hu : s.setClip { (lossMarked x s).clip with targets := targets } = u
    have begun : postsOnly [] s u := hu ▸ postsOnly_setClip _ s
    have stop : u.clip.stopCmd = s.clip.stopCmd := by rw [← hu]; rfl
    have given_up := begun.trans (postsOnly_abortClip u)
    rwa [abortPlaces_eq, List.nil_append, lossPlaces_congr stop] at given_up

theorem changesOnly_cardLost (x : CardSlot) (s : State) : changesOnly [.clip, .tap, .path, .card .a, .card .b, .control] s (cardLost x s) := by
  have taken := lossTaken_cardLost x s
  generalize cardLost x s = t at taken
  cases taken with
  | kept c h => exact changesOnly_mono (by simp) (changesOnly_setClip c s)
  | drained c idle h =>
    exact changesOnly_trans (changesOnly_mono (by simp) (changesOnly_setClip c s)) (changesOnly_mono (by simp) (changesOnly_releaseDrained _))
  | moved c d ready h =>
    refine changesOnly_trans (changesOnly_trans (changesOnly_mono (by simp) (changesOnly_setClip d s))
      (changesOnly_mono ?_ (changesOnly_setCardState (otherSlot x) .active _))) (changesOnly_mono (by simp) (changesOnly_setClip c _))
    cases x <;> simp [otherSlot]
  | aborted targets => exact changesOnly_trans (changesOnly_mono (by simp) (changesOnly_setClip _ s)) (changesOnly_abortClip _)

theorem otherSlot_ne (x : CardSlot) : otherSlot x ≠ x := by cases x <;> decide

theorem cardLost_card (h : (s.card x).state ≠ .active) : (cardLost x s).card x = s.card x := by
  have taken := lossTaken_cardLost x s
  generalize cardLost x s = t at taken
  cases taken with
  | kept c k => exact State.setClip_card _ _ _
  | drained c idle k => exact (releaseDrained_card (by rwa [State.setClip_card])).trans (State.setClip_card _ _ _)
  | moved c d ready k =>
    exact (State.setClip_card _ _ _).trans ((setCardState_card_other (otherSlot_ne x) _ _).trans (State.setClip_card _ _ _))
  | aborted targets => exact (abortClip_card (by rwa [State.setClip_card])).trans (State.setClip_card _ _ _)

theorem condState_assemblyEnded_other {c : Condition} (h : c ≠ .streamOverrun) (s : State) :
    condState (assemblyEnded s) c = condState s c := by
  have ended := condState_endCause_other s h
  unfold assemblyEnded
  rcases retestHeld_cases (endCause .streamOverrun s) with e | ⟨w, -, e, -⟩
  · rw [e, ended]
  · have floor (v : State) : condState (recomputeFloor v) c = condState v c := by
      refine condState_congr ?_ c
      exact congrArg Control.conditions (changesOnly_recomputeFloor v .control (by simp))
    rw [e, advanceCursor_eq, condState_overrunEndTest h, floor, cursorMoved]
    refine (condState_congr ?_ c).trans ended
    exact conditions_gapEvent w _

theorem slotFault_other (x : CardSlot) : slotFault x ≠ .streamOverrun ∧ slotFault x ≠ .audioOverrun ∧ slotFault x ≠ .mediaExhausted := by
  cases x <;> decide

theorem condState_abortClip_fault (y : CardSlot) (s : State) : condState (abortClip s) (slotFault y) = condState s (slotFault y) := by
  obtain ⟨stream, audio, media⟩ := slotFault_other y
  rw [condState_congr (conditions_abortClip s), abortCaused, condState_startCause_other media, condState_endCause_other _ audio,
    condState_assemblyEnded_other stream]
  rfl

/-- The FAULT condition of a slot is not touched by what the loss of a card does to the clip (R50, R198). -/
theorem condState_cardLost_fault (x y : CardSlot) (s : State) : condState (cardLost x s) (slotFault y) = condState s (slotFault y) := by
  have taken := lossTaken_cardLost x s
  generalize cardLost x s = t at taken
  cases taken with
  | kept c k => rfl
  | drained c idle k => exact condState_congr (conditions_releaseDrained _) _
  | moved c d ready k =>
    have other : (s.card (otherSlot x)).state ≠ .failed := by rw [(available_iff.mp ready).1]; decide
    exact condState_congr (conditions_setCardState (by rwa [State.setClip_card]) _) _
  | aborted targets => exact condState_abortClip_fault y _

/-- No page awaits a lost card (R40, R50). -/
theorem waitsFor_cardLost {p : PageRecord} (hp : p ∈ (cardLost x s).clip.pages) : waitsFor p x = false := by
  have taken := lossTaken_cardLost x s
  generalize cardLost x s = t at taken hp
  cases taken with
  | kept c k => exact k.2.1 p hp
  | drained c idle k =>
    rw [releaseDrained_clip] at hp
    exact k.2.1 p hp
  | moved c d ready k => exact k.2.1 p hp
  | aborted targets =>
    obtain ⟨-, q, hq, same⟩ := mem_pages_abortClip hp
    rw [waitsFor_congr same]
    exact waitsFor_lossMarked hq

/-- A clip that was still to be written to a lost card has ended, or goes on without it (R26, R40, R41, R42). -/
theorem clip_cardLost (h : s.clip.state ≠ .idle) (on : stillOn x s.clip) : (cardLost x s).clip.state = .idle ∨
    ((cardLost x s).clip.state = s.clip.state ∧ (cardLost x s).clip.targets.has x = false) := by
  have taken := lossTaken_cardLost x s
  generalize cardLost x s = t at taken
  cases taken with
  | kept c k => exact .inr ⟨k.1, k.2.2 h on⟩
  | drained c idle k => exact absurd idle h
  | moved c d ready k => exact .inr ⟨k.1, k.2.2 h on⟩
  | aborted targets => exact .inl (abortClip_state _).1

/-! ### A card fails (R50) -/

/-- A card that has failed, before a held erase of it goes on (R50, R57). -/
def failedCard (c : Card) : Card := orphanErase { c with
  state := .failed, phase := .idle, statusOut := false, settling := false, fetchReq := none, walk := .none, chain := .none
  chainCmd := none, rolloverWait := false }

/-- The part with card `x` failed and its chain dropped, before the clip takes notice (R50). -/
def failBegun (x : CardSlot) (s : State) : State := dropChain x (s.setCard x { s.card x with
  state := .failed, phase := .idle, statusOut := false, settling := false })

theorem postsOnly_dropChain (x : CardSlot) (s : State) : postsOnly (donePlaces (s.card x).chainCmd) s (dropChain x s) := by
  have dropped : postsOnly [] s (dropFetch x s) := (postsOnly_abandonReads _ s).trans (postsOnly_setCard x _ _)
  have cmd : ((dropFetch x s).card x).chainCmd = (s.card x).chainCmd := by
    rw [dropFetch, updateCard_card]
    cases x <;> rfl
  unfold dropChain
  dsimp only
  rw [cmd]
  exact (dropped.trans (postsOnly_setCard x _ _)).trans (postsOnly_commandEnds _ _ _)

theorem changesOnly_dropFetch (x : CardSlot) (s : State) : changesOnly [.card x, .path] s (dropFetch x s) :=
  changesOnly_trans (changesOnly_mono (by simp) (changesOnly_abandonReads s _)) (changesOnly_mono (by simp) (changesOnly_updateCard x _ _))

theorem dropFetch_card (x : CardSlot) (s : State) : (dropFetch x s).card x = { s.card x with fetchReq := none, walk := .none } := by
  rw [dropFetch, updateCard_card]
  cases x <;> rfl

theorem changesOnly_dropChain (x : CardSlot) (s : State) : changesOnly [.card x, .path, .control] s (dropChain x s) :=
  changesOnly_trans (changesOnly_trans (changesOnly_mono (by simp) (changesOnly_dropFetch x s))
    (changesOnly_mono (by simp) (changesOnly_setCard x _ _))) (changesOnly_mono (by simp) (changesOnly_commandEnds _ _ _))

theorem dropChain_card (x : CardSlot) (s : State) : (dropChain x s).card x = orphanErase { s.card x with
    fetchReq := none, walk := .none, chain := .none, chainCmd := none, rolloverWait := false } := by
  have told : (dropChain x s).card x = ((dropFetch x s).setCard x (orphanErase { (dropFetch x s).card x with
      chain := .none, chainCmd := none, rolloverWait := false })).card x := changesOnly_commandEnds _ _ _ (.card x) (by simp)
  rw [told, State.setCard_card, dropFetch_card]

theorem failBegun_card (x : CardSlot) (s : State) : (failBegun x s).card x = failedCard (s.card x) := by
  rw [failBegun, dropChain_card, State.setCard_card]
  rfl

theorem failBegun_inactive (x : CardSlot) (s : State) : ((failBegun x s).card x).state ≠ .active := by
  rw [failBegun_card]
  simp [failedCard, orphanErase]

theorem failBegun_clip (x : CardSlot) (s : State) : (failBegun x s).clip = s.clip := by
  rw [failBegun, dropChain_clip, State.setCard_clip]

theorem changesOnly_failBegun (x : CardSlot) (s : State) : changesOnly [.card x, .path, .control] s (failBegun x s) :=
  changesOnly_trans (changesOnly_mono (by simp) (changesOnly_setCard x _ s)) (changesOnly_dropChain x _)

theorem postsOnly_failBegun (x : CardSlot) (s : State) : postsOnly (donePlaces (s.card x).chainCmd) s (failBegun x s) := by
  have dropped := postsOnly_dropChain x (s.setCard x { s.card x with
    state := .failed, phase := .idle, statusOut := false, settling := false })
  rw [State.setCard_card] at dropped
  exact (postsOnly_setCard x _ s).trans dropped

theorem conditions_failBegun (x : CardSlot) (s : State) : (failBegun x s).control.conditions = s.control.conditions := by
  rw [failBegun, dropChain, conditions_commandEnds, State.setCard_control, dropFetch_control, State.setCard_control]

/-- The part once the clip has taken notice of the failure of card `x` (R40, R50). -/
def failSpread (x : CardSlot) (s : State) : State := if (s.card x).state = .active then cardLost x (failBegun x s) else failBegun x s

theorem failSpread_active (h : (s.card x).state = .active) : failSpread x s = cardLost x (failBegun x s) := if_pos h

/-- The CARD_STATE notice of a card that fails (R50, R51). -/
def failNotice (x : CardSlot) (c : Card) : Notice :=
  .cardState x .failed c.state c.au c.pageIndex (if c.state = .probing then some (c.auCount, c.serial) else none)

/-- The failure of card `x` has been reported (R50). -/
def failTold (x : CardSlot) (s : State) : State :=
  if (s.card x).state = .failed then startCause (slotFault x) (failSpread x s)
  else postNotice (failNotice x (s.card x)) (startCause (slotFault x) (failSpread x s))

theorem failCard_eq (x : CardSlot) (s : State) : failCard x s = continueErase x (failTold x s) := rfl

theorem failSpread_card (x : CardSlot) (s : State) : (failSpread x s).card x = failedCard (s.card x) := by
  unfold failSpread
  split
  · rw [cardLost_card (failBegun_inactive x s), failBegun_card]
  · exact failBegun_card x s

theorem failTold_card (x y : CardSlot) (s : State) : (failTold x s).card y = (failSpread x s).card y := by
  unfold failTold
  split
  · exact startCause_card _ _ _
  · rw [failNotice, postNotice_cardState_card, startCause_card]

theorem failTold_clip (x : CardSlot) (s : State) : (failTold x s).clip = (failSpread x s).clip := by
  unfold failTold
  split <;> simp

theorem conditions_failTold (x : CardSlot) (s : State) :
    (failTold x s).control.conditions = (startCause (slotFault x) (failSpread x s)).control.conditions := by
  unfold failTold
  split
  · rfl
  · exact conditions_postNotice _ _

theorem conditions_failCard (x : CardSlot) (s : State) :
    (failCard x s).control.conditions = (startCause (slotFault x) (failSpread x s)).control.conditions := by
  have continued : (failCard x s).control = (failTold x s).control := changesOnly_continueErase x _ .control (by simp)
  rw [continued, conditions_failTold]

theorem failCard_clip (x : CardSlot) (s : State) : (failCard x s).clip = (failSpread x s).clip :=
  (changesOnly_continueErase x (failTold x s) .clip (by simp)).trans (failTold_clip x s)

/-- A failed card but for what continues a held erase on its link (R50, R61). -/
theorem linkOnly_failCard (x : CardSlot) (s : State) : linkOnly (failedCard (s.card x)) ((failCard x s).card x) := by
  have continued := linkOnly_continueErase x (failTold x s)
  rwa [failTold_card, failSpread_card] at continued

theorem cardFailed_failCard (x : CardSlot) (s : State) : cardFailed s (failCard x s) x := by
  have link := linkOnly_failCard x s
  have cause : causePresent (failCard x s) (slotFault x) = true := by
    rw [causePresent, condState_congr (conditions_failCard x s)]
    exact causePresent_startCause _ _
  refine ⟨by rw [link]; rfl, by rw [link]; rfl, by rw [link]; rfl, by rw [link]; rfl, by rw [link]; rfl, cause, fun none_erased => ?_⟩
  have moved := cardMoved_continueErase x (failTold x s)
  have card : (failTold x s).card x = failedCard (s.card x) := by rw [failTold_card, failSpread_card]
  have none_left : (failedCard (s.card x)).erase = none := by rw [failedCard, orphanErase, none_erased]; rfl
  obtain ⟨-, -, -, -, -, same⟩ := moved
  rw [card] at same
  rw [failCard_eq, same none_left]
  exact ⟨rfl, rfl, none_left⟩

/-- The places of the notices of a failure (R40, R50, R51). -/
def failPlaces (x : CardSlot) (s : State) : List (Byte × Byte) :=
  donePlaces (s.card x).chainCmd ++ lossPlaces s.clip ++ [noticePlace (.condition (slotFault x)), cardPlace x]

theorem postsOnly_failSpread (x : CardSlot) (s : State) :
    postsOnly (donePlaces (s.card x).chainCmd ++ lossPlaces s.clip) s (failSpread x s) := by
  unfold failSpread
  split
  · have lost := postsOnly_cardLost x (failBegun x s)
    rw [failBegun_clip] at lost
    exact (postsOnly_failBegun x s).trans lost
  · exact (postsOnly_failBegun x s).mono (List.sublist_append_left _ _)

theorem postsOnly_failTold (x : CardSlot) (s : State) :
    postsOnly [noticePlace (.condition (slotFault x)), cardPlace x] (failSpread x s) (failTold x s) := by
  unfold failTold
  split
  · exact (postsOnly_startCause _ _).mono (List.sublist_append_left [_] [_])
  · exact (postsOnly_startCause _ _).trans (postsOnly_cardState x _ _ _ _ _ _)

theorem postsOnly_failCard (x : CardSlot) (s : State) : postsOnly (failPlaces x s) s (failCard x s) := by
  have told := ((postsOnly_failSpread x s).trans (postsOnly_failTold x s)).trans (postsOnly_continueErase x _)
  rwa [List.append_nil] at told

theorem changesOnly_failTold (x : CardSlot) (s : State) : changesOnly [.control] (failSpread x s) (failTold x s) := by
  unfold failTold
  split
  · exact changesOnly_startCause _ _
  · exact changesOnly_trans (changesOnly_startCause _ _) (changesOnly_postNotice (fun _ => rfl) _)

theorem changesOnly_failCard (x : CardSlot) (s : State) :
    changesOnly [.clip, .tap, .path, .card .a, .card .b, .control] s (failCard x s) := by
  have slot : [Part.card x] ⊆ [.clip, .tap, .path, .card .a, .card .b, .control] := by cases x <;> simp
  have begun : changesOnly [.clip, .tap, .path, .card .a, .card .b, .control] s (failBegun x s) :=
    changesOnly_mono (by cases x <;> simp) (changesOnly_failBegun x s)
  have spread : changesOnly [.clip, .tap, .path, .card .a, .card .b, .control] s (failSpread x s) := by
    unfold failSpread
    split
    · exact changesOnly_trans begun (changesOnly_cardLost x _)
    · exact begun
  exact changesOnly_trans (changesOnly_trans spread (changesOnly_mono (by simp) (changesOnly_failTold x s)))
    (changesOnly_mono slot (changesOnly_continueErase x _))

end

end Sys2Proof.Machine

namespace Sys2Proof.Machine

section

variable {x : CardSlot} {s t u w : State} {l : List (Byte × Byte)}

/-! ### Insertion and probe (R46, R47) -/

theorem setCard_setCard (x : CardSlot) (v d : Card) (s : State) : (s.setCard x v).setCard x d = s.setCard x d := by cases x <;> rfl

theorem setCard_self (x : CardSlot) (s : State) : s.setCard x (s.card x) = s := by cases x <;> rfl

/-- A change to another state of a card that is not FAILED (R51). -/
theorem setCardState_reports {new : CardState} (hne : (s.card x).state ≠ new) (hf : (s.card x).state ≠ .failed) :
    setCardState x new s = postNotice (.cardState x new (s.card x).state (s.card x).au (s.card x).pageIndex
      (if (s.card x).state = .probing then some ((s.card x).auCount, (s.card x).serial) else none))
      (s.setCard x { s.card x with state := new }) := by
  unfold setCardState
  dsimp only
  rw [if_neg hne, if_neg hf]

theorem setCardState_setCard {new old : CardState} {v : Card} (hv : v.state = old) (hne : old ≠ new) (hf : old ≠ .failed) :
    setCardState x new (s.setCard x v) = postNotice (.cardState x new old v.au v.pageIndex
      (if old = .probing then some (v.auCount, v.serial) else none)) (s.setCard x { v with state := new }) := by
  subst hv
  have card : (s.setCard x v).card x = v := State.setCard_card _ _ _
  rw [setCardState_reports (by rwa [card]) (by rwa [card]), card, setCard_setCard]

theorem field_append {a b : List Byte} {m n : Nat} (h : a.length = m) : field (a ++ b) m n = fromLittleEndian (b.take n) := by
  rw [field, List.drop_left' h]

/-- The identity that an IDENT response of 11 bytes after the lead byte gives (R47, R212). -/
theorem identityOf_response (n : Word16) (own : Byte) (serial : Word64) :
    identityOf (0x5A :: (littleEndian 2 n.toNat ++ [own] ++ littleEndian 8 serial.toNat)) = some ⟨n, own.getLsbD 0, serial⟩ := by
  have count : field (littleEndian 2 n.toNat ++ [own] ++ littleEndian 8 serial.toNat) 0 2 = n.toNat := by
    rw [List.append_assoc, field, List.drop_zero, List.take_left' (littleEndian_length 2 _), fromLittleEndian_littleEndian]
    exact Nat.mod_eq_of_lt n.isLt
  have protect : byteAt (littleEndian 2 n.toNat ++ [own] ++ littleEndian 8 serial.toNat) 2 = own := by
    rw [byteAt, List.append_assoc, field_append (littleEndian_length 2 _)]
    simp [fromLittleEndian]
  have number : field (littleEndian 2 n.toNat ++ [own] ++ littleEndian 8 serial.toNat) 3 8 = serial.toNat := by
    rw [field_append (by simp), List.take_of_length_le (by simp), fromLittleEndian_littleEndian]
    exact Nat.mod_eq_of_lt serial.isLt
  have long : ¬(littleEndian 2 n.toNat ++ [own] ++ littleEndian 8 serial.toNat).length < 11 := by simp
  have body : cardResponse (0x5A :: (littleEndian 2 n.toNat ++ [own] ++ littleEndian 8 serial.toNat)) =
      some (littleEndian 2 n.toNat ++ [own] ++ littleEndian 8 serial.toNat) := rfl
  unfold identityOf
  rw [body]
  dsimp only
  rw [if_neg long, count, protect, number]
  simp

/-- The card with the identity of a response and its PROTECT input (R47). -/
def knownCard (n : Word16) (own p : Bool) (serial : Word64) (c : Card) : Card := { c with
  identified := true, auCount := n, serial := serial, cardProtect := own, phase := .idle, protectInput := p }

theorem identResponse_identified {r : List Byte} {n : Word16} {own p : Bool} {serial : Word64} (hph : (s.card x).phase = .ident)
    (hi : identityOf r = some ⟨n, own, serial⟩) : identResponse x r p s =
      (let v := s.setCard x (knownCard n own p serial (s.card x))
      if n.toNat < 16 then failCard x v else if p || own then setCardState x .writeProtected v else setCardState x .ready v) := by
  have card : (withProtect x p s).card x = { s.card x with protectInput := p } := by rw [withProtect, updateCard_card]
  have set (v : Card) : (withProtect x p s).setCard x v = s.setCard x v := setCard_setCard _ _ _ _
  unfold identResponse identified
  rw [if_pos hph, hi]
  dsimp only
  rw [card, set]
  rfl

/-! ### Removal (R49) -/

/-- The commands that a removal ends besides CHAIN and WAKE: the SLEEP or EJECT that waits (R49). -/
def requestCmd (c : Card) : Option Kept :=
  match c.request with
  | some (.sleep k) => some k
  | some (.eject k) => some k
  | none => none

theorem requestCmd_sleep {c : Card} {k : Kept} (h : c.request = some (.sleep k)) : requestCmd c = some k := by rw [requestCmd, h]
theorem requestCmd_eject {c : Card} {k : Kept} (h : c.request = some (.eject k)) : requestCmd c = some k := by rw [requestCmd, h]

theorem abortedCommands_eq (c : Card) : abortedCommands c =
    commandEnds c.chainCmd .aborted ++ commandEnds (requestCmd c) .aborted ++ commandEnds c.wakeCmd .aborted := by
  unfold abortedCommands requestCmd
  cases c.request with
  | none => rfl
  | some r => cases r <;> rfl

/-- A card with all cleared that R49 names. -/
def removedCard (c : Card) : Card := { clearIdentity c with
  phase := .idle, statusOut := false, chain := .none, chainCmd := none, erase := none, request := none, wakeCmd := none
  sleepOrigin := .none, rolloverWait := false, holdRefused := false }

/-- The slot cleared and its fetch abandoned (R49). -/
def slotCleared (x : CardSlot) (w : State) : State := dropFetch x (w.setCard x (removedCard (w.card x)))

/-- The commands that waited on a removed card have been reported (R49). -/
def removalTold (x : CardSlot) (w : State) : State := reports (abortedCommands (w.card x)) (slotCleared x w)

/-- The part before a removal is carried out, an ACTIVE card being FAILED (R49). -/
def removalBegun (x : CardSlot) (s : State) : State := if (s.card x).state = .active then failCard x s else s

theorem removeCard_eq (x : CardSlot) (s : State) : removeCard x s = setCardState x .absent (removalTold x (removalBegun x s)) := rfl

/-- The places of the CMD_DONE notices of the commands that wait on a card (R49, R195). -/
def waitPlaces (c : Card) : List (Byte × Byte) := donePlaces c.chainCmd ++ donePlaces (requestCmd c) ++ donePlaces c.wakeCmd

theorem donePlaces_length (k : Option Kept) : (donePlaces k).length ≤ 1 := by cases k <;> simp [donePlaces]

theorem postsOnly_slotCleared (x : CardSlot) (w : State) : postsOnly [] w (slotCleared x w) :=
  ((postsOnly_setCard x _ w).trans (postsOnly_abandonReads _ _)).trans (postsOnly_setCard x _ _)

theorem removalTold_eq (x : CardSlot) (w : State) : removalTold x w = reports (commandEnds (w.card x).wakeCmd .aborted)
    (reports (commandEnds (requestCmd (w.card x)) .aborted) (reports (commandEnds (w.card x).chainCmd .aborted) (slotCleared x w))) := by
  rw [removalTold, abortedCommands_eq, reports_append, reports_append]

theorem postsOnly_removalTold (x : CardSlot) (w : State) : postsOnly (waitPlaces (w.card x)) w (removalTold x w) := by
  rw [removalTold_eq]
  exact ((postsOnly_slotCleared x w).trans (postsOnly_commandEnds _ _ _)).trans (postsOnly_commandEnds _ _ _) |>.trans
    (postsOnly_commandEnds _ _ _)

/-- Each command that waits on a removed card is reported, the codes being their own (R49, R192). -/
theorem donePosted_removalTold (h : postsOnly l s w) (hl : l.length ≤ 12) {k : Kept}
    (hk : (w.card x).chainCmd = some k ∧ (2, k.code) ∉ donePlaces (requestCmd (w.card x)) ++ donePlaces (w.card x).wakeCmd ∨
      requestCmd (w.card x) = some k ∧ (2, k.code) ∉ donePlaces (w.card x).wakeCmd ∨ (w.card x).wakeCmd = some k) :
    donePosted k .aborted s (removalTold x w) := by
  have cleared := h.trans (postsOnly_slotCleared x w)
  have chain := cleared.trans (postsOnly_commandEnds (w.card x).chainCmd .aborted _)
  have request := chain.trans (postsOnly_commandEnds (requestCmd (w.card x)) .aborted _)
  have few (q : Option Kept) := donePlaces_length q
  have c1 := few (w.card x).chainCmd
  have c2 := few (requestCmd (w.card x))
  rw [removalTold_eq]
  rcases hk with ⟨e, hn⟩ | ⟨e, hn⟩ | e
  · rw [List.mem_append, not_or] at hn
    have posted : donePosted k .aborted s (reports (commandEnds (w.card x).chainCmd .aborted) (slotCleared x w)) := by
      rw [e]
      exact donePosted_commandEnds cleared (by simp; omega)
    exact donePosted_after (donePosted_after posted (postsOnly_commandEnds _ _ _) hn.1) (postsOnly_commandEnds _ _ _) hn.2
  · have posted : donePosted k .aborted s (reports (commandEnds (requestCmd (w.card x)) .aborted)
        (reports (commandEnds (w.card x).chainCmd .aborted) (slotCleared x w))) := by
      rw [e]
      exact donePosted_commandEnds chain (by simp; omega)
    exact donePosted_after posted (postsOnly_commandEnds _ _ _) hn
  · rw [e]
    exact donePosted_commandEnds request (by simp; omega)

theorem changesOnly_reports_control (x : CardSlot) (w : State) : changesOnly [.control] (slotCleared x w) (removalTold x w) := by
  rw [removalTold_eq]
  exact changesOnly_trans (changesOnly_trans (changesOnly_commandEnds _ _ _) (changesOnly_commandEnds _ _ _)) (changesOnly_commandEnds _ _ _)

theorem changesOnly_slotCleared (x : CardSlot) (w : State) : changesOnly [.card x, .path] w (slotCleared x w) :=
  changesOnly_trans (changesOnly_mono (by simp) (changesOnly_setCard x _ w)) (changesOnly_dropFetch x _)

theorem removalTold_card (x : CardSlot) (w : State) :
    (removalTold x w).card x = { removedCard (w.card x) with fetchReq := none, walk := .none } := by
  have told : (removalTold x w).card x = (slotCleared x w).card x := changesOnly_reports_control x w (.card x) (by simp)
  rw [told, slotCleared, dropFetch_card, State.setCard_card]

theorem conditions_removalTold (x : CardSlot) (w : State) : (removalTold x w).control.conditions = w.control.conditions := by
  rw [removalTold_eq, conditions_commandEnds, conditions_commandEnds, conditions_commandEnds, slotCleared, dropFetch_control,
    State.setCard_control]

/-- No read of the slot is in flight any more (R49). -/
theorem inFlight_removalTold (x : CardSlot) (w : State) : ∀ i ∈ (removalTold x w).path.inFlight, i.dest ≠ .card x := by
  have told : (removalTold x w).path = (slotCleared x w).path := changesOnly_reports_control x w .path (by simp)
  have path : (slotCleared x w).path = (abandonReads (w.setCard x (removedCard (w.card x))) (· == .card x)).path := updateCard_path _ _ _
  rw [told, path]
  intro i hi e
  obtain ⟨j, -, rfl⟩ := List.mem_map.mp hi
  split at e
  · cases e
  · rename_i other
    exact other (beq_iff_eq.mpr e)

/-! ### The FAULT condition of a card that fails and leaves FAILED at once (R50, R198) -/

theorem condState_startCause (c : Condition) (s : State) :
    condState (startCause c s) c = if condState s c = .ackedActive then .ackedActive else .active := by
  unfold startCause
  dsimp only
  split
  · rename_i present
    rw [causePresent] at present
    cases h : condState s c <;> simp_all [CondState.causePresent]
  · rename_i absent
    have other : condState s c ≠ .ackedActive := fun e => absent (by rw [causePresent, e]; rfl)
    rw [if_neg other]
    split
    · exact condState_setCondState_same s c _
    · rw [condState_congr (conditions_postNotice _ _)]
      exact condState_setCondState_same s c _

theorem condState_failSpread (x : CardSlot) (s : State) : condState (failSpread x s) (slotFault x) = condState s (slotFault x) := by
  have begun : condState (failBegun x s) (slotFault x) = condState s (slotFault x) := condState_congr (conditions_failBegun x s) _
  unfold failSpread
  split
  · rw [condState_cardLost_fault, begun]
  · exact begun

theorem condState_endCause_same (c : Condition) (s : State) : condState (endCause c s) c = (condState s c).ended :=
  condState_setCondState_same s c _

theorem conditions_setCardState_failed {new : CardState} (h : (s.card x).state = .failed) (hne : new ≠ .failed) :
    (setCardState x new s).control.conditions = (endCause (slotFault x) s).control.conditions := by
  unfold setCardState
  dsimp only
  rw [if_neg (by rw [h]; exact hne.symm), conditions_postNotice, if_pos h, endCause_control, endCause_control]
  cases x <;> rfl

/-- The notice of the FAULT condition at a failure that starts its cause, unmasked (R198, R200). -/
theorem faultNotice_failTold (hp : causePresent s (slotFault x) = false) (hm : s.control.noticeMask.getLsbD (slotFault x).number.val = false)
    (hf : (s.card x).state ≠ .failed) : noticePends (.condition (slotFault x)) s (failTold x s) ∧
      ∃ u, condState u (slotFault x) = .active ∧ noticeWritten (.condition (slotFault x)) s u (failTold x s) := by
  have spread := postsOnly_failSpread x s
  have absent : causePresent (failSpread x s) (slotFault x) = false := by rw [causePresent, condState_failSpread]; exact hp
  have set : postsOnly [] (failSpread x s) (setCondState (failSpread x s) (slotFault x) .active) := postsOnly_of_still rfl rfl rfl rfl
  have posted : startCause (slotFault x) (failSpread x s) =
      postNotice (.condition (slotFault x)) (setCondState (failSpread x s) (slotFault x) .active) := by
    have unmasked : setNames (failSpread x s).control.noticeMask (slotFault x) = false := by rw [spread.mask]; exact hm
    unfold startCause
    simp [absent, unmasked]
  have few := donePlaces_length (s.card x).chainCmd
  have fewStop := donePlaces_length s.clip.stopCmd
  have told : postsOnly [cardPlace x] (startCause (slotFault x) (failSpread x s)) (failTold x s) := by
    rw [failTold, if_neg hf]
    exact postsOnly_cardState x _ _ _ _ _ _
  rw [posted] at told
  have before := spread.trans set
  exact ⟨noticePends_after (noticePends_postNotice before _) told (by simp [noticePlace, cardPlace, Notice.kind]),
    _, condState_setCondState_same _ _ _, noticeWritten_after (noticeWritten_postNotice before (by simp [lossPlaces]; omega) _) told⟩

/-! ### The slot after a removal (R49, R50) -/

/-- What a removal keeps of a card that it goes on to clear (R49, R50). -/
theorem removalBegun_kept (x : CardSlot) (s : State) :
    ((removalBegun x s).card x).state = (if (s.card x).state = .active then .failed else (s.card x).state) ∧
    ((removalBegun x s).card x).au = (s.card x).au ∧ ((removalBegun x s).card x).pageIndex = (s.card x).pageIndex ∧
    ((removalBegun x s).card x).detect = (s.card x).detect ∧ ((removalBegun x s).card x).request = (s.card x).request ∧
    ((removalBegun x s).card x).wakeCmd = (s.card x).wakeCmd ∧
    ((removalBegun x s).card x).chainCmd = (if (s.card x).state = .active then none else (s.card x).chainCmd) := by
  unfold removalBegun
  split
  · rename_i active
    have link := linkOnly_failCard x s
    rw [linkOnly] at link
    rw [link]
    exact ⟨rfl, rfl, rfl, rfl, rfl, rfl, rfl⟩
  · exact ⟨rfl, rfl, rfl, rfl, rfl, rfl, rfl⟩

/-- The places of the notices that go ahead of a removal's own (R49, R50). -/
def begunPlaces (x : CardSlot) (s : State) : List (Byte × Byte) := if (s.card x).state = .active then failPlaces x s else []

theorem begunPlaces_length (x : CardSlot) (s : State) : (begunPlaces x s).length ≤ 9 := by
  have few := donePlaces_length (s.card x).chainCmd
  have fewStop := donePlaces_length s.clip.stopCmd
  unfold begunPlaces
  split
  · simp [failPlaces, lossPlaces]
    omega
  · simp

theorem postsOnly_removalBegun (x : CardSlot) (s : State) : postsOnly (begunPlaces x s) s (removalBegun x s) := by
  unfold begunPlaces removalBegun
  split
  · exact postsOnly_failCard x s
  · exact postsOnly_refl s

/-- A change of state posts its notice last (R51). -/
theorem setCardState_posts {new : CardState} (hne : (s.card x).state ≠ new) : ∃ u, postsOnly [] s u ∧
    setCardState x new s = postNotice (.cardState x new (s.card x).state (s.card x).au (s.card x).pageIndex
      (if (s.card x).state = .probing then some ((s.card x).auCount, (s.card x).serial) else none)) u := by
  have set : postsOnly [] s (s.setCard x { s.card x with state := new }) := postsOnly_setCard x _ s
  refine ⟨if (s.card x).state = .failed then endCause (slotFault x) (s.setCard x { s.card x with state := new })
    else s.setCard x { s.card x with state := new }, ?_, ?_⟩
  · split
    · exact set.trans (postsOnly_endCause _ _)
    · exact set
  · unfold setCardState
    dsimp only
    rw [if_neg hne]

theorem mem_donePlaces {q : Option Kept} {b : Byte} : (2, b) ∈ donePlaces q ↔ ∃ k, q = some k ∧ k.code = b := by
  cases q <;> simp [donePlaces, eq_comm]

theorem donePlaces_other {q : Option Kept} {p : Byte × Byte} (h : p.1 ≠ 2) : p ∉ donePlaces q := by
  intro mem
  obtain ⟨k, -, rfl⟩ := List.mem_map.mp mem
  exact h rfl

/-- The removal's own notice (R49, R51). -/
theorem noticePosted_removeCard (h : (s.card x).state ≠ .absent) : noticePosted (.cardState x .absent
    (if (s.card x).state = .active then .failed else (s.card x).state) (s.card x).au (s.card x).pageIndex
    (if (s.card x).state = .probing then some (0, 0) else none)) s (removeCard x s) := by
  obtain ⟨state, au, page, -⟩ := removalBegun_kept x s
  have before := (postsOnly_removalBegun x s).trans (postsOnly_removalTold x (removalBegun x s))
  have card := removalTold_card x (removalBegun x s)
  have gone : ((removalTold x (removalBegun x s)).card x).state ≠ .absent := by
    rw [card]
    show ((removalBegun x s).card x).state ≠ _
    rw [state]
    split
    · decide
    · exact h
  obtain ⟨u, still, posts⟩ := setCardState_posts gone
  have begun := begunPlaces_length x s
  have c1 := donePlaces_length ((removalBegun x s).card x).chainCmd
  have c2 := donePlaces_length (requestCmd ((removalBegun x s).card x))
  have c3 := donePlaces_length ((removalBegun x s).card x).wakeCmd
  have posted := noticePosted_postNotice (before.trans still) (by simp [waitPlaces]; omega)
    (standsAlone_cardState x .absent (if (s.card x).state = .active then .failed else (s.card x).state) (s.card x).au (s.card x).pageIndex
      (if (s.card x).state = .probing then some (0, 0) else none))
  rw [removeCard_eq, posts, card]
  have shown : (removedCard ((removalBegun x s).card x)).state = (if (s.card x).state = .active then .failed else (s.card x).state) := state
  have number : (removedCard ((removalBegun x s).card x)).au = (s.card x).au := au
  have index : (removedCard ((removalBegun x s).card x)).pageIndex = (s.card x).pageIndex := page
  dsimp only
  rw [shown, number, index]
  have probed : (if (if (s.card x).state = .active then CardState.failed else (s.card x).state) = .probing then
      some ((removedCard ((removalBegun x s).card x)).auCount, (removedCard ((removalBegun x s).card x)).serial) else none) =
      (if (s.card x).state = .probing then some (0, 0) else none) := by
    by_cases active : (s.card x).state = .active
    · simp [active]
    · simp only [active, if_false]
      rfl
  rw [probed]
  exact posted

theorem requestCmd_code (h : waitsCoded x s) : ∀ k, requestCmd (s.card x) = some k → k.code = 0x19 ∨ k.code = 0x1B := by
  obtain ⟨-, sleepCode, ejectCode, -, -⟩ := h
  intro k hk
  unfold requestCmd at hk
  split at hk
  · rename_i j hj
    cases hk
    exact .inl (sleepCode _ hj)
  · rename_i j hj
    cases hk
    exact .inr (ejectCode _ hj)
  · cases hk

/-- The commands that waited on a removed card have been reported (R49, R192). -/
theorem donePosted_removeCard (coded : waitsCoded x s) {k : Kept} (hk : (s.card x).chainCmd = some k ∨ requestCmd (s.card x) = some k ∨
    (s.card x).wakeCmd = some k) : donePosted k .aborted s (removeCard x s) := by
  obtain ⟨-, -, -, -, request, wake, chain⟩ := removalBegun_kept x s
  have requestSame : requestCmd ((removalBegun x s).card x) = requestCmd (s.card x) := by rw [requestCmd, requestCmd, request]
  have requestCode := requestCmd_code coded
  obtain ⟨chainCode, -, -, wakeCode, stopCode⟩ := coded
  have noWake {b : Byte} (hb : b ≠ 0x1A) : (2, b) ∉ donePlaces (s.card x).wakeCmd := fun e => by
    obtain ⟨q, hq, rfl⟩ := mem_donePlaces.mp e
    exact hb (wakeCode q hq)
  have noRequest {b : Byte} (h9 : b ≠ 0x19) (hB : b ≠ 0x1B) : (2, b) ∉ donePlaces (requestCmd (s.card x)) := fun e => by
    obtain ⟨q, hq, rfl⟩ := mem_donePlaces.mp e
    exact (requestCode q hq).elim h9 hB
  have noStop {b : Byte} (hb : b ≠ 0x12) : (2, b) ∉ donePlaces s.clip.stopCmd := fun e => by
    obtain ⟨q, hq, rfl⟩ := mem_donePlaces.mp e
    exact hb (stopCode q hq)
  have begun := begunPlaces_length x s
  have last (v : State) : postsOnly [cardPlace x] v (setCardState x .absent v) := postsOnly_setCardState x .absent v
  have told {q : Kept} (h : donePosted q .aborted s (removalTold x (removalBegun x s))) : donePosted q .aborted s (removeCard x s) :=
    donePosted_after h (last _) (by simp [cardPlace])
  rcases hk with hk | hk | hk
  · have code := chainCode k hk
    have notRequest := noRequest (b := k.code) (by rw [code]; decide) (by rw [code]; decide)
    have notWake := noWake (b := k.code) (by rw [code]; decide)
    by_cases active : (s.card x).state = .active
    · have failed : donePosted k .aborted s (failBegun x s) := by
        rw [failBegun, dropChain]
        dsimp only
        rw [dropFetch_card, State.setCard_card, hk]
        exact donePosted_commandEnds (((postsOnly_setCard x _ s).trans ((postsOnly_abandonReads _ _).trans (postsOnly_setCard x _ _))).trans
          (postsOnly_setCard x _ _)) (by simp)
      have spread : postsOnly (lossPlaces s.clip) (failBegun x s) (failSpread x s) := by
        have lost := postsOnly_cardLost x (failBegun x s)
        rw [failBegun_clip] at lost
        rwa [failSpread, if_pos active]
      have begunFail : removalBegun x s = failCard x s := if_pos active
      have free : (2, k.code) ∉ lossPlaces s.clip := by
        have notStop := noStop (b := k.code) (by rw [code]; decide)
        simp only [lossPlaces, List.mem_append, not_or]
        exact ⟨⟨by simp [gapPlace, noticePlace, Notice.kind], notStop⟩, by simp [cardPlace]⟩
      have onward := donePosted_after (donePosted_after (donePosted_after failed spread free) (postsOnly_failTold x s)
        (by simp [noticePlace, Notice.kind, cardPlace])) (postsOnly_continueErase x _) (by simp)
      refine told (donePosted_after (t := removalBegun x s) (by rw [begunFail]; exact onward) (postsOnly_removalTold x _) ?_)
      rw [waitPlaces, chain, if_pos active, requestSame, wake]
      simp only [List.mem_append, not_or]
      exact ⟨⟨by simp [donePlaces], notRequest⟩, notWake⟩
    · refine told (donePosted_removalTold (postsOnly_removalBegun x s) (by omega) (.inl ⟨by rw [chain, if_neg active, hk], ?_⟩))
      rw [requestSame, wake, List.mem_append, not_or]
      exact ⟨notRequest, notWake⟩
  · refine told (donePosted_removalTold (postsOnly_removalBegun x s) (by omega) (.inr (.inl ⟨by rw [requestSame, hk], ?_⟩)))
    rw [wake]
    rcases requestCode k hk with code | code
    · exact noWake (by rw [code]; decide)
    · exact noWake (by rw [code]; decide)
  · exact told (donePosted_removalTold (postsOnly_removalBegun x s) (by omega) (.inr (.inr (by rw [wake, hk]))))

/-- The slot after a removal (R49). -/
theorem removeCard_card (x : CardSlot) (s : State) : (removeCard x s).card x =
    { removedCard ((removalBegun x s).card x) with fetchReq := none, walk := .none, state := .absent } := by
  rw [removeCard_eq, setCardState_card_same, removalTold_card]

theorem inFlight_removeCard (x : CardSlot) (s : State) : ∀ i ∈ (removeCard x s).path.inFlight, i.dest ≠ .card x := by
  rw [removeCard_eq, setCardState_path]
  exact inFlight_removalTold x _

theorem removeCard_clip (x : CardSlot) (s : State) : (removeCard x s).clip = (removalBegun x s).clip := by
  have told : (removalTold x (removalBegun x s)).clip = (slotCleared x (removalBegun x s)).clip :=
    changesOnly_reports_control x _ .clip (by simp)
  rw [removeCard_eq, setCardState_clip, told, slotCleared, dropFetch_clip, State.setCard_clip]

theorem changesOnly_removalDone (x : CardSlot) (w : State) : changesOnly [.card x, .control, .path] w (setCardState x .absent (removalTold x w)) :=
  changesOnly_trans (changesOnly_trans (changesOnly_mono (by simp) (changesOnly_slotCleared x w))
    (changesOnly_mono (by simp) (changesOnly_reports_control x w))) (changesOnly_mono (by simp) (changesOnly_setCardState x .absent _))

theorem postsOnly_removalDone (x : CardSlot) (w : State) :
    postsOnly (waitPlaces (w.card x) ++ [cardPlace x]) w (setCardState x .absent (removalTold x w)) :=
  (postsOnly_removalTold x w).trans (postsOnly_setCardState x .absent _)

/-- A FAILED card that is removed ends its cause (R49, R50). -/
theorem causePresent_removeCard (h : (s.card x).state = .failed) : causePresent (removeCard x s) (slotFault x) = false := by
  have begun : removalBegun x s = s := if_neg (by rw [h]; decide)
  have failed : ((removalTold x s).card x).state = .failed := by rw [removalTold_card]; exact h
  rw [removeCard_eq, begun, causePresent, condState_congr (conditions_setCardState_failed failed (by decide))]
  exact causePresent_endCause _ _

end

/-- What an ACTIVE card leaves at its removal (R40, R42, R49, R50). -/
theorem activeCardRemoved_removeCard {x : CardSlot} {s : State} (active : (s.card x).state = .active) :
    activeCardRemoved x s (removeCard x s) := by
  have begun : removalBegun x s = failCard x s := if_pos active
  have done : postsOnly (waitPlaces ((failCard x s).card x) ++ [cardPlace x]) (failCard x s) (removeCard x s) := by
    have gone := postsOnly_removalDone x (failCard x s)
    rwa [removeCard_eq, begun]
  have after : postsOnly (waitPlaces ((failCard x s).card x) ++ [cardPlace x]) (failTold x s) (removeCard x s) :=
    (postsOnly_continueErase x (failTold x s)).trans done
  have notFailed : (s.card x).state ≠ .failed := by rw [active]; decide
  have spread : failSpread x s = cardLost x (failBegun x s) := if_pos active
  have clip : (removeCard x s).clip = (cardLost x (failBegun x s)).clip := by rw [removeCard_clip, begun, failCard_clip, spread]
  have few := donePlaces_length (s.card x).chainCmd
  have fewStop := donePlaces_length s.clip.stopCmd
  have told : failTold x s = postNotice (.cardState x .failed .active (s.card x).au (s.card x).pageIndex none)
      (startCause (slotFault x) (failSpread x s)) := by
    rw [failTold, if_neg notFailed, failNotice, active, if_neg (by decide)]
  refine ⟨?_, ?_, fun absent unmasked => ?_, fun p hp => ?_, fun making target pending => ?_⟩
  · have written := noticePosted_postNotice ((postsOnly_failSpread x s).trans (postsOnly_startCause (slotFault x) _))
      (by simp [lossPlaces]; omega) (standsAlone_cardState x .failed .active (s.card x).au (s.card x).pageIndex none)
    rw [← told] at written
    exact noticeWritten_after written.2 after
  · have failed : ((removalTold x (failCard x s)).card x).state = .failed := by
      rw [removalTold_card]
      show ((failCard x s).card x).state = _
      rw [linkOnly_failCard x s]
      rfl
    have same : condState (removalTold x (failCard x s)) (slotFault x) = condState (startCause (slotFault x) (failSpread x s)) (slotFault x) :=
      condState_congr ((conditions_removalTold x _).trans (conditions_failCard x s)) _
    rw [removeCard_eq, begun, condState_congr (conditions_setCardState_failed failed (by decide)), condState_endCause_same, same,
      condState_startCause, condState_failSpread]
    split <;> rfl
  · obtain ⟨pends, u, hu, written⟩ := faultNotice_failTold absent unmasked notFailed
    refine ⟨noticePends_after pends after ?_, u, hu, noticeWritten_after written after⟩
    have kind : (noticePlace (.condition (slotFault x))).1 ≠ 2 := by
      show (1 : Byte) ≠ 2
      decide
    simp only [List.mem_append, not_or, waitPlaces]
    exact ⟨⟨⟨donePlaces_other kind, donePlaces_other kind⟩, donePlaces_other kind⟩, by simp [noticePlace, cardPlace, Notice.kind]⟩
  · rw [clip] at hp
    exact waitsFor_cardLost hp
  · rw [clip, ← failBegun_clip x s]
    refine clip_cardLost (by rwa [failBegun_clip]) ?_
    rw [failBegun_clip]
    exact ⟨target, pending⟩

/-- The part once DETECT of slot `x` has become inactive (R46, R49). -/
def pulled (x : CardSlot) (s : State) : State := s.setCard x { s.card x with detect := false, settling := false }

theorem pulled_card (x : CardSlot) (s : State) : (pulled x s).card x = { s.card x with detect := false, settling := false } :=
  State.setCard_card _ _ _

/-- Nothing that a notice of a removal reads is in the slot's inputs (R193, R194). -/
theorem noticePosted_pulled {x : CardSlot} {n : Notice} {s t : State} (alone : standsAlone n) (h : noticePosted n (pulled x s) t) :
    noticePosted n s t := by
  obtain ⟨pends, written⟩ := h
  have path : (pulled x s).path = s.path := State.setCard_path _ _ _
  have view : (pulled x s).view = s.view := State.setCard_view _ _ _
  have places : unread (pulled x s) = unread s := by rw [unread, unread, path, pulled, State.setCard_control]
  have page : ∀ k b, ringWrites (pulled x s) k b = ringWrites s k b := fun k b => by
    rw [ringWrites, ringWrites, controlPage_congr (congrArg Path.memSize path)]
  have line : ∀ p k, p.notice = n → p.folds = 0 → noticeLine (pulled x s) p k = noticeLine s p k := fun p k hn hf => by
    simp only [noticeLine, hn, hf, alone (pulled x s) s]
  rw [noticePends, places, view] at pends
  rw [noticeWritten, places, view] at written
  refine ⟨pends, fun room => (written room).imp fun k all => ?_⟩
  rwa [page, line _ k rfl rfl] at all

theorem donePosted_pulled {x : CardSlot} {k : Kept} {r : Result} {s t : State} (h : donePosted k r (pulled x s) t) : donePosted k r s t :=
  fun notify => noticePosted_pulled (standsAlone_cmdDone k r) (h notify)

theorem activeCardRemoved_pulled {x : CardSlot} {s t : State} (h : activeCardRemoved x (pulled x s) t) : activeCardRemoved x s t := by
  cases x <;> exact h

theorem waitsCoded_pulled {x : CardSlot} {s : State} (h : waitsCoded x s) : waitsCoded x (pulled x s) := by
  cases x <;> exact h

theorem exec_cardRemoval {x : CardSlot} {s : State} (hd : (s.card x).detect = true) : exec (.cardRemoval x) s =
    .next (if (s.card x).state = .absent then pulled x s else removeCard x (pulled x s)) := by
  show execCardRemoval x s = _
  rw [execCardRemoval, hd]
  rfl

theorem changesOnly_removeCard (x : CardSlot) (s : State) :
    changesOnly [.card .a, .card .b, .control, .path, .clip, .tap] s (removeCard x s) := by
  have begun : changesOnly [.card .a, .card .b, .control, .path, .clip, .tap] s (removalBegun x s) := by
    unfold removalBegun
    split
    · exact changesOnly_mono (by simp) (changesOnly_failCard x s)
    · exact changesOnly_refl _ s
  exact changesOnly_trans begun (changesOnly_mono (by cases x <;> simp) (changesOnly_removalDone x _))

/-- Settles O52: the rows of a slot by its phase, and a removal through FAILED for an ACTIVE card. -/
theorem insertedCardsAreProbed : Obligations.InsertedCardsAreProbed := by
  unfold Obligations.InsertedCardsAreProbed
  intro x s hrun c
  have high : s.path.resetLow = false := hrun
  have acted {f : State → State} {v : State} (h : f s = v) : act f s = .next v := (act_of_running f hrun).trans (congrArg _ h)
  refine ⟨fun hd => ?_, fun hd => ?_, fun h => ?_, fun hs hd ha => ?_, fun hph => ⟨?_, ?_, fun r p => ?_⟩, fun hph => ⟨?_, ?_, fun p => ?_, ?_⟩,
    fun hd => ?_, fun hd ha => ?_, fun hd ha => ?_⟩
  · exact congrArg _ (if_pos hd)
  · refine congrArg _ ((if_neg (by rw [hd]; decide)).trans ?_)
    rw [high]
    rfl
  · refine acted (if_neg fun both => ?_)
    rcases h with h | h
    · exact Bool.false_ne_true (h.symm.trans both.1)
    · exact Bool.false_ne_true (h.symm.trans both.2)
  · refine acted ((if_pos ⟨hs, hd⟩).trans ?_)
    exact setCardState_setCard (old := .absent) ha (by decide) (by decide)
  · exact acted ((congrArg (s.setCard x) (if_neg hph)).trans (setCard_self x s))
  · exact acted (if_neg hph)
  · exact acted (if_neg hph)
  · exact acted ((congrArg (s.setCard x) (if_pos hph)).trans rfl)
  · exact ⟨_, acted (if_pos hph), cardFailed_failCard x s⟩
  · refine acted ((if_pos hph).trans ?_)
    rfl
  · intro rest p n own serial hrest hst known now
    subst hrest
    have shown := identResponse_identified (p := p) hph (identityOf_response n own serial)
    refine ⟨fun hn => acted (shown.trans ?_), fun hn => ⟨_, acted (shown.trans (if_pos hn)), ?_⟩⟩
    · have enough : ¬n.toNat < 16 := Nat.not_lt.mpr hn
      refine (if_neg enough).trans ?_
      dsimp only [now]
      split
      · exact setCardState_setCard (old := .probing) hst (by decide) (by decide)
      · exact setCardState_setCard (old := .probing) hst (by decide) (by decide)
    · have failed := cardFailed_failCard x (s.setCard x (knownCard n (own.getLsbD 0) p serial (s.card x)))
      have link := linkOnly_failCard x (s.setCard x (knownCard n (own.getLsbD 0) p serial (s.card x)))
      rw [cardFailed, State.setCard_card] at failed
      rw [State.setCard_card, linkOnly] at link
      exact ⟨failed, by rw [link]; rfl, by rw [link]; rfl⟩
  · show execCardRemoval x s = _
    rw [execCardRemoval, hd]
    rfl
  · rw [exec_cardRemoval hd, if_pos ha]
    rfl
  · have card := pulled_card x s
    have gone := removeCard_card x (pulled x s)
    obtain ⟨-, -, -, detect, -⟩ := removalBegun_kept x (pulled x s)
    rw [card] at detect
    have notice := noticePosted_removeCard (x := x) (s := pulled x s) (by rw [card]; exact ha)
    rw [card] at notice
    refine ⟨_, (exec_cardRemoval hd).trans (congrArg _ (if_neg ha)), by rw [gone], by rw [gone]; exact detect, by rw [gone]; rfl,
      by rw [gone]; rfl, by rw [gone]; rfl, by rw [gone]; rfl, by rw [gone]; rfl, by rw [gone]; rfl, by rw [gone]; rfl, by rw [gone]; rfl,
      by rw [gone]; rfl, by rw [gone], inFlight_removeCard x _, fun failed => ?_, fun inactive => ?_, fun active => ?_, ?_,
      fun coded k hk => ?_, ?_⟩
    · exact causePresent_removeCard (by rw [card]; exact failed)
    · have begun : removalBegun x (pulled x s) = pulled x s := if_neg (by rw [card]; exact inactive)
      rw [removeCard_eq, begun]
      exact changesOnly_trans (changesOnly_mono (by simp) (changesOnly_setCard x _ s)) (changesOnly_removalDone x _)
    · exact activeCardRemoved_pulled (activeCardRemoved_removeCard (by rw [card]; exact active))
    · exact noticePosted_pulled (standsAlone_cardState _ _ _ _ _ _) notice
    · refine donePosted_pulled (donePosted_removeCard (waitsCoded_pulled coded) ?_)
      rw [card]
      rcases hk with hk | hk | hk | hk
      · exact .inl hk
      · exact .inr (.inl (requestCmd_sleep hk))
      · exact .inr (.inl (requestCmd_eject hk))
      · exact .inr (.inr hk)
    · exact changesOnly_trans (changesOnly_mono (by cases x <;> simp) (changesOnly_setCard x _ s)) (changesOnly_removeCard x _)

end Sys2Proof.Machine

namespace Sys2Proof.Machine

section

variable {x : CardSlot} {s b t u : State} {l : List (Byte × Byte)}

/-! ### The rows that take a card from the clip (R26, R40, R49, R50, R56) -/

/-- A row in which card `x` is lost: `b` is the part as the clip takes notice of the loss, and `t` the part after the row, `st` the state of
the card. -/
structure lossRow (x : CardSlot) (s : State) (row : Instr) (st : CardState) (b t : State) : Prop where
  runs : exec row s = .next t
  begun : changesOnly [.card x, .path, .control] s b
  inactive : (b.card x).state ≠ .active
  before : ∃ l : List (Byte × Byte), l.length ≤ 1 ∧ postsOnly l s b
  ended : changesOnly [.card x, .path, .control] (cardLost x b) t
  state : (t.card x).state = st
  causes : ∀ c, c ≠ slotFault x → condState t c = condState (cardLost x b) c
  after : ∃ l, postsOnly l (cardLost x b) t ∧ (3, 0) ∉ l ∧ cardPlace (otherSlot x) ∉ l ∧
    ((row = .cardRemoval x → waitsCoded x s) → ∀ k, s.clip.stopCmd = some k → (2, k.code) ∉ l)

theorem cardPlace_other (x : CardSlot) : cardPlace (otherSlot x) ≠ cardPlace x := by cases x <;> decide

theorem condState_failCard_other {c : Condition} (h : c ≠ slotFault x) (s : State) : condState (failCard x s) c = condState (failSpread x s) c := by
  rw [condState_congr (conditions_failCard x s), condState_startCause_other h]

theorem lossRow_timeout (hrun : running s) (hph : (s.card x).phase = .pageWrite) (active : (s.card x).state = .active) :
    lossRow x s (.cardPageWriteTimeout x) .failed (failBegun x s) (failCard x s) where
  runs := (act_of_running _ hrun).trans (congrArg _ (by rw [pageWriteTimeout, hph]; rfl))
  begun := changesOnly_failBegun x s
  inactive := failBegun_inactive x s
  before := ⟨_, donePlaces_length _, postsOnly_failBegun x s⟩
  ended := by
    rw [← failSpread_active active]
    exact changesOnly_trans (changesOnly_mono (by simp) (changesOnly_failTold x s)) (changesOnly_mono (by simp) (changesOnly_continueErase x _))
  state := by rw [linkOnly_failCard x s]; rfl
  causes c h := by rw [condState_failCard_other h, failSpread_active active]
  after := by
    rw [← failSpread_active active]
    refine ⟨_, (postsOnly_failTold x s).trans (postsOnly_continueErase x _), ?_, ?_, fun _ k _ => ?_⟩
    · simp [noticePlace, cardPlace, Notice.kind]
    · have other := cardPlace_other x
      simp [noticePlace, Notice.kind, other]
      simp [cardPlace]
    · simp [noticePlace, cardPlace, Notice.kind]

theorem condState_setCardState_other {c : Condition} (h : c ≠ slotFault x) (new : CardState) (s : State) :
    condState (setCardState x new s) c = condState s c := by
  unfold setCardState
  dsimp only
  split
  · rfl
  · rw [condState_congr (conditions_postNotice _ _)]
    split
    · exact (condState_endCause_other _ h).trans (condState_congr (by rw [State.setCard_control]) c)
    · exact condState_congr (by rw [State.setCard_control]) c

/-- No CMD_DONE of a command that waits on a card takes the place of that of a REC_STOP (R195, R206). -/
theorem stopPlace_waitPlaces {c : Card} (hc : c.chainCmd = none) (hq : ∀ k, requestCmd c = some k → k.code = 0x19 ∨ k.code = 0x1B)
    (hw : ∀ k, c.wakeCmd = some k → k.code = 0x1A) : (2, 0x12) ∉ waitPlaces c := by
  simp only [waitPlaces, List.mem_append, not_or]
  refine ⟨⟨by simp [hc, donePlaces], fun e => ?_⟩, fun e => ?_⟩
  · obtain ⟨k, hk, code⟩ := mem_donePlaces.mp e
    rcases hq k hk with h | h <;> exact absurd (h.symm.trans code) (by decide)
  · obtain ⟨k, hk, code⟩ := mem_donePlaces.mp e
    exact absurd ((hw k hk).symm.trans code) (by decide)

theorem lossRow_removal (hd : (s.card x).detect = true) (active : (s.card x).state = .active) :
    lossRow x s (.cardRemoval x) .absent (failBegun x (pulled x s)) (removeCard x (pulled x s)) := by
  have card := pulled_card x s
  have activeP : ((pulled x s).card x).state = .active := by rw [card]; exact active
  have begun : removalBegun x (pulled x s) = failCard x (pulled x s) := if_pos activeP
  have spread := failSpread_active activeP
  obtain ⟨-, -, -, -, request, wake, chain⟩ := removalBegun_kept x (pulled x s)
  rw [begun, card] at request wake chain
  refine ⟨(exec_cardRemoval hd).trans (congrArg _ (if_neg (by rw [active]; decide))), ?_, failBegun_inactive x _, ?_, ?_, ?_, fun c h => ?_, ?_⟩
  · exact changesOnly_trans (changesOnly_mono (by simp) (changesOnly_setCard x _ s)) (changesOnly_failBegun x _)
  · exact ⟨_, donePlaces_length _, (postsOnly_setCard x _ s).trans (postsOnly_failBegun x (pulled x s))⟩
  · rw [← spread, removeCard_eq, begun]
    exact changesOnly_trans (changesOnly_trans (changesOnly_mono (by simp) (changesOnly_failTold x _))
      (changesOnly_mono (by simp) (changesOnly_continueErase x _))) (changesOnly_mono (by simp) (changesOnly_removalDone x _))
  · rw [removeCard_card]
  · rw [removeCard_eq, begun, condState_setCardState_other h, condState_congr (conditions_removalTold x _), condState_failCard_other h, spread]
  · have done := postsOnly_removalDone x (failCard x (pulled x s))
    have other := cardPlace_other x
    have places {p : Byte × Byte} (hp : p ∉ waitPlaces ((failCard x (pulled x s)).card x)) (hc : p ≠ cardPlace x)
        (hf : p ≠ noticePlace (.condition (slotFault x))) :
        p ∉ [noticePlace (.condition (slotFault x)), cardPlace x] ++ ([] ++ (waitPlaces ((failCard x (pulled x s)).card x) ++ [cardPlace x])) := by
      simp [hp, hc, hf]
    rw [← spread, removeCard_eq, begun]
    refine ⟨_, (postsOnly_failTold x _).trans ((postsOnly_continueErase x _).trans done), places ?_ ?_ ?_, places ?_ other ?_,
      fun coded k hk => places ?_ ?_ ?_⟩
    · simp only [waitPlaces, List.mem_append, not_or]
      exact ⟨⟨donePlaces_other (by decide), donePlaces_other (by decide)⟩, donePlaces_other (by decide)⟩
    · simp [cardPlace]
    · simp [noticePlace, Notice.kind]
    · have kind : (cardPlace (otherSlot x)).1 ≠ 2 := by
        show (4 : Byte) ≠ 2
        decide
      simp only [waitPlaces, List.mem_append, not_or]
      exact ⟨⟨donePlaces_other kind, donePlaces_other kind⟩, donePlaces_other kind⟩
    · simp [noticePlace, Notice.kind, cardPlace]
    · have codes := coded rfl
      have stopCode := codes.2.2.2.2 k hk
      have wakeCode := codes.2.2.2.1
      have requestSame : requestCmd ((failCard x (pulled x s)).card x) = requestCmd (s.card x) := by rw [requestCmd, requestCmd, request]
      rw [stopCode]
      refine stopPlace_waitPlaces (by rw [chain]; exact if_pos active) (fun q hq => requestCmd_code codes q (requestSame ▸ hq)) fun q hq => ?_
      exact wakeCode q (wake ▸ hq)
    · simp [cardPlace]
    · simp [noticePlace, Notice.kind]

/-- The part with card `x` FULL, before the clip takes notice (R56). -/
def fullBegun (x : CardSlot) (s : State) : State :=
  continueErase x (s.setCard x { s.card x with state := .full, rolloverWait := false })

theorem changesOnly_fullBegun (x : CardSlot) (s : State) : changesOnly [.card x] s (fullBegun x s) :=
  changesOnly_trans (changesOnly_setCard x _ s) (changesOnly_continueErase x _)

theorem fullBegun_state (x : CardSlot) (s : State) : ((fullBegun x s).card x).state = .full := by
  have link := linkOnly_continueErase x (s.setCard x { s.card x with state := .full, rolloverWait := false })
  rw [State.setCard_card, linkOnly] at link
  rw [fullBegun, link]

theorem rollover_full (he : (s.card x).lookahead = .theEnd) (active : (s.card x).state = .active) (armed : s.clip.state = .armed) :
    rollover x s = postNotice (.cardState x .full .active (s.card x).au (s.card x).pageIndex none) (cardLost x (fullBegun x s)) := by
  have clip : (fullBegun x s).clip = s.clip := changesOnly_fullBegun x s .clip (by simp)
  have full : cardFull x (fullBegun x s) = cardLost x (fullBegun x s) := by
    unfold cardFull
    rw [clip, armed]
    exact if_pos (by simp)
  unfold rollover
  dsimp only
  rw [he]
  dsimp only
  rw [if_pos active, ← full, fullBegun]
  dsimp only
  rw [he]

theorem lossRow_full (hrun : running s) (hw : (s.card x).rolloverWait = true) (he : (s.card x).lookahead = .theEnd)
    (active : (s.card x).state = .active) (armed : s.clip.state = .armed) : lossRow x s (.cardRollover x) .full (fullBegun x s)
      (postNotice (.cardState x .full .active (s.card x).au (s.card x).pageIndex none) (cardLost x (fullBegun x s))) where
  runs := by
    have due : rolloverDue (s.card x) = true := by simp [rolloverDue, hw, he, active]
    exact (act_of_running _ hrun).trans (congrArg _ ((if_pos due).trans (rollover_full he active armed)))
  begun := changesOnly_mono (by simp) (changesOnly_fullBegun x s)
  inactive := by rw [fullBegun_state]; decide
  before := ⟨[], by simp, (postsOnly_setCard x _ s).trans (postsOnly_continueErase x _)⟩
  ended := changesOnly_mono (by simp) (changesOnly_postNotice (fun _ => rfl) _)
  state := by
    rw [postNotice_cardState_card, cardLost_card (by rw [fullBegun_state]; decide), fullBegun_state]
  causes c _ := condState_congr (conditions_postNotice _ _) c
  after := ⟨_, postsOnly_cardState x _ _ _ _ _ _, by simp [cardPlace], by simpa using cardPlace_other x, fun _ k _ => by simp [cardPlace]⟩

/-! ### What the clip and the other card are after such a row -/

theorem lossRow.clip {row : Instr} {st : CardState} (h : lossRow x s row st b t) : t.clip = (cardLost x b).clip := h.ended .clip (by simp)

theorem lossRow.clipBefore {row : Instr} {st : CardState} (h : lossRow x s row st b t) : b.clip = s.clip := h.begun .clip (by simp)

theorem lossRow.other {row : Instr} {st : CardState} (h : lossRow x s row st b t) :
    t.card (otherSlot x) = (cardLost x b).card (otherSlot x) := h.ended (.card (otherSlot x)) (by simpa using otherSlot_ne x)

theorem lossRow.otherBefore {row : Instr} {st : CardState} (h : lossRow x s row st b t) : b.card (otherSlot x) = s.card (otherSlot x) :=
  h.begun (.card (otherSlot x)) (by simpa using otherSlot_ne x)

/-- The other card has been made ACTIVE with its notice, and the clip is `c` (R26, R40). -/
theorem lossRow.goesOn {row : Instr} {st : CardState} {c d : Clip} (h : lossRow x s row st b t)
    (ready : (s.card (otherSlot x)).state = .ready) (lost : cardLost x b = (makeActive (otherSlot x) (b.setClip d)).setClip c) :
    t.clip = c ∧ t.card (otherSlot x) = { s.card (otherSlot x) with state := .active } ∧
      noticePosted (.cardState (otherSlot x) .active .ready (s.card (otherSlot x)).au (s.card (otherSlot x)).pageIndex none) s t ∧
      changesOnly [.clip, .card .a, .card .b, .control, .path] s t := by
  have card : (b.setClip d).card (otherSlot x) = s.card (otherSlot x) := (State.setClip_card _ _ _).trans h.otherBefore
  obtain ⟨l, few, before⟩ := h.before
  obtain ⟨m, after, -, apart, -⟩ := h.after
  obtain ⟨u, still, posts⟩ := setCardState_posts (x := otherSlot x) (s := b.setClip d) (new := .active) (by rw [card, ready]; decide)
  rw [card, ready, if_neg (by decide)] at posts
  refine ⟨by rw [h.clip, lost]; rfl, ?_, ?_, ?_⟩
  · rw [h.other, lost, State.setClip_card, makeActive, setCardState_card_same, card]
  · have posted := noticePosted_postNotice ((before.trans (postsOnly_setClip d b)).trans still) (by simp; omega)
      (standsAlone_cardState (otherSlot x) .active .ready (s.card (otherSlot x)).au (s.card (otherSlot x)).pageIndex none)
    rw [← posts] at posted
    have kept := noticePosted_after posted (postsOnly_setClip c _) (by simp)
    rw [← makeActive, ← lost] at kept
    exact noticePosted_after kept after apart
  · have mid : changesOnly [.clip, .card .a, .card .b, .control, .path] b (cardLost x b) := by
      rw [lost]
      refine changesOnly_trans (changesOnly_trans (changesOnly_mono (by simp) (changesOnly_setClip d b))
        (changesOnly_mono ?_ (changesOnly_setCardState (otherSlot x) .active _))) (changesOnly_mono (by simp) (changesOnly_setClip c _))
      cases x <;> simp [otherSlot]
    exact changesOnly_trans (changesOnly_trans (changesOnly_mono (by cases x <;> simp) h.begun) mid)
      (changesOnly_mono (by cases x <;> simp) h.ended)

/-- The recording has been given up with no page left (R41). -/
theorem lossRow.aborted {row : Instr} {st : CardState} (h : lossRow x s row st b t) {c : Clip} (lost : cardLost x b = abortClip (b.setClip c))
    (hm : c.mode = s.clip.mode) (hn : c.clipNumber = s.clip.clipNumber) (hs : c.chunkSeq = s.clip.chunkSeq) (hk : c.stopCmd = s.clip.stopCmd)
    (noPages : c.pages = [] ∨ (s.card (otherSlot x)).state ≠ .active) :
    (t.clip.state = .idle ∧ t.clip.pages = [] ∧ causePresent t .mediaExhausted = true ∧
      noticePosted (.recState .aborted .idle none s.clip.mode s.clip.clipNumber s.clip.chunkSeq) s t ∧
      ((row = .cardRemoval x → waitsCoded x s) → abortReported s t)) ∧
    t.clip.index = [] ∧ t.clip.run = .none ∧ t.clip.readReq = none ∧ causePresent t .streamOverrun = false := by
  obtain ⟨l, few, before⟩ := h.before
  obtain ⟨m, after, apart, -, coded⟩ := h.after
  obtain ⟨state, index, run, read⟩ := abortClip_state (b.setClip c)
  obtain ⟨media, stream⟩ := causePresent_abortClip (b.setClip c)
  obtain ⟨streamOther, -, mediaOther⟩ := slotFault_other x
  have clip : t.clip = (abortClip (b.setClip c)).clip := by rw [h.clip, lost]
  have pages : (abortClip (b.setClip c)).clip.pages = [] := by
    refine abortClip_noPages (noPages.imp id fun away y => ?_)
    rw [State.setClip_card]
    by_cases e : y = x
    · rw [e]
      exact h.inactive
    · have other : y = otherSlot x := by revert e; cases x <;> cases y <;> simp [otherSlot]
      rw [other, h.otherBefore]
      exact away
  have reported : abortReported s (abortClip (b.setClip c)) :=
    abortReported_abortClip (before.trans (postsOnly_setClip c b)) (by simp; omega) hm hn hs hk
  obtain ⟨rec, done⟩ := reported
  rw [← lost] at rec done
  have recAfter := noticePosted_after rec after apart
  rw [clip, causePresent, causePresent, h.causes _ mediaOther.symm, h.causes _ streamOther.symm, lost]
  exact ⟨⟨state, pages, media, recAfter, fun codes => ⟨recAfter, fun k e => donePosted_after (done k e) after (coded codes k e)⟩⟩,
    index, run, read, stream⟩

/-! ### The clip at the loss of a card, mode by mode (R26, R40, R42) -/

/-- Pages that a card still awaits or that another card still awaits stay in the queue (R37). -/
def pagesLeft (l : List PageRecord) : List PageRecord := l.filter fun p => !pageDone p

/-- The clip behind a head page on the other card (R40). -/
def clipRetargeted (x : CardSlot) (c : Clip) : Clip := { c with
  pages := pagesLeft (insertHead x (otherSlot x) (headPage c (otherSlot x)) (c.pages.map (markFailed x)))
  chunkSeq := c.chunkSeq + 2, targets := CardSet.only (otherSlot x), relayHead := false }

theorem cardLost_relay (h : b.clip.state = .recording ∨ b.clip.state = .stopping) (on : stillOn x b.clip)
    (hm : b.clip.mode = .relayAB ∨ b.clip.mode = .relayBA) (ready : available (b.card (otherSlot x)) = true) :
    cardLost x b = (makeActive (otherSlot x) (lossMarked x b)).setClip (clipRetargeted x b.clip) := by
  have clip : (makeActive (otherSlot x) (lossMarked x b)).clip = (lossMarked x b).clip := setCardState_clip _ _ _
  have readyMarked : available ((lossMarked x b).card (otherSlot x)) = true := by rwa [lossMarked, State.setClip_card]
  have mode : isRelay (lossMarked x b).clip.mode = true := isRelay_iff.mpr hm
  rw [cardLost_on h on, clipLosesCard, if_pos mode, if_pos readyMarked]
  unfold dropDone retarget
  dsimp only
  rw [clip]
  rfl

theorem cardLost_mirror (h : b.clip.state = .recording ∨ b.clip.state = .stopping) (on : stillOn x b.clip) (hm : b.clip.mode = .mirror)
    (both : b.clip.targets = ⟨true, true⟩) : cardLost x b = b.setClip { b.clip with
      pages := pagesLeft (b.clip.pages.map (markFailed x)), targets := CardSet.only (otherSlot x) } := by
  have mode : (lossMarked x b).clip.mode = .mirror := hm
  have left : (lossMarked x b).clip.targets.remove x = CardSet.only (otherSlot x) := by
    show b.clip.targets.remove x = _
    rw [both]
    cases x <;> rfl
  rw [cardLost_on h on, clipLosesCard, mode, left]
  cases x <;> rfl

/-- The clip is given up: it is in a SINGLE mode or in MIRROR on this card alone, or RELAY has no other card (R41, R42). -/
def endsWith (x : CardSlot) (s : State) : Prop :=
  ((s.clip.mode = .singleA ∨ s.clip.mode = .singleB) ∧ s.clip.targets = CardSet.only x) ∨
    ((s.clip.mode = .relayAB ∨ s.clip.mode = .relayBA) ∧ available (s.card (otherSlot x)) = false) ∨
    (s.clip.mode = .mirror ∧ s.clip.targets = CardSet.only x)

theorem cardLost_gone (h : b.clip.state = .recording ∨ b.clip.state = .stopping) (on : stillOn x b.clip) (ends : endsWith x b) :
    ∃ targets, cardLost x b = abortClip (b.setClip { (lossMarked x b).clip with targets := targets }) := by
  have alone {m : Mode} (hm : b.clip.mode = m) (hr : isRelay m = false) (only : b.clip.targets = CardSet.only x) :
      ∃ targets, cardLost x b = abortClip (b.setClip { (lossMarked x b).clip with targets := targets }) := by
    have mode : (lossMarked x b).clip.mode = m := hm
    have left : ((lossMarked x b).clip.targets.remove x).isEmpty = true := by
      show (b.clip.targets.remove x).isEmpty = true
      rw [only]
      cases x <;> rfl
    refine ⟨(lossMarked x b).clip.targets.remove x, ?_⟩
    rw [cardLost_on h on, clipLosesCard, mode, if_neg (by simp [hr])]
    dsimp only
    rw [if_pos left]
    rfl
  rcases ends with ⟨hm | hm, only⟩ | ⟨hm, away⟩ | ⟨hm, only⟩
  · exact alone hm rfl only
  · exact alone hm rfl only
  · have mode : isRelay (lossMarked x b).clip.mode = true := isRelay_iff.mpr hm
    have awayMarked : ¬available ((lossMarked x b).card (otherSlot x)) = true := by rw [lossMarked, State.setClip_card, away]; decide
    refine ⟨b.clip.targets, ?_⟩
    rw [cardLost_on h on, clipLosesCard, if_pos mode, if_neg awayMarked]
    rfl
  · exact alone hm rfl only

theorem cardLost_aside (h : b.clip.state = .idle ∨ ((b.clip.state = .recording ∨ b.clip.state = .stopping) ∧ b.clip.targets.has x = false)) :
    (cardLost x b).clip = { b.clip with pages := pagesLeft (b.clip.pages.map (markFailed x)) } := by
  rcases h with h | ⟨h, off⟩
  · rw [cardLost_idle h, releaseDrained_clip]
    rfl
  · rw [cardLost_off h fun on => by simp [on.1] at off]
    rfl

theorem cardLost_armedMirror (h : b.clip.state = .armed) (hm : b.clip.mode = .mirror) (both : b.clip.targets = ⟨true, true⟩) :
    cardLost x b = b.setClip { (lossMarked x b).clip with targets := CardSet.only (otherSlot x) } := by
  have mode : (lossMarked x b).clip.mode = .mirror := hm
  have targets : (lossMarked x b).clip.targets = ⟨true, true⟩ := both
  rw [cardLost_armed h, armedLosesCard, mode, targets]
  cases x <;> rfl

theorem cardLost_armedRelay (h : b.clip.state = .armed) (on : b.clip.targets.has x = true)
    (hm : b.clip.mode = .relayAB ∨ b.clip.mode = .relayBA) (ready : available (b.card (otherSlot x)) = true) : cardLost x b =
    (makeActive (otherSlot x) (lossMarked x b)).setClip { (lossMarked x b).clip with targets := CardSet.only (otherSlot x) } := by
  have clip : (makeActive (otherSlot x) (lossMarked x b)).clip = (lossMarked x b).clip := setCardState_clip _ _ _
  have readyMarked : available ((lossMarked x b).card (otherSlot x)) = true := by rwa [lossMarked, State.setClip_card]
  have target : (lossMarked x b).clip.targets.has x = true := on
  have mode : isRelay (lossMarked x b).clip.mode = true := isRelay_iff.mpr hm
  have notMirror : ¬((lossMarked x b).clip.mode = .mirror ∧ ((lossMarked x b).clip.targets.remove x).isEmpty = false) := fun both => by
    rw [both.1] at mode
    cases mode
  rw [cardLost_armed h, armedLosesCard, if_pos target, if_neg notMirror, if_pos ⟨mode, readyMarked⟩]
  dsimp only
  rw [clip]

theorem cardLost_armedGone (h : b.clip.state = .armed) (on : b.clip.targets.has x = true)
    (ends : (b.clip.mode = .singleA ∨ b.clip.mode = .singleB) ∨
      ((b.clip.mode = .relayAB ∨ b.clip.mode = .relayBA) ∧ available (b.card (otherSlot x)) = false) ∨
      (b.clip.mode = .mirror ∧ b.clip.targets = CardSet.only x)) : cardLost x b = abortClip (b.setClip (lossMarked x b).clip) := by
  have target : (lossMarked x b).clip.targets.has x = true := on
  have notMirror : ¬((lossMarked x b).clip.mode = .mirror ∧ ((lossMarked x b).clip.targets.remove x).isEmpty = false) := by
    rintro ⟨mode, left⟩
    have mode : b.clip.mode = .mirror := mode
    have left : (b.clip.targets.remove x).isEmpty = false := left
    rcases ends with (e | e) | ⟨e | e, -⟩ | ⟨-, only⟩
    · simp [mode] at e
    · simp [mode] at e
    · simp [mode] at e
    · simp [mode] at e
    · rw [only] at left
      revert left
      cases x <;> decide
  have notRelay : ¬(isRelay (lossMarked x b).clip.mode = true ∧ available ((lossMarked x b).card (otherSlot x)) = true) := by
    rintro ⟨mode, ready⟩
    have mode : b.clip.mode = .relayAB ∨ b.clip.mode = .relayBA := isRelay_iff.mp mode
    rw [lossMarked, State.setClip_card] at ready
    rcases ends with (e | e) | ⟨-, away⟩ | ⟨e, -⟩
    · simp [e] at mode
    · simp [e] at mode
    · rw [away] at ready
      cases ready
    · simp [e] at mode
  rw [cardLost_armed h, armedLosesCard, if_pos target, if_neg notMirror, if_neg notRelay]
  rfl

/-! ### The pages behind a head page (R31, R40) -/

/-- A page that a lost card has not written, moved to the other card (R40). -/
theorem retargetPage_markFailed (x : CardSlot) (p : PageRecord) : retargetPage x (otherSlot x) (markFailed x p) =
    if p.target.has x && !p.written.has x then
      { p with target := CardSet.only (otherSlot x), failed := (p.failed.add x).remove (otherSlot x) }
    else markFailed x p := by
  have twice : (p.failed.add x).add x = p.failed.add x := by cases x <;> rfl
  unfold retargetPage markFailed
  dsimp only
  rw [twice]

theorem insertHead_ahead {other : CardSlot} {head : Nat → PageRecord} {pre post : List PageRecord} {p : PageRecord}
    (hp : p.target.has x = true ∧ p.written.has x = false) (hpre : ∀ q ∈ pre, q.target.has x = false ∨ q.written.has x = true) :
    insertHead x other head (pre ++ p :: post) = pre ++ head p.firstHeader :: (p :: post).map (retargetPage x other) := by
  induction pre with
  | nil => exact if_pos (by simp [hp.1, hp.2])
  | cons q rest ih =>
    have first := hpre q List.mem_cons_self
    have skipped : ¬(q.target.has x && !q.written.has x) = true := by rcases first with e | e <;> simp [e]
    rw [List.cons_append, insertHead, if_neg skipped, ih fun r hr => hpre r (List.mem_cons_of_mem _ hr)]
    rfl

theorem insertHead_last {other : CardSlot} {head : Nat → PageRecord} {l : List PageRecord}
    (h : ∀ q ∈ l, q.target.has x = false ∨ q.written.has x = true) : insertHead x other head l = l ++ [head 4096] := by
  induction l with
  | nil => rfl
  | cons q rest ih =>
    have first := h q List.mem_cons_self
    have skipped : ¬(q.target.has x && !q.written.has x) = true := by rcases first with e | e <;> simp [e]
    rw [insertHead, if_neg skipped, ih fun r hr => h r (List.mem_cons_of_mem _ hr)]
    rfl

end

end Sys2Proof.Machine

namespace Sys2Proof.Machine

section

variable {x : CardSlot} {s : State} {m : Nat}

/-! ### The fill of an open page at the end of a card (R36, R38) -/

theorem openPage_congr {c d : Clip} (h : d.pages = c.pages) : openPage d = openPage c := by rw [openPage, openPage, h]

/-- One run fills the page that is left (R36). -/
theorem layPage_fills {r : LayRun} {p : PageRecord} (hr : r.bytes.length = m) (hm : p.content.length + m = 4096) (h0 : 0 < m) :
    layPage [r] p = ({ p with
      content := p.content ++ r.bytes
      firstHeader := if r.header ∧ p.firstHeader = 4096 then p.content.length else p.firstHeader }, []) := by
  have free : Config.pageBytes - p.content.length = m := by rw [Config.pageBytes]; omega
  unfold layPage
  dsimp only
  rw [free, if_neg (Nat.pos_iff_ne_zero.mp h0), if_pos hr.le, List.take_of_length_le hr.le]
  rfl

/-- The open page `p` once its last `m` bytes have been filled and it is sealed (R36). -/
def filledPage (c : Clip) (m : Nat) (p : PageRecord) : PageRecord := { p with
  sealed := true
  firstHeader := if 32 ≤ m ∧ p.firstHeader = 4096 then p.content.length else p.firstHeader
  content := p.content ++ (if m < 32 then List.replicate m (0 : Byte)
    else chunkHeader c 5 0 (m - 32) 0 0 0 ++ List.replicate (m - 32) (0 : Byte)) }

/-- The assembler with the rest of its open page filled (R36, R38). -/
def pageFilled (m : Nat) (p : PageRecord) (c : Clip) : Clip := { c with
  chunkSeq := if m < 32 then c.chunkSeq else c.chunkSeq + 1, pages := c.pages.dropLast ++ [filledPage c m p] }

theorem lay_single {c : Clip} {r : LayRun} {p : PageRecord} (ho : openPage c = some p) (hl : c.lay = [r]) (hr : r.bytes.length = m)
    (hm : p.content.length + m = 4096) (h0 : 0 < m) : lay c = { c with
      lay := []
      pages := c.pages.dropLast ++ [{ p with
        sealed := true, content := p.content ++ r.bytes
        firstHeader := if r.header ∧ p.firstHeader = 4096 then p.content.length else p.firstHeader }] } := by
  have full : (p.content ++ r.bytes).length = 4096 := by rw [List.length_append, hr, hm]
  rw [lay_open ho, hl, layPage_fills hr hm h0, sealIfFull_eq]
  simp [hr, hm]

theorem lay_fill {c : Clip} {p : PageRecord} (ho : openPage c = some p) (hl : c.lay = []) (hm : p.content.length + m = 4096) (h0 : 0 < m) :
    lay (fill m c) = pageFilled m p c := by
  have pages : openPage (fill m c) = some p := (openPage_congr (fill_pages m c)).trans ho
  have some_bytes : m ≠ 0 := Nat.pos_iff_ne_zero.mp h0
  by_cases short : m < 32
  · have zeros : fill m c = { c with lay := [⟨false, List.replicate m 0⟩] } := by
      rw [fill, if_neg some_bytes, if_pos short, hl]
      rfl
    rw [zeros] at pages ⊢
    rw [lay_single pages rfl (List.length_replicate ..) hm h0, pageFilled, filledPage, if_pos short, if_pos short,
      if_neg (fun h => Bool.false_ne_true h.1), if_neg (fun h => absurd h.1 (Nat.not_le.mpr short))]
    simp [hl]
  · have pad : fill m c = { c with
        lay := [⟨true, chunkHeader c 5 0 (m - 32) 0 0 0 ++ List.replicate (m - 32) 0⟩], chunkSeq := c.chunkSeq + 1 } := by
      rw [fill, if_neg some_bytes, if_neg short, addChunk, hl]
      rfl
    have length : (chunkHeader c 5 0 (m - 32) 0 0 0 ++ List.replicate (m - 32) (0 : Byte)).length = m := by
      rw [List.length_append, chunkHeader_length, List.length_replicate]
      omega
    rw [pad] at pages ⊢
    rw [lay_single pages rfl length hm h0, pageFilled, filledPage, if_neg short, if_neg short]
    simp [hl, Nat.not_lt.mp short]

theorem openPage_pageFilled (m : Nat) (p : PageRecord) (c : Clip) : openPage (pageFilled m p c) = none := by
  rw [openPage, pageFilled, List.getLast?_concat]
  rfl

theorem openFree_open {c : Clip} {p : PageRecord} (ho : openPage c = some p) (hm : p.content.length + m = 4096) : openFree c = m := by
  rw [openFree, ho]
  show 4096 - p.content.length = m
  omega

theorem fillOpenPage_open {c : Clip} {p : PageRecord} (ho : openPage c = some p) (hl : c.lay = []) (hm : p.content.length + m = 4096)
    (h0 : 0 < m) : fillOpenPage c = pageFilled m p c := by
  unfold fillOpenPage
  rw [ho]
  dsimp only
  rw [openFree_open ho hm, lay_fill ho hl hm h0]

/-! ### The relay at a boundary with an open page (R36, R38, R39) -/

/-- A chunk that does not fit the room left leads to a fill of that room (R38). -/
theorem fitChunk_fills {p : ChunkPick} (hr : clipRoom s = ⟨some m, false⟩) (hshort : m < chunkSize s p)
    (hcut : ∀ l, p = .video l → m ≤ 32) : fitChunk p s = fillRoom m s := by
  have short : fits ⟨some m, false⟩ (chunkSize s p) = false := fits_short hshort
  unfold fitChunk
  rw [hr]
  dsimp only
  rw [short]
  cases p with
  | video l => simp [Nat.not_lt.mpr (hcut l rfl)]
  | index => rfl
  | audio i => rfl

theorem fillRoom_relay {p : PageRecord} (hm : s.clip.mode = .relayAB ∨ s.clip.mode = .relayBA) (ht : s.clip.targets = CardSet.only x)
    (ha : available (s.card (otherSlot x)) = true) (hl : s.clip.lay = []) (ho : openPage s.clip = some p)
    (hp : p.content.length + m = 4096) (h0 : 0 < m) : fillRoom m s = relayed x s := by
  have filled : lay (fill m s.clip) = pageFilled m p s.clip := lay_fill ho hl hp h0
  have whole : fillOpenPage (pageFilled m p s.clip) = pageFilled m p s.clip := fillOpenPage_none (openPage_pageFilled m p s.clip)
  have relay := clipCardEnd_relay (s := s.setClip (pageFilled m p s.clip)) hm ht (by rwa [State.setClip_card])
  unfold fillRoom
  dsimp only
  rw [filled, State.setClip_clip]
  have empty : (pageFilled m p s.clip).lay.isEmpty = true := by rw [pageFilled, hl]; rfl
  rw [if_pos empty, relay, relayed, relayed, State.setClip_clip, whole, fillOpenPage_open ho hl hp h0]
  rfl

/-- The room is used up by the pages of the queue, an open one among them (R38, R59). -/
theorem cardRoom_usedUp {p : PageRecord} (hl : (s.card x).lookahead = .theEnd) (ho : openPage s.clip = some p)
    (hp : p.content.length + m = 4096)
    (hq : 4096 * (1024 - (s.card x).pageIndex) + m ≤ 4096 * (s.clip.pages.filter fun q => waitsFor q x).length) :
    cardRoom s x = ⟨some 0, false⟩ := by
  have free := openFree_open ho hp
  unfold cardRoom
  rw [hl, free]
  dsimp only [Config.auPages, Config.pageBytes]
  congr 2
  omega

theorem cardRoom_full (hl : (s.card x).lookahead = .theEnd) (ho : openPage s.clip = none)
    (hq : 1024 - (s.card x).pageIndex ≤ (s.clip.pages.filter fun q => waitsFor q x).length) : cardRoom s x = ⟨some 0, false⟩ := by
  have free : openFree s.clip = 0 := by rw [openFree, ho]; rfl
  unfold cardRoom
  rw [hl, free]
  dsimp only [Config.auPages, Config.pageBytes]
  congr 2
  omega

/-- One mirror card at its end leaves the clip on the other (R42). -/
theorem clipCardEnd_mirror (hm : s.clip.mode = .mirror) (both : s.clip.targets = ⟨true, true⟩) (ho : openPage s.clip = none)
    (hx : cardRoom s x = ⟨some 0, false⟩) (hy : cardRoom s (otherSlot x) = ⟨none, false⟩) : clipRoom s = ⟨some 0, false⟩ ∧
      clipCardEnd s = s.setClip { s.clip with targets := CardSet.only (otherSlot x) } := by
  have left : (⟨s.clip.targets.a && !atEnd (cardRoom s .a), s.clip.targets.b && !atEnd (cardRoom s .b)⟩ : CardSet) =
      CardSet.only (otherSlot x) := by
    rw [both]
    cases x with
    | a => rw [hx, show cardRoom s .b = ⟨none, false⟩ from hy]; rfl
    | b => rw [hx, show cardRoom s .a = ⟨none, false⟩ from hy]; rfl
  constructor
  · rw [clipRoom, both]
    cases x with
    | a => rw [hx, show cardRoom s .b = ⟨none, false⟩ from hy]; rfl
    | b => rw [hx, show cardRoom s .a = ⟨none, false⟩ from hy]; rfl
  · unfold clipCardEnd
    rw [hm, if_neg (by decide), if_pos rfl]
    dsimp only
    rw [left, fillOpenPage_none ho, if_neg (by cases x <;> decide)]

/-! ### The pages of a clip that moves to the other card (R31, R40) -/

/-- The bytes of a head page, written out (R31, R40, R209). -/
theorem headPage_eq (c : Clip) (other : CardSlot) (first : Nat) : headPage c other first =
    ⟨c.clipNumber, CardSet.only other, ⟨false, false⟩, ⟨false, false⟩, 0, true,
      chunkHeader { c with targets := CardSet.only other } 1 4 32 0 c.startFrame first ++ littleEndian 2 c.clipNumber.toNat
        ++ [c.mode.code, (CardSet.only other).role] ++ littleEndian 4 c.startFrame.toNat ++ littleEndian 8 c.preRecord
        ++ littleEndian 2 first ++ List.replicate 14 (0 : Byte)
        ++ chunkHeader { c with targets := CardSet.only other, chunkSeq := c.chunkSeq + 1 } 5 0 4000 0 0 0
        ++ List.replicate 4000 (0 : Byte)⟩ := by
  rw [headPage, clipHead, toLength_eq (by simp)]
  simp only [List.append_assoc, List.length_append, littleEndian_length]
  rfl

/-- A page as the move to the other card leaves it (R40). -/
def movedPage (x : CardSlot) (p : PageRecord) : PageRecord := if p.target.has x && !p.written.has x then
  { p with target := CardSet.only (otherSlot x), failed := (p.failed.add x).remove (otherSlot x) } else markFailed x p

theorem clipRetargeted_ahead {c : Clip} {pre post : List PageRecord} {p : PageRecord} (hpages : c.pages = pre ++ p :: post)
    (hp : p.target.has x = true ∧ p.written.has x = false) (hpre : ∀ q ∈ pre, q.target.has x = false ∨ q.written.has x = true) :
    clipRetargeted x c = { c with
      pages := pagesLeft (pre.map (markFailed x) ++ headPage c (otherSlot x) p.firstHeader :: (p :: post).map (movedPage x))
      chunkSeq := c.chunkSeq + 2, targets := CardSet.only (otherSlot x), relayHead := false } := by
  have pages : insertHead x (otherSlot x) (headPage c (otherSlot x)) (c.pages.map (markFailed x)) =
      pre.map (markFailed x) ++ headPage c (otherSlot x) p.firstHeader :: (p :: post).map (movedPage x) := by
    have ahead : ∀ q ∈ pre.map (markFailed x), q.target.has x = false ∨ q.written.has x = true := fun q hq => by
      obtain ⟨r, hr, rfl⟩ := List.mem_map.mp hq
      exact hpre r hr
    rw [hpages, List.map_append, List.map_cons, insertHead_ahead (p := markFailed x p) hp ahead, ← List.map_cons, List.map_map]
    refine congrArg (fun l => pre.map (markFailed x) ++ headPage c (otherSlot x) p.firstHeader :: l) (List.map_congr_left fun q _ => ?_)
    exact retargetPage_markFailed x q
  rw [clipRetargeted, pages]

theorem clipRetargeted_last {c : Clip} (h : ∀ q ∈ c.pages, q.target.has x = false ∨ q.written.has x = true) :
    clipRetargeted x c = { c with
      pages := pagesLeft (c.pages.map (markFailed x) ++ [headPage c (otherSlot x) 4096])
      chunkSeq := c.chunkSeq + 2, targets := CardSet.only (otherSlot x), relayHead := false } := by
  rw [clipRetargeted, insertHead_last fun q hq => ?_]
  obtain ⟨r, hr, rfl⟩ := List.mem_map.mp hq
  exact h r hr

/-! ### The boundary clause (R36, R38, R39) -/

/-- The chunk due does not fit a room of `m` bytes, and cannot be cut to it (R33, R34, R38). -/
def unfitChunk (s : State) (m : Nat) : Prop :=
  (255 ≤ s.clip.index.length ∧ m < 32 + 16 * s.clip.index.length) ∨
  (s.clip.index.length < 255 ∧ m < 32 + 12288 ∧ s.clip.audioPart = true ∧ ∃ n i, s.clip.shipPtr = some n ∧
    doneBlock s.audio n = some i ∧
    (s.clip.state = .stopping → ∃ b, s.clip.audioStop = .upTo b ∧ blockPlace s.audio n ≤ blockPlace s.audio b)) ∨
  (s.clip.index.length < 255 ∧ m ≤ 32 ∧ noAudioDue s ∧ ∃ b l, backlogIs s b ∧ videoLengthIs s l ∧ 0 < l ∧
    (s.clip.chunkMin ≤ b ∨ s.clip.state = .stopping))

theorem chooseChunk_unfit (h : unfitChunk s m) :
    ∃ p, chooseChunk s = some p ∧ m < chunkSize s p ∧ ∀ l, p = .video l → m ≤ 32 := by
  rcases h with ⟨full, short⟩ | ⟨places, short, part, n, i, hn, hi, hstop⟩ | ⟨places, short, none_due, b, l, hb, hl, h0, due⟩
  · exact ⟨_, chooseChunk_index full, short, fun _ e => by cases e⟩
  · exact ⟨_, chooseChunk_audio places (audioDue_eq_some part hn hi hstop), short, fun _ e => by cases e⟩
  · have video : videoDue s = true := videoDue_of (videoLengthIs_eq hl) h0 (backlogIs_iff.mp hb ▸ due)
    refine ⟨.video l, ?_, ?_, fun _ _ => short⟩
    · rw [chooseChunk_video places (audioDue_eq_none none_due), if_pos video, ← videoLengthIs_eq hl]
    · show m < 32 + l
      omega

/-- At a boundary a RELAY clip whose card is used up fills its open page and moves on (R36, R38, R39). -/
theorem chunkChoice_relays {p : PageRecord} (hb : chunkBoundary s) (ho : openPage s.clip = some p) (hp : p.content.length + m = 4096)
    (h0 : 0 < m) (hm : s.clip.mode = .relayAB ∨ s.clip.mode = .relayBA) (ha : available (s.card (otherSlot x)) = true)
    (room : (roomIs s x m ∧ unfitChunk s m) ∨ (s.clip.targets = CardSet.only x ∧ (s.card x).lookahead = .theEnd ∧
      4096 * (1024 - (s.card x).pageIndex) + m ≤ 4096 * (s.clip.pages.filter fun q => waitsFor q x).length)) :
    chunkChoice s = relayed x s := by
  have boundary := (atBoundary_iff hb.1).mpr hb
  obtain ⟨-, -, -, -, hlay, -⟩ := hb
  rcases room with ⟨limited, unfit⟩ | ⟨targets, theEnd, used⟩
  · obtain ⟨pick, choice, short, cut⟩ := chooseChunk_unfit unfit
    have bytes := clipRoom_roomIs limited
    have inside : atEnd (clipRoom s) = false := by
      rw [bytes]
      simp [atEnd]
      omega
    rw [chunkChoice_some boundary inside choice, fitChunk_fills bytes short cut, fillRoom_relay hm limited.1 ha hlay ho hp h0]
  · have ends : atEnd (clipRoom s) = true := by
      rw [clipRoom_only targets, cardRoom_usedUp theEnd ho hp used]
      rfl
    rw [chunkChoice_end boundary ends, clipCardEnd_relay hm targets ha]

end

/-- Settles O60: a lost card's row is a `lossRow`, and each mode's outcome is its branch of the loss; at a boundary the page is filled. -/
theorem lostAndEndedCardsMoveOrEndTheClip : Obligations.LostAndEndedCardsMoveOrEndTheClip := by
  unfold Obligations.LostAndEndedCardsMoveOrEndTheClip
  intro x s hrun other otherReady relay single onward goesOn removed aborted
  have same : other = otherSlot x := otherSlot_eq x
  clear_value other
  subst same
  refine ⟨?_, ?_, fun hb => ?_⟩
  · intro row st hrow active lost moved head left moves
    obtain ⟨b, t, h⟩ : ∃ b t, lossRow x s row st b t := by
      rcases hrow with ⟨rfl, rfl, hph⟩ | ⟨rfl, rfl, hd⟩
      · exact ⟨_, _, lossRow_timeout hrun hph active⟩
      · exact ⟨_, _, lossRow_removal hd active⟩
    have clip := h.clipBefore
    have otherCard := h.otherBefore
    refine ⟨fun making target pending => ?_, fun aside => ?_⟩
    · have making' : b.clip.state = .recording ∨ b.clip.state = .stopping := by rwa [clip]
      have on : stillOn x b.clip := by rw [clip]; exact ⟨target, pending⟩
      refine ⟨fun hm ready => ?_, fun hm both => ?_, fun ends away => ?_⟩
      · have taken := cardLost_relay making' on (by rwa [clip]) (by rw [otherCard]; exact available_iff.mpr ready)
        obtain ⟨clipAfter, card, notice, only⟩ := h.goesOn ready.1 (d := (lossMarked x b).clip) taken
        rw [clip] at clipAfter
        refine ⟨fun pre p post hpages htarget hwritten hpre => ⟨t, h.runs, h.state, only, ⟨card, notice⟩, ?_⟩,
          fun hall => ⟨t, h.runs, h.state, only, ⟨card, notice⟩, ?_⟩⟩
        · rw [clipAfter, clipRetargeted_ahead hpages ⟨htarget, hwritten⟩ hpre, headPage_eq]
          rfl
        · rw [clipAfter, clipRetargeted_last hall, headPage_eq]
          rfl
      · have taken := cardLost_mirror making' on (by rwa [clip]) (by rwa [clip])
        refine ⟨t, h.runs, h.state, ?_, ?_⟩
        · have mid : changesOnly [.clip, .card x, .control, .path] b (cardLost x b) := by
            rw [taken]
            exact changesOnly_mono (by simp) (changesOnly_setClip _ b)
          exact changesOnly_trans (changesOnly_trans (changesOnly_mono (by simp) h.begun) mid) (changesOnly_mono (by simp) h.ended)
        · rw [h.clip, taken, State.setClip_clip, clip]
          rfl
      · have gone : endsWith x b := by
          rw [endsWith, clip, otherCard, ← Bool.not_eq_true, available_iff]
          exact ends
        obtain ⟨targets, taken⟩ := cardLost_gone making' on gone
        obtain ⟨given_up, index, run, read, stream⟩ := h.aborted taken (by rw [← clip]; rfl) (by rw [← clip]; rfl) (by rw [← clip]; rfl)
          (by rw [← clip]; rfl) (.inr away)
        exact ⟨t, h.runs, h.state, given_up, index, run, read, stream⟩
    · have taken := cardLost_aside (x := x) (b := b) (by rwa [clip])
      refine ⟨t, h.runs, h.state, ?_⟩
      rw [h.clip, taken, clip]
      rfl
  · intro row st hrow armed target noPages active
    obtain ⟨b, t, h⟩ : ∃ b t, lossRow x s row st b t := by
      rcases hrow with ⟨rfl, rfl, hw, he⟩ | ⟨rfl, rfl, hd⟩
      · exact ⟨_, _, lossRow_full hrun hw he active armed⟩
      · exact ⟨_, _, lossRow_removal hd active⟩
    have clip := h.clipBefore
    have otherCard := h.otherBefore
    have armed' : b.clip.state = .armed := by rwa [clip]
    have target' : b.clip.targets.has x = true := by rwa [clip]
    have marked : (lossMarked x b).clip = s.clip := by
      show { b.clip with pages := b.clip.pages.map (markFailed x) } = s.clip
      rw [clip, noPages, List.map_nil, ← noPages]
    refine ⟨fun hm both => ?_, fun hm ready => ?_, fun ends => ?_⟩
    · have taken := cardLost_armedMirror (x := x) armed' (by rwa [clip]) (by rwa [clip])
      refine ⟨t, h.runs, h.state, ?_, ?_⟩
      · rw [h.clip, taken, State.setClip_clip, marked]
      · rw [h.other, taken, State.setClip_card, otherCard]
    · have taken := cardLost_armedRelay armed' target' (by rwa [clip]) (by rw [otherCard]; exact available_iff.mpr ready)
      obtain ⟨clipAfter, card, notice, -⟩ := h.goesOn ready.1 (d := (lossMarked x b).clip) taken
      refine ⟨t, h.runs, h.state, ?_, card, notice⟩
      rw [clipAfter, marked]
    · have taken := cardLost_armedGone armed' target' (by
        rw [clip, otherCard, ← Bool.not_eq_true, available_iff]
        exact ends)
      obtain ⟨given_up, -⟩ := h.aborted taken (congrArg Clip.mode marked) (congrArg Clip.clipNumber marked)
        (congrArg Clip.chunkSeq marked) (congrArg Clip.stopCmd marked) (.inl (by rw [marked]; exact noPages))
      exact ⟨t, h.runs, h.state, given_up⟩
  · intro queued unfit
    refine ⟨fun m p ho hp h0 hm ready room => ?_, fun hm both ho hend used hother => ?_⟩
    · have relays := chunkChoice_relays hb ho hp h0 hm (available_iff.mpr ready) room
      refine ⟨_, (act_of_running _ hrun).trans (congrArg _ relays), changesOnly_relayed x s, relayed_card x s, ?_⟩
      obtain ⟨-, -, -, -, hlay, -⟩ := hb
      rw [relayed, State.setClip_clip, fillOpenPage_open ho hlay hp h0]
      rfl
    · have full := cardRoom_full hend ho used
      obtain ⟨bytes, ends⟩ := clipCardEnd_mirror hm both ho full (cardRoom_unbounded hother)
      have atBound := (atBoundary_iff hrun).mpr hb
      exact (act_of_running _ hrun).trans (congrArg _ ((chunkChoice_end atBound (by rw [bytes]; rfl)).trans ends))

end Sys2Proof.Machine

namespace Sys2Proof.Machine

section

variable {x : CardSlot} {s t u : State}

/-! ### Rows, notices and commands next to a change of a card (R85, R192, R193) -/

theorem act_eq_next {f : State → State} (h : running s) (e : f s = t) : act f s = .next t := (act_of_running f h).trans (congrArg _ e)

/-- A notice that is not an AU_BAD neither reads nor changes a card (R51, R207). -/
def sparesCards (n : Notice) : Prop := ∀ y au, n ≠ .auBad y au

theorem clearNoticeCount_setCard {n : Notice} (h : sparesCards n) (c : Card) (s : State) :
    clearNoticeCount n (s.setCard x c) = (clearNoticeCount n s).setCard x c := by
  cases n with
  | auBad y au => exact absurd rfl (h y au)
  | tapEvent src => cases src <;> cases x <;> rfl
  | _ => rfl

theorem ringBytes_setCard {n : Notice} (h : sparesCards n) (frame : Word32) (folds : Nat) (c : Card) (s : State) :
    ringBytes ⟨n, frame, folds⟩ (s.setCard x c) = ringBytes ⟨n, frame, folds⟩ s := by
  cases n with
  | auBad y au => exact absurd rfl (h y au)
  | tapEvent src => cases src <;> cases x <;> rfl
  | _ => cases x <;> rfl

theorem writeRing_setCard (bytes : List Byte) (c : Card) (s : State) : writeRing bytes (s.setCard x c) = (writeRing bytes s).setCard x c := by
  simp only [writeRing, presentWrite, producerWordWrite, controlPage, State.setCard_control, State.setCard_path]
  generalize s.path.memSize - Config.pageBytes = m
  cases x <;> rfl

theorem postNotice_setCard {n : Notice} (h : sparesCards n) (c : Card) (s : State) :
    postNotice n (s.setCard x c) = (postNotice n s).setCard x c := by
  have same : unread (s.setCard x c) = unread s := by rw [unread, unread, State.setCard_control, State.setCard_path]
  rcases Nat.lt_or_ge (unread s) 64 with hr | hr
  · rw [postNotice_of_room hr, postNotice_of_room (same.trans_lt hr), State.setCard_view, ringBytes_setCard h, writeRing_setCard,
      clearNoticeCount_setCard h]
  · rw [postNotice_of_full hr, postNotice_of_full (hr.trans_eq same.symm)]
    cases x <;> rfl

theorem commandEnds_setCard (cmd : Option Kept) (r : Result) (c : Card) (s : State) :
    reports (commandEnds cmd r) (s.setCard x c) = (reports (commandEnds cmd r) s).setCard x c := by
  cases cmd with
  | none => rfl
  | some k =>
    rw [reports_commandEnds, reports_commandEnds, commandDone, commandDone]
    split
    · exact postNotice_setCard (fun _ _ => Notice.noConfusion) c s
    · rfl

theorem commandEnds_setPath (cmd : Option Kept) (r : Result) {p : Path} (h : pathAlike p s.path) :
    reports (commandEnds cmd r) (s.setPath p) = (reports (commandEnds cmd r) s).setPath p := by
  cases cmd with
  | none => rfl
  | some k =>
    rw [reports_commandEnds, reports_commandEnds, commandDone, commandDone]
    split
    · exact postNotice_setPath _ h
    · rfl

theorem reports_commandEnds_card (cmd : Option Kept) (r : Result) (y : CardSlot) (s : State) :
    (reports (commandEnds cmd r) s).card y = s.card y := changesOnly_commandEnds cmd r s (.card y) (by simp)

theorem setCardState_same (h : (s.card x).state = new) : setCardState x new s = s := if_pos h

/-! ### What the walk finds at a descriptor (R53, R54) -/

section

variable {c : Card} {d : Descriptor}

theorem walkFinds_au (hk : d.kind.toNat = 1) (hv : d.value.toNat < c.auCount.toNat) :
    walkFinds c d = (some (BitVec.ofNat 16 d.value.toNat, eraseOfFlags d.flags), none, false) := by
  unfold walkFinds
  rw [hk]
  exact if_pos hv

theorem walkFinds_link (hk : d.kind.toNat = 2) (hr : c.linkRun < 3) :
    walkFinds c d = (none, some (d.value.toNat / 32 * 32), false) := by
  unfold walkFinds
  rw [hk]
  exact if_neg (by simp only [Config.linkRunCap]; omega)

theorem walkFinds_end (hk : d.kind.toNat = 3) : walkFinds c d = (none, none, false) := by
  unfold walkFinds
  rw [hk]
  rfl

/-- A descriptor that ends the chain with CHAIN_BAD: a fourth LINK in a row, an AU beyond the card, a kind not listed (R54). -/
def badDescriptor (c : Card) (d : Descriptor) : Prop :=
  (d.kind.toNat = 2 ∧ c.linkRun = 3) ∨ (d.kind.toNat = 1 ∧ c.auCount.toNat ≤ d.value.toNat) ∨ d.kind.toNat = 0 ∨ 3 < d.kind.toNat

theorem walkFinds_bad (h : badDescriptor c d) : walkFinds c d = (none, none, true) := by
  unfold walkFinds
  rcases h with ⟨hk, hr⟩ | ⟨hk, hv⟩ | hk
  · rw [hk, hr]
    rfl
  · rw [hk]
    exact if_neg (Nat.not_lt.mpr hv)
  · split
    · omega
    · omega
    · omega
    · rfl

end

/-! ### A step of the walk (R52 to R55) -/

section

variable {n : Nat} {d : Descriptor}

theorem walk_asks (hw : (s.card x).walk ≠ .none) (hb : (s.card x).badEnd = false) (hd : (s.card x).group[(s.card x).groupIndex]? = none) :
    walk x (n + 1) s = fetchGroup x (s.card x).nextGroup s := by
  simp [walk, hw, hb, hd]

section

variable (hw : (s.card x).walk ≠ .none) (hb : (s.card x).badEnd = false) (hd : (s.card x).group[(s.card x).groupIndex]? = some d)

include hw hb hd

theorem walk_end (hk : d.kind.toNat = 3) : walk x (n + 1) s = walkEnds x s := by
  simp [walk, hw, hb, hd, walkFinds_end hk]

theorem walk_bad (h : badDescriptor (s.card x) d) : walk x (n + 1) s = chainBad x d s := by
  simp [walk, hw, hb, hd, walkFinds_bad h]

theorem walk_link (hk : d.kind.toNat = 2) (hr : (s.card x).linkRun < 3) : walk x (n + 1) s =
    fetchGroup x (d.value.toNat / 32 * 32) (s.setCard x { s.card x with linkRun := (s.card x).linkRun + 1 }) := by
  simp [walk, hw, hb, hd, walkFinds_link hk hr]

end

theorem walk_first (hw : (s.card x).walk = .first) (hb : (s.card x).badEnd = false)
    (hd : (s.card x).group[(s.card x).groupIndex]? = some d) (hk : d.kind.toNat = 1) (hv : d.value.toNat < (s.card x).auCount.toNat) :
    walk x (n + 1) s = walk x n (s.setCard x { s.card x with
      groupIndex := (s.card x).groupIndex + 1, linkRun := 0, au := some (BitVec.ofNat 16 d.value.toNat), pageIndex := 0
      eraseState := eraseOfFlags d.flags, walk := .lookahead, lookahead := .unresolved }) := by
  simp [walk, hw, hb, hd, walkFinds_au hk hv]

theorem walk_next (hw : (s.card x).walk = .lookahead) (hb : (s.card x).badEnd = false)
    (hd : (s.card x).group[(s.card x).groupIndex]? = some d) (hk : d.kind.toNat = 1) (hv : d.value.toNat < (s.card x).auCount.toNat) :
    walk x (n + 1) s = lookaheadResolved x (.au (BitVec.ofNat 16 d.value.toNat) (eraseOfFlags d.flags))
      (s.setCard x { s.card x with groupIndex := (s.card x).groupIndex + 1, linkRun := 0 }) := by
  simp [walk, hw, hb, hd, walkFinds_au hk hv]

end

end

end Sys2Proof.Machine

namespace Sys2Proof.Machine

section

variable {x : CardSlot} {s t u : State}

/-! ### What the walk for a lookahead leaves (R53, R54, R55) -/

/-- Nothing of a card has changed but its lookahead, what the walk keeps, and what the end of a CARD_CHAIN brings (R52, R55). -/
def walkOnly (c d : Card) : Prop := d = { c with
  walk := d.walk, lookahead := d.lookahead, linkRun := d.linkRun, badEnd := d.badEnd, fetchReq := d.fetchReq, nextGroup := d.nextGroup
  group := d.group, groupAddr := d.groupAddr, groupIndex := d.groupIndex, chain := d.chain, chainCmd := d.chainCmd, state := d.state }

/-- The place of the AU_BAD notices of a slot (R51, R195). -/
def badPlace (x : CardSlot) : Byte × Byte := (4, BitVec.ofNat 8 (3 * slotNumber x + 2))

/-- From `s` to `t` the walk for a lookahead of card `x` has gone on: a chain that is not LOADING stays as it is, and so does the state of
its card; no card comes to PROBING; no AU_BAD notice is posted. -/
structure lookaheadWalked (x : CardSlot) (s t : State) : Prop where
  card : walkOnly (s.card x) (t.card x)
  settled : (s.card x).chain ≠ .loading → (t.card x).chain = (s.card x).chain ∧ (t.card x).state = (s.card x).state
  probes : (s.card x).state ≠ .probing → (t.card x).state ≠ .probing
  parts : changesOnly [.card x, .control] s t
  posts : ∃ l, postsOnly l s t ∧ badPlace x ∉ l

theorem lookaheadWalked.trans (h : lookaheadWalked x s t) (k : lookaheadWalked x t u) : lookaheadWalked x s u where
  card := by
    have first := h.card
    have second := k.card
    rw [walkOnly] at first second ⊢
    rw [second, first]
  settled loaded := by
    obtain ⟨chain, state⟩ := h.settled loaded
    obtain ⟨chain', state'⟩ := k.settled (by rwa [chain])
    exact ⟨chain'.trans chain, state'.trans state⟩
  probes hs := k.probes (h.probes hs)
  parts := changesOnly_trans h.parts k.parts
  posts := by
    obtain ⟨l, first, hl⟩ := h.posts
    obtain ⟨m, second, hm⟩ := k.posts
    exact ⟨l ++ m, first.trans second, by simp [hl, hm]⟩

theorem lookaheadWalked_setCard {c : Card} (h : walkOnly (s.card x) c) (chain : c.chain = (s.card x).chain)
    (state : c.state = (s.card x).state) : lookaheadWalked x s (s.setCard x c) where
  card := by rwa [State.setCard_card]
  settled _ := by rw [State.setCard_card]; exact ⟨chain, state⟩
  probes hs := by rwa [State.setCard_card, state]
  parts := changesOnly_mono (by simp) (changesOnly_setCard x c s)
  posts := ⟨[], postsOnly_setCard x c s, by simp⟩

/-- A notice that spares the cards does not stand in the walk's way. -/
theorem lookaheadWalked_of_card {l : List (Byte × Byte)} (card : t.card x = s.card x) (parts : changesOnly [.card x, .control] s t)
    (posts : postsOnly l s t) (hl : badPlace x ∉ l) : lookaheadWalked x s t where
  card := by rw [card]; rfl
  settled _ := by rw [card]; exact ⟨rfl, rfl⟩
  probes hs := by rwa [card]
  parts := parts
  posts := ⟨l, posts, hl⟩

theorem lookaheadWalked_fetchGroup (addr : Nat) : lookaheadWalked x s (fetchGroup x addr s) := lookaheadWalked_setCard rfl rfl rfl

theorem lookaheadWalked_chainBad_notice (addr : Nat) : lookaheadWalked x s (postNotice (.chainBad x addr) s) := by
  have control : changesOnly [.control] s (postNotice (.chainBad x addr) s) := changesOnly_postNotice (fun _ => rfl) s
  refine lookaheadWalked_of_card (control (.card x) (by simp)) (changesOnly_mono (by simp) control) (postsOnly_postNotice _ s) ?_
  rw [List.mem_singleton]
  cases x <;> simp [badPlace, noticePlace, slotNumber, Notice.kind, Notice.source]

theorem chainedState_not_probing {c : Card} (h : c.state ≠ .probing) : chainedState c ≠ .probing := by
  unfold chainedState
  split
  · decide
  · decide
  · split <;> decide
  · exact h

theorem cardPlace_ne_badPlace (x : CardSlot) : badPlace x ≠ cardPlace x := by cases x <;> decide

theorem badPlace_not_done (x : CardSlot) (cmd : Option Kept) : badPlace x ∉ donePlaces cmd :=
  donePlaces_other (by show (4 : Byte) ≠ 2; decide)

theorem lookaheadResolved_settled (l : Lookahead) (h : (s.card x).chain ≠ .loading) :
    lookaheadResolved x l s = s.setCard x { s.card x with lookahead := l, walk := .none } := if_neg h

theorem lookaheadResolved_loading (l : Lookahead) (h : (s.card x).chain = .loading) : lookaheadResolved x l s =
    setCardState x (chainedState (s.card x)) (reports (commandEnds (s.card x).chainCmd .ok)
      (s.setCard x { s.card x with lookahead := l, walk := .none, chain := .set, chainCmd := none })) := by
  refine (if_pos h).trans ?_
  rw [setCard_setCard, State.setCard_card]

theorem lookaheadWalked_resolved (l : Lookahead) : lookaheadWalked x s (lookaheadResolved x l s) := by
  by_cases loading : (s.card x).chain = .loading
  · rw [lookaheadResolved_loading l loading]
    generalize hv : reports _ _ = v
    have card : v.card x = { s.card x with lookahead := l, walk := .none, chain := .set, chainCmd := none } := by
      rw [← hv, reports_commandEnds_card, State.setCard_card]
    have parts : changesOnly [.card x, .control] s v := by
      rw [← hv]
      exact changesOnly_trans (changesOnly_mono (by simp) (changesOnly_setCard x _ s)) (changesOnly_mono (by simp) (changesOnly_commandEnds _ _ _))
    have posts : postsOnly ([] ++ donePlaces (s.card x).chainCmd) s v := by
      rw [← hv]
      exact (postsOnly_setCard x _ s).trans (postsOnly_commandEnds _ _ _)
    refine ⟨by rw [setCardState_card_same, card]; rfl, fun h => absurd loading h, fun hs => ?_,
      changesOnly_trans parts (changesOnly_setCardState x _ _), _, posts.trans (postsOnly_setCardState x _ _), ?_⟩
    · rw [setCardState_card_same]
      exact chainedState_not_probing hs
    · simp [badPlace_not_done, cardPlace_ne_badPlace]
  · rw [lookaheadResolved_settled l loading]
    exact lookaheadWalked_setCard rfl rfl rfl

theorem walkEnds_lookahead (h : (s.card x).walk ≠ .first) : walkEnds x s = lookaheadResolved x .theEnd s := if_neg h

theorem walkEnds_first (h : (s.card x).walk = .first) : walkEnds x s = chainEmpty x s := if_pos h

/-- The card at a bad descriptor of its chain (R54). -/
def badEnded (d : Descriptor) (c : Card) : Card :=
  { c with badEnd := true, linkRun := if d.kind = 2 then Config.linkRunCap else c.linkRun }

theorem chainBad_lookahead (d : Descriptor) (h : (s.card x).walk ≠ .first) : chainBad x d s = lookaheadResolved x .theEnd
    (postNotice (.chainBad x ((s.card x).groupAddr + 8 * (s.card x).groupIndex)) (s.setCard x (badEnded d (s.card x)))) := by
  refine walkEnds_lookahead ?_
  rw [postNotice_setCard (fun _ _ => Notice.noConfusion), State.setCard_card]
  exact h

theorem lookaheadWalked_chainBad (d : Descriptor) (h : (s.card x).walk ≠ .first) : lookaheadWalked x s (chainBad x d s) := by
  rw [chainBad_lookahead d h]
  have marked : lookaheadWalked x s (s.setCard x (badEnded d (s.card x))) := lookaheadWalked_setCard rfl rfl rfl
  exact (marked.trans (lookaheadWalked_chainBad_notice _)).trans (lookaheadWalked_resolved _)

/-- The walk for a lookahead, whatever it finds (R53, R54, R55). -/
theorem lookaheadWalked_walk (n : Nat) (h : (s.card x).walk ≠ .first) : lookaheadWalked x s (walk x n s) := by
  have still : lookaheadWalked x s s := lookaheadWalked_of_card rfl (changesOnly_refl _ s) (postsOnly_refl s) (by simp)
  cases n with
  | zero => exact still
  | succ n =>
    rw [walk]
    dsimp only
    split
    · exact still
    · split
      · rw [walkEnds_lookahead h]
        exact lookaheadWalked_resolved _
      · split
        · exact lookaheadWalked_fetchGroup _
        · split
          · refine lookaheadWalked.trans ?_ (lookaheadWalked_resolved _)
            exact lookaheadWalked_setCard rfl rfl rfl
          · refine lookaheadWalked.trans ?_ (lookaheadWalked_fetchGroup _)
            exact lookaheadWalked_setCard rfl rfl rfl
          · exact lookaheadWalked_chainBad _ h
          · rw [walkEnds_lookahead h]
            exact lookaheadWalked_resolved _

theorem lookaheadWalked_resolveLookahead : lookaheadWalked x s (resolveLookahead x s) := by
  have asked : lookaheadWalked x s (updateCard x (fun c => { c with lookahead := .unresolved, walk := .lookahead }) s) :=
    lookaheadWalked_setCard rfl rfl rfl
  exact asked.trans (lookaheadWalked_walk 2 (by rw [updateCard_card]; simp))

end

end Sys2Proof.Machine

namespace Sys2Proof.Machine

section

variable {x : CardSlot} {s t u : State} {n : Word16} {e : EraseState}

/-! ### The rollover onto an AU (R55, R56, R61) -/

/-- The erase record as its AU becomes the current one (R57). -/
def rolledErase (c : Card) : Option EraseRecord := c.erase.map fun r => if r.role = .lookahead then { r with role := .current } else r

/-- The card with the AU `n` of erase state `e` current, at page 0 (R56). -/
def rolledCard (n : Word16) (e : EraseState) (c : Card) : Card :=
  { c with au := some n, pageIndex := 0, eraseState := e, erase := rolledErase c, rolloverWait := false }

theorem rollover_au (h : (s.card x).lookahead = .au n e) : rollover x s =
    if (rolledErase (s.card x)).map EraseRecord.au = some n then
      continueErase x (resolveLookahead x (s.setCard x (rolledCard n e (s.card x))))
    else resolveLookahead x (s.setCard x (rolledCard n e (s.card x))) := by
  unfold rollover
  dsimp only
  split
  · rename_i m f found
    cases found.symm.trans h
    rfl
  · rename_i found
    cases found.symm.trans h
  · rename_i found
    cases found.symm.trans h

/-- Nothing of a card has changed but what the walk for a lookahead may change and what stands on its link. -/
def walkOrLink (c d : Card) : Prop := d = { c with
  walk := d.walk, lookahead := d.lookahead, linkRun := d.linkRun, badEnd := d.badEnd, fetchReq := d.fetchReq, nextGroup := d.nextGroup
  group := d.group, groupAddr := d.groupAddr, groupIndex := d.groupIndex, chain := d.chain, chainCmd := d.chainCmd, state := d.state
  phase := d.phase, statusOut := d.statusOut, issuedOps := d.issuedOps, lastContinue := d.lastContinue }

theorem walkOrLink_of_walk {c d : Card} (h : walkOnly c d) : walkOrLink c d := by
  rw [walkOnly] at h
  rw [walkOrLink, h]

theorem walkOrLink_of_link {c d : Card} (h : linkOnly c d) : walkOrLink c d := by
  rw [linkOnly] at h
  rw [walkOrLink, h]

theorem walkOrLink_trans {c d f : Card} (h : walkOrLink c d) (k : walkOrLink d f) : walkOrLink c f := by
  rw [walkOrLink] at h k ⊢
  rw [k, h]

/-- From `s` to `t` card `x` has rolled over onto the AU `n` of erase state `e` (R56). -/
structure rolledOver (x : CardSlot) (n : Word16) (e : EraseState) (s t : State) : Prop where
  card : walkOrLink (rolledCard n e (s.card x)) (t.card x)
  settled : (s.card x).chain ≠ .loading → (t.card x).chain = (s.card x).chain ∧ (t.card x).state = (s.card x).state
  probes : (s.card x).state ≠ .probing → (t.card x).state ≠ .probing
  parts : changesOnly [.card x, .control] s t
  posts : ∃ l, postsOnly l s t ∧ badPlace x ∉ l

theorem rolledOver_of_walked (h : lookaheadWalked x (s.setCard x (rolledCard n e (s.card x))) t) : rolledOver x n e s t := by
  obtain ⟨card, settled, probes, parts, l, posts, hl⟩ := h
  rw [State.setCard_card] at card settled probes
  exact ⟨walkOrLink_of_walk card, settled, probes, changesOnly_trans (changesOnly_mono (by simp) (changesOnly_setCard x _ s)) parts,
    _, (postsOnly_setCard x _ s).trans posts, by simpa using hl⟩

theorem rolledOver.continued (h : rolledOver x n e s t) : rolledOver x n e s (continueErase x t) := by
  obtain ⟨card, settled, probes, parts, l, posts, hl⟩ := h
  have link := linkOnly_continueErase x t
  have state : ((continueErase x t).card x).state = (t.card x).state := by rw [link]
  have chain : ((continueErase x t).card x).chain = (t.card x).chain := by rw [link]
  exact ⟨walkOrLink_trans card (walkOrLink_of_link link), by rwa [state, chain], by rwa [state],
    changesOnly_trans parts (changesOnly_mono (by simp) (changesOnly_continueErase x t)), _, posts.trans (postsOnly_continueErase x t),
    by simpa using hl⟩

theorem rolledOver_rollover (h : (s.card x).lookahead = .au n e) : rolledOver x n e s (rollover x s) := by
  have walked := rolledOver_of_walked (lookaheadWalked_resolveLookahead (x := x) (s := s.setCard x (rolledCard n e (s.card x))))
  rw [rollover_au h]
  split
  · exact walked.continued
  · exact walked

/-! ### The rollover at the end of the chain (R41, R55, R56) -/

theorem cardFull_card (h : (s.card x).state ≠ .active) : (cardFull x s).card x = s.card x := by
  unfold cardFull
  split
  · exact cardLost_card h
  · exact releaseDrained_card h

theorem changesOnly_cardFull (x : CardSlot) (s : State) : changesOnly [.clip, .tap, .path, .card .a, .card .b, .control] s (cardFull x s) := by
  unfold cardFull
  split
  · exact changesOnly_cardLost x s
  · exact changesOnly_mono (by simp) (changesOnly_releaseDrained s)

theorem postsOnly_cardFull (x : CardSlot) (s : State) : postsOnly (lossPlaces s.clip) s (cardFull x s) := by
  unfold cardFull
  split
  · exact postsOnly_cardLost x s
  · exact (postsOnly_releaseDrained s).mono (List.sublist_append_right _ _)

theorem badPlace_not_loss (x : CardSlot) (c : Clip) : badPlace x ∉ lossPlaces c := by
  simp only [lossPlaces, List.mem_append, not_or]
  refine ⟨⟨?_, badPlace_not_done x _⟩, ?_⟩
  · cases x <;> decide
  · cases x <;> decide

theorem rollover_end_active (h : (s.card x).lookahead = .theEnd) (active : (s.card x).state = .active) : rollover x s =
    postNotice (.cardState x .full .active (s.card x).au (s.card x).pageIndex none) (cardFull x (fullBegun x s)) := by
  unfold rollover
  dsimp only
  split
  · rename_i found
    cases found.symm.trans h
  · rename_i found
    exact if_pos active
  · rename_i found
    cases found.symm.trans h

theorem rollover_end_inactive (h : (s.card x).lookahead = .theEnd) (inactive : (s.card x).state ≠ .active) : rollover x s =
    setCardState x .full (s.setCard x { s.card x with rolloverWait := false }) := by
  unfold rollover
  dsimp only
  split
  · rename_i found
    cases found.symm.trans h
  · rename_i found
    exact if_neg inactive
  · rename_i found
    cases found.symm.trans h

theorem rollover_unresolved (h : (s.card x).lookahead = .unresolved) :
    rollover x s = s.setCard x { s.card x with rolloverWait := true } := by
  unfold rollover
  dsimp only
  split
  · rename_i found
    cases found.symm.trans h
  · rename_i found
    cases found.symm.trans h
  · rename_i found
    rfl

/-- A card at the end of its chain is FULL, and nothing else of it has changed but what continues a held erase (R56, R61). -/
theorem rollover_end_card (h : (s.card x).lookahead = .theEnd) :
    linkOnly { s.card x with state := .full, rolloverWait := false } ((rollover x s).card x) := by
  by_cases active : (s.card x).state = .active
  · have begun := linkOnly_continueErase x (s.setCard x { s.card x with state := .full, rolloverWait := false })
    rw [State.setCard_card] at begun
    rw [rollover_end_active h active, postNotice_cardState_card, cardFull_card (by rw [fullBegun_state]; decide)]
    exact begun
  · rw [rollover_end_inactive h active, setCardState_card_same, State.setCard_card]
    rfl

theorem changesOnly_rollover_end (h : (s.card x).lookahead = .theEnd) :
    changesOnly [.card .a, .card .b, .control, .path, .clip, .tap] s (rollover x s) := by
  by_cases active : (s.card x).state = .active
  · rw [rollover_end_active h active]
    exact changesOnly_trans (changesOnly_trans (changesOnly_mono (by cases x <;> simp) (changesOnly_fullBegun x s))
      (changesOnly_mono (by simp) (changesOnly_cardFull x _))) (changesOnly_mono (by simp) (changesOnly_postNotice (fun _ => rfl) _))
  · rw [rollover_end_inactive h active]
    exact changesOnly_mono (by cases x <;> simp)
      (changesOnly_trans (changesOnly_mono (by simp) (changesOnly_setCard x _ s)) (changesOnly_setCardState x .full _))

theorem postsOnly_rollover_end (h : (s.card x).lookahead = .theEnd) : ∃ l, postsOnly l s (rollover x s) ∧ badPlace x ∉ l := by
  by_cases active : (s.card x).state = .active
  · rw [rollover_end_active h active]
    have begun : postsOnly ([] ++ []) s (fullBegun x s) := (postsOnly_setCard x _ s).trans (postsOnly_continueErase x _)
    exact ⟨_, (begun.trans (postsOnly_cardFull x _)).trans (postsOnly_cardState x _ _ _ _ _ _),
      by simp [badPlace_not_loss, cardPlace_ne_badPlace]⟩
  · rw [rollover_end_inactive h active]
    exact ⟨_, (postsOnly_setCard x _ s).trans (postsOnly_setCardState x .full _), by simp [cardPlace_ne_badPlace]⟩

end

/-! ### What is due for erase (R57, R58) -/

section

variable {c : Card} {n m : Word16}

theorem eraseDue_current (h : currentDue c n) : eraseDue c = some (.current, n) := by
  obtain ⟨allowed, au, needed, page⟩ := h
  refine (if_pos allowed).trans ?_
  rw [au]
  exact if_pos ⟨needed, page⟩

theorem eraseDue_lookahead (h : lookaheadDue c m) : eraseDue c = some (.lookahead, m) := by
  obtain ⟨allowed, au, resting, found, begun⟩ := h
  obtain ⟨n, hn⟩ := Option.ne_none_iff_exists'.mp au
  refine (if_pos allowed).trans ?_
  rw [hn, found]
  exact (if_neg resting).trans (if_pos begun)

/-- Nothing is due for erase but the current AU and the lookahead (R58). -/
theorem eraseDue_eq_none (h : ¬((∃ n, currentDue c n) ∨ ∃ m, lookaheadDue c m)) : eraseDue c = none := by
  rw [not_or, not_exists, not_exists] at h
  obtain ⟨current, ahead⟩ := h
  unfold eraseDue
  split
  · rename_i allowed
    split
    · rename_i n hn
      have resting : ¬(c.eraseState = .needed ∧ c.pageIndex < 1024) := fun due => current n ⟨allowed, hn, due⟩
      refine (if_neg resting).trans ?_
      split
      · rename_i m hl
        exact if_neg fun begun => ahead m ⟨allowed, by simp [hn], resting, hl, begun⟩
      · rfl
    · rfl
  · rfl

theorem linkFree_iff : linkFree c = true ↔ c.phase = .idle ∧ c.statusOut = false := by simp [linkFree]

theorem eraseRunning_iff : eraseRunning c = true ↔ ∃ e, c.erase = some e ∧ e.held = false := by
  unfold eraseRunning
  cases c.erase <;> simp

theorem erasesCurrent_iff : erasesCurrent c = true ↔ ∃ e, c.erase = some e ∧ some e.au = c.au := by
  unfold erasesCurrent
  cases c.erase <;> simp

/-- No erase runs, and none is held of the current AU (R57, R62). -/
theorem eraseAside_iff : (eraseRunning c = false ∧ erasesCurrent c = false) ↔ ∀ e, c.erase = some e → e.held = true ∧ some e.au ≠ c.au := by
  unfold eraseRunning erasesCurrent
  cases c.erase <;> simp

theorem rolloverDue_iff : rolloverDue c = true ↔ c.rolloverWait = true ∧ c.lookahead ≠ .unresolved ∧ (c.state = .ready ∨ c.state = .active) := by
  simp [rolloverDue, and_assoc]

end

/-! ### Erases, page writes and rollovers start (R56, R57, R62) -/

section

variable {x : CardSlot} {s : State}

theorem eraseStart_due {role : EraseRole} {n : Word16} (h : eraseDue (s.card x) = some (role, n)) : eraseStart x s =
    if linkFree (s.card x) then s.setCard x { issue [.unlock, .status] (s.card x) with phase := .unlockErase role } else s := by
  unfold eraseStart
  dsimp only
  rw [h]

theorem eraseStart_none (h : eraseDue (s.card x) = none) : eraseStart x s = s := by
  unfold eraseStart
  dsimp only
  rw [h]

theorem pagesAwaiting_pos : 0 < pagesAwaiting s x ↔ ∃ q ∈ s.clip.pages, awaits x q = true := by
  rw [pagesAwaiting, List.length_pos_iff_exists_mem]
  simp only [List.mem_filter]

/-- When a page may be written (R57, R58, R62). -/
def writeAllowed (x : CardSlot) (s : State) : Prop :=
  let c := s.card x
  c.state = .active ∧ c.eraseState = .erased ∧ (∀ e, c.erase = some e → e.held = true ∧ some e.au ≠ c.au) ∧ c.rolloverWait = false ∧
    c.au ≠ none ∧ c.pageIndex < 1024 ∧ ¬((∃ n, currentDue c n) ∨ ∃ m, lookaheadDue c m) ∧ (c.phase = .idle ∧ c.statusOut = false) ∧
    ∃ q ∈ s.clip.pages, awaits x q = true

theorem pageWriteDue_iff : pageWriteDue x s = true ↔ writeAllowed x s := by
  have due : (eraseDue (s.card x)).isNone = true ↔ ¬((∃ n, currentDue (s.card x) n) ∨ ∃ m, lookaheadDue (s.card x) m) := by
    refine ⟨fun h => ?_, fun h => by rw [eraseDue_eq_none h]; rfl⟩
    rintro (⟨n, hn⟩ | ⟨m, hm⟩)
    · rw [eraseDue_current hn] at h
      cases h
    · rw [eraseDue_lookahead hm] at h
      cases h
  simp only [pageWriteDue, writeAllowed, Bool.and_eq_true, due, linkFree_iff, beq_iff_eq, Bool.not_eq_true', decide_eq_true_eq,
    pagesAwaiting_pos, Option.isSome_iff_ne_none, ← eraseAside_iff]
  simp only [Config.auPages]
  tauto

end

/-- Settles O56: each row acts exactly where its start is due, and a rollover has an AU ahead or the end of the chain. -/
theorem erasesWritesAndRolloversStartWhenDue : Obligations.ErasesWritesAndRolloversStartWhenDue := by
  unfold Obligations.ErasesWritesAndRolloversStartWhenDue
  intro x s hrun c free unlocked due write
  refine ⟨fun n hn hfree => act_eq_next hrun ?_, fun m hm hfree => act_eq_next hrun ?_, fun h => act_eq_next hrun ?_,
    fun h => act_eq_next hrun ?_, fun h => act_eq_next hrun ?_, fun h => act_eq_next hrun ?_, fun waits st => ⟨fun n e ahead set => ?_,
    fun ends => ?_⟩⟩
  · rw [eraseStart_due (eraseDue_current hn), if_pos (linkFree_iff.mpr hfree)]
    rfl
  · rw [eraseStart_due (eraseDue_lookahead hm), if_pos (linkFree_iff.mpr hfree)]
    rfl
  · cases he : eraseDue (s.card x) with
    | none => exact eraseStart_none he
    | some d =>
      have blocked : ¬free := h.resolve_left fun none_due => by rw [eraseDue_eq_none none_due] at he; cases he
      rw [eraseStart_due (role := d.1) (n := d.2) he]
      exact if_neg fun k => blocked (linkFree_iff.mp k)
  · exact (if_pos (pageWriteDue_iff.mpr h)).trans rfl
  · exact if_neg fun k => h (pageWriteDue_iff.mp k)
  · refine if_neg fun k => ?_
    obtain ⟨waits, resolved, -⟩ := rolloverDue_iff.mp k
    rcases h with h | h
    · rw [h] at waits
      cases waits
    · exact resolved h
  · have dueNow : rolloverDue (s.card x) = true := rolloverDue_iff.mpr ⟨waits, by rw [ahead]; simp, st⟩
    obtain ⟨card, settled, -, parts, -⟩ := rolledOver_rollover ahead
    obtain ⟨chain, state⟩ := settled (by rw [set]; decide)
    rw [walkOrLink] at card
    exact ⟨_, act_eq_next hrun (if_pos dueNow), parts, by rw [card]; rfl, by rw [card]; rfl, by rw [card]; rfl, by rw [card]; rfl, state,
      chain.trans set⟩
  · have dueNow : rolloverDue (s.card x) = true := rolloverDue_iff.mpr ⟨waits, by rw [ends]; simp, st⟩
    have card := rollover_end_card ends
    rw [linkOnly] at card
    exact ⟨_, act_eq_next hrun (if_pos dueNow), by rw [card], by rw [card], by rw [card], by rw [card], changesOnly_rollover_end ends⟩

end Sys2Proof.Machine

namespace Sys2Proof.Machine

section

variable {x : CardSlot} {s t u : State}

/-! ### The failure of a card (R50) -/

/-- A card that is not ACTIVE fails without a word to the assembler (R50). -/
theorem changesOnly_failCard_inactive (h : (s.card x).state ≠ .active) : changesOnly [.card x, .control, .path] s (failCard x s) := by
  have spread : failSpread x s = failBegun x s := if_neg h
  have begun : changesOnly [.card x, .control, .path] s (failSpread x s) := by
    rw [spread]
    exact changesOnly_mono (by simp) (changesOnly_failBegun x s)
  exact changesOnly_trans (changesOnly_trans begun (changesOnly_mono (by simp) (changesOnly_failTold x s)))
    (changesOnly_mono (by simp) (changesOnly_continueErase x _))

/-- What is said of a failed card rests on its outstanding erase alone (R50). -/
theorem cardFailed_of_erase (h : cardFailed s t x) (e : (u.card x).erase = none → (s.card x).erase = none) : cardFailed u t x := by
  obtain ⟨state, chain, cmd, fetch, walk, cause, rest⟩ := h
  exact ⟨state, chain, cmd, fetch, walk, cause, fun none_erased => rest (e none_erased)⟩

theorem failCard_erase (h : (s.card x).erase = none) : ((failCard x s).card x).erase = none := by
  obtain ⟨-, -, -, -, -, -, rest⟩ := cardFailed_failCard x s
  exact (rest h).2.2

/-! ### The link after a SOFT_RESET (R69) -/

/-- A card whose IDENT has been issued (R46, R69). -/
def identIssued (c : Card) : Card := { c with phase := .ident, issuedOps := [.ident], statusOut := false }

theorem drainNext_free (h : (s.card x).erase = none) : drainNext x s = s.setCard x (identIssued (s.card x)) := by
  have idle : ((updateCard x (fun c => { c with phase := .idle }) s).card x) = { s.card x with phase := .idle } := updateCard_card _ _ _
  unfold drainNext
  dsimp only
  rw [if_neg (by rw [idle]; simp [h]), updateCard, idle]
  exact setCard_setCard _ _ _ _

/-! ### SLEEP and EJECT that are carried out (R65, R67) -/

theorem sendEject_card (x : CardSlot) (s : State) : (sendEject x s).card x = { s.card x with
    issuedOps := [.sleep], statusOut := false, phase := .idle, sleepOrigin := .none, request := none, state := .asleep } := by
  refine (setCardState_card_same x _ _).trans ?_
  rw [State.setCard_card]
  rfl

theorem changesOnly_sendEject (x : CardSlot) (s : State) : changesOnly [.card x, .control] s (sendEject x s) :=
  changesOnly_trans (changesOnly_mono (by simp) (changesOnly_setCard x _ s)) (changesOnly_setCardState x _ _)

/-- A FAILED card that is sent to sleep ends its FAULT cause (R50). -/
theorem causePresent_sendEject (h : (s.card x).state = .failed) : causePresent (sendEject x s) (slotFault x) = false := by
  have failed := conditions_setCardState_failed (s := s.setCard x { issue [.sleep] (s.card x) with
    phase := .idle, sleepOrigin := .none, request := none }) (x := x) (new := .asleep) (by rw [State.setCard_card]; exact h) (by decide)
  rw [causePresent, condState_congr (t := sendEject x s) failed]
  exact causePresent_endCause _ _

theorem runRequest_none (h : (s.card x).request = none) : runRequest x s = s := by
  unfold runRequest
  rw [h]

theorem runRequest_eject {k : Kept} (h : (s.card x).request = some (.eject k)) : runRequest x s = commandDone k .ok (sendEject x s) := by
  unfold runRequest
  rw [h]
  exact reports_commandEnds k .ok _

/-! ### Timeouts (R64, R66) -/

/-- The card once its erase has timed out (R64). -/
def eraseDropped (c : Card) : Card := { c with erase := none, phase := .idle, statusOut := false, holdRefused := false }

theorem eraseTimeout_resting (h : eraseRunning (s.card x) = false) : eraseTimeout x s = s := if_neg (by simp [h])

theorem eraseTimeout_probing (h : eraseRunning (s.card x) = true) (hs : (s.card x).state = .probing) :
    eraseTimeout x s = s.setCard x (identIssued (eraseDropped (s.card x))) := by
  refine (if_pos h).trans ((if_pos hs).trans ?_)
  rw [drainNext_free (by rw [State.setCard_card]), State.setCard_card]
  exact setCard_setCard _ _ _ _

section

variable (h : eraseRunning (s.card x) = true) (hs : (s.card x).state ≠ .probing)

include h hs

theorem eraseTimeout_fails (hr : (s.card x).request = none) : eraseTimeout x s = failCard x (s.setCard x (eraseDropped (s.card x))) := by
  refine (if_pos h).trans ((if_neg hs).trans ?_)
  split <;> rename_i found <;> cases found.symm.trans hr
  rfl

theorem eraseTimeout_sleep {k : Kept} (hr : (s.card x).request = some (.sleep k)) : eraseTimeout x s =
    commandDone k .aborted (failCard x (s.setCard x { eraseDropped (s.card x) with request := none })) := by
  refine (if_pos h).trans ((if_neg hs).trans ?_)
  split <;> rename_i found <;> cases found.symm.trans hr
  rw [reports_commandEnds, updateCard, setCard_setCard, State.setCard_card]
  rfl

theorem eraseTimeout_eject {k : Kept} (hr : (s.card x).request = some (.eject k)) : eraseTimeout x s =
    commandDone k .ok (sendEject x (s.setCard x (eraseDropped (s.card x)))) := by
  have requested : ((s.setCard x (eraseDropped (s.card x))).card x).request = some (.eject k) := by rw [State.setCard_card]; exact hr
  rw [← runRequest_eject requested]
  refine (if_pos h).trans ((if_neg hs).trans ?_)
  split <;> rename_i found <;> cases found.symm.trans hr
  rfl

end

end

/-- Settles O54: a timeout finds the operation outstanding or it does not, and an erase ends as its card and its request say. -/
theorem timeoutsFailTheCard : Obligations.TimeoutsFailTheCard := by
  unfold Obligations.TimeoutsFailTheCard
  intro x s hrun c probed
  refine ⟨fun hw hd => act_eq_next hrun ?_, fun hph => ?_, fun hph he => act_eq_next hrun ?_, fun hw hd => act_eq_next hrun ?_,
    fun k hph hst hk => ?_, fun hph he => act_eq_next hrun ?_, fun held => act_eq_next hrun (eraseTimeout_resting ?_),
    fun e he hh => ?_⟩
  · unfold pageWriteTimeout
    split
    · exact absurd ‹_› hw
    · exact absurd ‹_› hd
    · rfl
  · exact ⟨_, act_eq_next hrun (by rw [pageWriteTimeout, hph]; rfl), cardFailed_failCard x s, changesOnly_failCard_inactive⟩
  · rw [pageWriteTimeout, hph]
    refine (drainNext_free (by rw [updateCard_card]; exact he)).trans ?_
    rw [updateCard_card]
    exact setCard_setCard _ _ _ _
  · unfold wakeTimeout
    dsimp only
    split
    · exact absurd ‹_› hw
    · exact absurd ‹_› hd
    · rfl
  · have runs : wakeTimeout x s = commandDone k .aborted (failCard x (s.setCard x { s.card x with wakeCmd := none })) := by
      rw [← reports_commandEnds, ← hk]
      unfold wakeTimeout
      dsimp only
      rw [hph]
    have link := linkOnly_failCard x (s.setCard x { s.card x with wakeCmd := none })
    rw [linkOnly, State.setCard_card] at link
    refine ⟨_, act_eq_next hrun runs, cardFailed_of_erase (cardFailed_failCard x _) (fun h => by rwa [State.setCard_card]), by rw [link]; rfl,
      changesOnly_trans (changesOnly_mono (by simp) (changesOnly_setCard x _ s)) (changesOnly_failCard_inactive ?_)⟩
    rw [State.setCard_card]
    show (s.card x).state ≠ _
    rw [hst]
    decide
  · unfold wakeTimeout
    dsimp only
    rw [hph]
    refine (drainNext_free (by rw [State.setCard_card]; exact he)).trans ?_
    rw [State.setCard_card]
    exact setCard_setCard _ _ _ _
  · rw [← Bool.not_eq_true, eraseRunning_iff]
    rintro ⟨e, he, hh⟩
    rw [held e he] at hh
    cases hh
  · have going : eraseRunning (s.card x) = true := eraseRunning_iff.mpr ⟨e, he, hh⟩
    have dropped (v : Card) (hv : v.erase = none) : cardFailed s (failCard x (s.setCard x v)) x ∧
        ((failCard x (s.setCard x v)).card x).erase = none :=
      ⟨cardFailed_of_erase (cardFailed_failCard x _) (fun _ => by rwa [State.setCard_card]), failCard_erase (by rwa [State.setCard_card])⟩
    refine ⟨fun hs hr => ⟨_, act_eq_next hrun (eraseTimeout_fails going hs hr), dropped _ rfl⟩, fun k hs hr => ?_, fun k hs hr => ?_,
      fun hs => act_eq_next hrun (eraseTimeout_probing going hs)⟩
    · have link := linkOnly_failCard x (s.setCard x { eraseDropped (s.card x) with request := none })
      rw [linkOnly, State.setCard_card] at link
      obtain ⟨failed, erased⟩ := dropped { eraseDropped (s.card x) with request := none } rfl
      exact ⟨_, act_eq_next hrun (eraseTimeout_sleep going hs hr), failed, erased, by rw [link]; rfl⟩
    · refine ⟨_, act_eq_next hrun (eraseTimeout_eject going hs hr), changesOnly_trans (changesOnly_mono (by simp) (changesOnly_setCard x _ s))
        (changesOnly_sendEject x _), fun failed => causePresent_sendEject (by rw [State.setCard_card]; exact failed), ?_⟩
      rw [sendEject_card, State.setCard_card]
      rfl

end Sys2Proof.Machine

namespace Sys2Proof.Machine

section

variable {x : CardSlot} {s t u : State} {c : Card}

/-! ### The groups that return (R53, R210) -/

/-- The card with the group of descriptors that has returned, its PROTECT input read with it (R53). -/
def groupTaken (p : Bool) (data : List Byte) (c : Card) : Card :=
  { c with protectInput := p, group := descriptorsOf data, groupIndex := 0 }

theorem descriptorFetchDone_returns {i : Transaction} {data : List Byte} {p : Bool} (h : returns s ⟨i, .card x⟩) (hl : data.length = 32) :
    descriptorFetchDone x data p s = walk x 2 ((afterReturn s).setCard x (groupTaken p data (s.card x))) := by
  unfold descriptorFetchDone
  rw [nextCompletion_of_returns h]
  refine (if_pos ⟨rfl, hl⟩).trans ?_
  rw [withProtect, updateCard, updateCard, setCard_setCard, State.setCard_card, afterReturn_card]
  rfl

theorem descriptorFetchDone_other {i : Transaction} {y : CardSlot} {data : List Byte} {p : Bool} (h : returns s ⟨i, .card x⟩) (hy : y ≠ x) :
    descriptorFetchDone y data p s = s := by
  unfold descriptorFetchDone
  rw [nextCompletion_of_returns h]
  exact if_neg fun e => hy e.1.symm

theorem descriptorAt_value (data : List Byte) (n : Nat) : (descriptorAt data n).value.toNat = field data (8 * n) 4 :=
  Nat.mod_eq_of_lt (field_lt data (8 * n) 4)

theorem presentRead_setCard (addr n : Nat) : presentRead (s.setCard x c) addr n = presentRead s addr n := by
  rw [presentRead, presentRead, unissuedWrites, unissuedWrites, State.setCard_path]

theorem presentRead_afterReturn (addr n : Nat) : presentRead (afterReturn s) addr n = presentRead s addr n := rfl

/-! ### A chain that is LOADING (R52) -/

/-- The card once the first two descriptors of its chain are AUs (R52, R55). -/
def chainLoaded (d e : Descriptor) (c : Card) : Card := { c with
  groupIndex := c.groupIndex + 2, linkRun := 0, au := some (BitVec.ofNat 16 d.value.toNat), pageIndex := 0, eraseState := eraseOfFlags d.flags
  walk := .none, lookahead := .au (BitVec.ofNat 16 e.value.toNat) (eraseOfFlags e.flags), chain := .set, chainCmd := none }

/-- The state in which the card `x` has its chain and its CARD_CHAIN its end, the state of the card apart (R52). -/
def chainAnswered (x : CardSlot) (d e : Descriptor) (c : Card) (s : State) : State :=
  reports (commandEnds c.chainCmd .ok) (s.setCard x (chainLoaded d e c))

theorem walk_loads {d e : Descriptor} (hw : c.walk = .first) (hb : c.badEnd = false) (hl : c.chain = .loading)
    (hd : c.group[c.groupIndex]? = some d) (he : c.group[c.groupIndex + 1]? = some e) (dk : d.kind.toNat = 1) (ek : e.kind.toNat = 1)
    (dv : d.value.toNat < c.auCount.toNat) (ev : e.value.toNat < c.auCount.toNat) :
    walk x 2 (s.setCard x c) = setCardState x (chainedState c) (chainAnswered x d e c s) := by
  rw [walk_first (d := d) (by rwa [State.setCard_card]) (by rwa [State.setCard_card]) (by rwa [State.setCard_card]) dk
    (by rwa [State.setCard_card]), setCard_setCard, State.setCard_card,
    walk_next (d := e) (by rw [State.setCard_card]) (by rwa [State.setCard_card]) (by rwa [State.setCard_card]) ek
    (by rwa [State.setCard_card]), setCard_setCard, State.setCard_card,
    lookaheadResolved_loading _ (by rwa [State.setCard_card]), setCard_setCard, State.setCard_card]
  rfl

theorem chainAnswered_card (d e : Descriptor) : (chainAnswered x d e c s).card x = chainLoaded d e c := by
  rw [chainAnswered, reports_commandEnds_card, State.setCard_card]

theorem chainAnswered_control (d e : Descriptor) {k : Kept} (h : c.chainCmd = some k) :
    (chainAnswered x d e c s).control = (commandDone k .ok s).control := by
  rw [chainAnswered, commandEnds_setCard, State.setCard_control, h, reports_commandEnds]

theorem changesOnly_chainAnswered (d e : Descriptor) : changesOnly [.card x, .control] s (chainAnswered x d e c s) :=
  changesOnly_trans (changesOnly_mono (by simp) (changesOnly_setCard x _ s)) (changesOnly_mono (by simp) (changesOnly_commandEnds _ _ _))

/-- The card whose new chain has no AU (R52). -/
def chainEmptied (c : Card) : Card := { c with chain := .none, chainCmd := none, walk := .none, lookahead := .theEnd }

theorem chainEmpty_ready (h : c.state = .ready) : chainEmpty x (s.setCard x c) =
    reports (commandEnds c.chainCmd .badArg) (setCardState x .full (s.setCard x (chainEmptied c))) := by
  unfold chainEmpty
  dsimp only
  rw [State.setCard_card, setCard_setCard, if_pos h]
  rfl

theorem chainEmpty_other (h : c.state ≠ .ready) : chainEmpty x (s.setCard x c) =
    reports (commandEnds c.chainCmd .badArg) (s.setCard x (chainEmptied c)) := by
  unfold chainEmpty
  dsimp only
  rw [State.setCard_card, setCard_setCard, if_neg h]
  rfl

/-! ### A chain that ends at a bad descriptor (R54) -/

theorem walk_bad_settled {d : Descriptor} (hw : c.walk = .lookahead) (hb : c.badEnd = false) (hc : c.chain = .set)
    (hd : c.group[c.groupIndex]? = some d) (bad : badDescriptor c d) :
    walk x 2 (s.setCard x c) = postNotice (.chainBad x (c.groupAddr + 8 * c.groupIndex))
      (s.setCard x { badEnded d c with lookahead := .theEnd, walk := .none }) := by
  have next : (s.setCard x c).card x = c := State.setCard_card _ _ _
  rw [walk_bad (d := d) (by rw [next, hw]; decide) (by rwa [next]) (by rwa [next]) (by rwa [next]),
    chainBad_lookahead d (by rw [next, hw]; decide), next, setCard_setCard,
    postNotice_setCard (fun _ _ => Notice.noConfusion), lookaheadResolved_settled _ (by rw [State.setCard_card]; simp [badEnded, hc]),
    State.setCard_card, setCard_setCard, postNotice_setCard (fun _ _ => Notice.noConfusion)]

end

/-- Settles O55: the branches of the walk, at the group that has returned. -/
theorem chainsAreWalkedGroupByGroup : Obligations.ChainsAreWalkedGroupByGroup := by
  unfold Obligations.ChainsAreWalkedGroupByGroup
  intro x data p i s h hl c kind value erase start
  have fetched : exec (.cardDescriptorFetchDone x data p) s = .next (walk x 2 (start.setCard x c)) :=
    act_eq_next h.1 (descriptorFetchDone_returns h hl)
  have first : c.group[c.groupIndex]? = some (descriptorAt data 0) := rfl
  have second : c.group[c.groupIndex + 1]? = some (descriptorAt data 1) := rfl
  have held (n : Nat) : (descriptorAt data n).value.toNat = value n := descriptorAt_value data n
  have loads (hb : c.badEnd = false) (hw : c.walk = .first) (hc : c.chain = .loading) (k0 : kind 0 = 1) (k1 : kind 1 = 1)
      (v0 : value 0 < c.auCount.toNat) (v1 : value 1 < c.auCount.toNat) : exec (.cardDescriptorFetchDone x data p) s =
        .next (setCardState x (chainedState c) (chainAnswered x (descriptorAt data 0) (descriptorAt data 1) c start)) := by
    rw [fetched, walk_loads hw hb hc first second k0 k1 (by rwa [held]) (by rwa [held])]
  have loaded := changesOnly_trans (changesOnly_chainAnswered (x := x) (c := c) (s := start) (descriptorAt data 0) (descriptorAt data 1))
    (changesOnly_setCardState x (chainedState c) _)
  refine ⟨fun y hy => act_eq_next h.1 (descriptorFetchDone_other h hy), fun k hb hw hc hk hs => ⟨fun k0 k1 v0 v1 => ?_, fun k0 => ?_⟩,
    fun k hb hw hc _ hs k0 k1 v0 v1 => ⟨_, loads hb hw hc k0 k1 v0 v1, loaded, ?_⟩, fun hb hw hc => ?_⟩
  · have ready : chainedState c = .ready := by
      unfold chainedState
      rcases hs with hs | hs | hs <;> rw [hs]
    refine ⟨_, loads hb hw hc k0 k1 v0 v1, loaded, ?_, fun hr => ?_, fun hf => ?_⟩
    · rw [setCardState_card_same, chainAnswered_card, ready, chainLoaded, held, held]
      rfl
    · rw [setCardState_same (by rw [chainAnswered_card, ready]; exact hr), chainAnswered_control _ _ hk]
    · rw [causePresent, condState_congr (conditions_setCardState_failed (by rw [chainAnswered_card]; exact hf) (by rw [ready]; decide))]
      exact causePresent_endCause _ _
  · have empty : exec (.cardDescriptorFetchDone x data p) s = .next (chainEmpty x (start.setCard x c)) := by
      rw [fetched, walk_end (d := descriptorAt data 0) (by rw [State.setCard_card, hw]; decide) (by rwa [State.setCard_card])
        (by rw [State.setCard_card]; exact first) k0, walkEnds_first (by rwa [State.setCard_card])]
    have told (v : State) : changesOnly [.card x, .control] v (reports (commandEnds c.chainCmd .badArg) v) :=
      changesOnly_mono (by simp) (changesOnly_commandEnds _ _ _)
    have emptied : changesOnly [.card x, .control] start (start.setCard x (chainEmptied c)) :=
      changesOnly_mono (by simp) (changesOnly_setCard x _ _)
    by_cases hr : c.state = .ready
    · rw [chainEmpty_ready hr] at empty
      refine ⟨_, empty, changesOnly_trans (changesOnly_trans emptied (changesOnly_setCardState x .full _)) (told _), ?_, fun other => absurd hr other⟩
      rw [reports_commandEnds_card, setCardState_card_same, State.setCard_card, if_pos hr]
      rfl
    · rw [chainEmpty_other hr] at empty
      refine ⟨_, empty, changesOnly_trans emptied (told _), ?_, fun _ => ?_⟩
      · rw [reports_commandEnds_card, State.setCard_card, if_neg hr]
        rfl
      · rw [commandEnds_setCard, State.setCard_control, hk, reports_commandEnds]
  · rw [setCardState_card_same, chainAnswered_card, chainedState, hs]
    refine ⟨?_, rfl, by rw [chainLoaded, held], rfl⟩
    simp only [Bool.or_eq_true]
    rfl
  · have card : (start.setCard x c).card x = c := State.setCard_card _ _ _
    have asked : ((start.setCard x c).card x).walk ≠ .none := by rw [card, hw]; decide
    have good : ((start.setCard x c).card x).badEnd = false := by rwa [card]
    have found : ((start.setCard x c).card x).group[((start.setCard x c).card x).groupIndex]? = some (descriptorAt data 0) := by
      rw [card]
      exact first
    have settled : c.chain ≠ .loading := by rw [hc]; decide
    have bad (hd : badDescriptor c (descriptorAt data 0)) : ∃ t, exec (.cardDescriptorFetchDone x data p) s =
        .next (postNotice (.chainBad x c.groupAddr) t) ∧ changesOnly [.card x] start t ∧ (t.card x).lookahead = .theEnd ∧
        (t.card x).walk = .none ∧ (t.card x).badEnd = true ∧ (t.card x).state = c.state := by
      refine ⟨_, fetched.trans (congrArg _ (walk_bad_settled hw hb hc first hd)), changesOnly_setCard x _ _, ?_⟩
      rw [State.setCard_card]
      exact ⟨rfl, rfl, rfl, rfl⟩
    refine ⟨fun k0 v0 => ?_, fun k0 => ?_, fun k0 run => ?_, fun k0 run => bad (.inl ⟨k0, run⟩),
      fun k0 v0 => bad (.inr (.inl ⟨k0, by rwa [held]⟩)), fun k0 => bad (.inr (.inr k0))⟩
    · rw [fetched, walk_next (d := descriptorAt data 0) (by rwa [card]) good found k0 (by rwa [card, held]), setCard_setCard, card,
        lookaheadResolved_settled _ (by rwa [State.setCard_card]), setCard_setCard, State.setCard_card, held]
      rfl
    · rw [fetched, walk_end asked good found k0, walkEnds_lookahead (by rw [card, hw]; decide),
        lookaheadResolved_settled _ (by rwa [card]), card, setCard_setCard]
    · rw [fetched, walk_link asked good found k0 (by rwa [card]), fetchGroup, updateCard, setCard_setCard, setCard_setCard, card,
        State.setCard_card, presentRead_setCard, presentRead_setCard, presentRead_afterReturn, held]
      rfl

end Sys2Proof.Machine

namespace Sys2Proof.Machine

section

variable {x : CardSlot} {s t u : State}

/-! ### The slot that a command names (R52, R205) -/

theorem onSlot_of {code : Byte} (h : slotOf code = some x) (f : CardSlot → State → State × Result) (s : State) : onSlot code f s = f x s := by
  unfold onSlot
  rw [h]

theorem onSlot_none {code : Byte} (h : 1 < code.toNat) (f : CardSlot → State → State × Result) (s : State) : onSlot code f s = (s, .badArg) := by
  have unnamed : slotOf code = none := by
    unfold slotOf
    split
    · omega
    · omega
    · rfl
  unfold onSlot
  rw [unnamed]

theorem slotOf_of_mem {code : Byte} (h : (code.toNat, x) ∈ [(0, CardSlot.a), (1, CardSlot.b)]) : slotOf code = some x := by
  unfold slotOf
  simp only [List.mem_cons, Prod.mk.injEq, List.not_mem_nil, or_false] at h
  obtain ⟨hc, rfl⟩ | ⟨hc, rfl⟩ := h <;> rw [hc] <;> rfl

/-! ### A chain that is dropped (R50, R52, R67) -/

theorem dropFetch_eq (x : CardSlot) (s : State) : dropFetch x s = (abandonReads s (· == .card x)).setCard x
    { s.card x with fetchReq := none, walk := .none } := by
  rw [dropFetch, updateCard]
  cases x <;> rfl

/-- The word of a dropped chain is the ABORTED of a CARD_CHAIN that was LOADING, and nothing else (R52). -/
theorem dropChain_control (x : CardSlot) (s : State) : (dropChain x s).control = (reports (commandEnds (s.card x).chainCmd .aborted) s).control := by
  unfold dropChain
  dsimp only
  rw [commandEnds_setCard, State.setCard_control, dropFetch_card, dropFetch_eq, commandEnds_setCard, State.setCard_control, abandonReads,
    commandEnds_setPath _ _ (by exact ⟨rfl, rfl, rfl⟩)]
  rfl

theorem dropChain_path (x : CardSlot) (s : State) : (dropChain x s).path = (abandonReads s (· == .card x)).path := by
  have told : (dropChain x s).path = ((dropFetch x s).setCard x (orphanErase { (dropFetch x s).card x with
      chain := .none, chainCmd := none, rolloverWait := false })).path := changesOnly_commandEnds _ _ _ .path (by simp)
  rw [told, State.setCard_path, dropFetch_eq, State.setCard_path]

theorem abandonReads_others (lost : Destination → Bool) (h : lost .ignored = false) : ∀ i ∈ (abandonReads s lost).path.inFlight, lost i.dest = false := by
  intro i hi
  obtain ⟨j, -, rfl⟩ := List.mem_map.mp hi
  split
  · exact h
  · rename_i kept
    exact Bool.not_eq_true _ ▸ kept

theorem inFlight_dropChain (x : CardSlot) (s : State) : ∀ i ∈ (dropChain x s).path.inFlight, i.dest ≠ .card x := by
  rw [dropChain_path]
  intro i hi
  exact beq_eq_false_iff_ne.mp (abandonReads_others (· == .card x) rfl i hi)

/-! ### CARD_CHAIN (R52) -/

section

variable (h : EntryHead) (group : Word32)

theorem cardChainOn_busy (hr : (s.card x).request ≠ none) : cardChainOn h group x s = (s, .busy) :=
  if_pos (Option.isSome_iff_ne_none.mpr hr)

theorem cardChainOn_free (hr : (s.card x).request = none) : cardChainOn h group x s =
    if chainTaken (s.card x) then (acceptChain ⟨0x18, h.tag, h.notify⟩ x group.toNat s, .accepted) else (s, .badState) :=
  if_neg (by simp [hr])

end

theorem chainTaken_refused {c : Card} (h : c.state = .active ∨ c.state = .absent ∨ c.state = .probing ∨ c.state = .asleep ∨
    (c.state = .failed ∧ c.identified = false)) : chainTaken c = false := by
  unfold chainTaken
  obtain h | h | h | h | ⟨h, new⟩ := h <;> rw [h]
  exact new

theorem chainTaken_taken {c : Card} (h : c.state = .ready ∨ c.state = .full ∨ c.state = .writeProtected ∨
    (c.state = .failed ∧ c.identified = true)) : chainTaken c = true := by
  unfold chainTaken
  obtain h | h | h | ⟨h, known⟩ := h <;> rw [h]
  exact known

/-- The card that loads a new chain, its first group not asked for yet (R52). -/
def chainBegun (k : Kept) (addr : Nat) (c : Card) : Card := { c with
  chain := .loading, chainCmd := some k, nextGroup := addr, group := [], groupIndex := 0, linkRun := 0, badEnd := false
  walk := .first, lookahead := .unresolved }

theorem acceptChain_eq (k : Kept) (addr : Nat) : acceptChain k x addr s =
    continueErase x (fetchGroup x addr ((dropChain x s).setCard x (chainBegun k addr ((dropChain x s).card x)))) := by
  have asks : walk x 2 ((dropChain x s).setCard x (chainBegun k addr ((dropChain x s).card x))) =
      fetchGroup x addr ((dropChain x s).setCard x (chainBegun k addr ((dropChain x s).card x))) := by
    rw [walk_asks (by rw [State.setCard_card]; simp [chainBegun]) (by rw [State.setCard_card]; rfl) (by rw [State.setCard_card]; rfl),
      State.setCard_card]
    rfl
  unfold acceptChain
  exact congrArg (continueErase x) asks

/-- The card whose first group is asked for, the erase on its link apart (R52, R61). -/
def groupAsked (k : Kept) (r : ReadRequest) (addr : Nat) (c : Card) : Card := { chainBegun k addr c with
  fetchReq := some r, groupAddr := addr, nextGroup := addr + 32 }

theorem acceptChain_card (k : Kept) (addr : Nat) : linkOnly (groupAsked k (presentRead s addr 32) addr ((dropChain x s).card x))
    ((acceptChain k x addr s).card x) := by
  have link := linkOnly_continueErase x (fetchGroup x addr ((dropChain x s).setCard x (chainBegun k addr ((dropChain x s).card x))))
  have queue : presentRead (dropChain x s) addr 32 = presentRead s addr 32 := by
    rw [presentRead, presentRead, unissuedWrites, unissuedWrites, dropChain_path]
    rfl
  rw [fetchGroup, updateCard, setCard_setCard, State.setCard_card, State.setCard_card, presentRead_setCard, queue] at link
  rw [acceptChain_eq, fetchGroup, updateCard, setCard_setCard, State.setCard_card, presentRead_setCard, queue]
  exact link

theorem acceptChain_control (k : Kept) (addr : Nat) : (acceptChain k x addr s).control = (dropChain x s).control := by
  rw [acceptChain_eq, continueErase_control, fetchGroup, updateCard, State.setCard_control, State.setCard_control]

theorem acceptChain_path (k : Kept) (addr : Nat) : (acceptChain k x addr s).path = (dropChain x s).path := by
  rw [acceptChain_eq, continueErase_path, fetchGroup, updateCard, State.setCard_path, State.setCard_path]

theorem changesOnly_acceptChain (k : Kept) (addr : Nat) : changesOnly [.card x, .control, .path] s (acceptChain k x addr s) := by
  rw [acceptChain_eq, fetchGroup, updateCard, setCard_setCard]
  exact changesOnly_trans (changesOnly_trans (changesOnly_mono (by simp) (changesOnly_dropChain x s))
    (changesOnly_mono (by simp) (changesOnly_setCard x _ _))) (changesOnly_mono (by simp) (changesOnly_continueErase x _))

/-! ### CARD_SLEEP (R65) -/

section

variable (h : EntryHead)

theorem cardSleepOn_busy (hr : (s.card x).request ≠ none) : cardSleepOn h x s = (s, .busy) :=
  if_pos (Option.isSome_iff_ne_none.mpr hr)

variable (hr : (s.card x).request = none)

include hr

theorem cardSleepOn_awake (h₁ : (s.card x).state ≠ .ready) (h₂ : (s.card x).state ≠ .full) : cardSleepOn h x s = (s, .badState) :=
  (if_neg (by simp [hr])).trans (if_neg (not_or.mpr ⟨h₁, h₂⟩))

variable (hs : (s.card x).state = .ready ∨ (s.card x).state = .full)

include hs

theorem cardSleepOn_sends (he : (s.card x).erase = none) : cardSleepOn h x s = (sendSleep x s, .ok) :=
  (if_neg (by simp [hr])).trans ((if_pos hs).trans (if_pos (by simp [he])))

theorem cardSleepOn_waits (he : (s.card x).erase ≠ none) : cardSleepOn h x s =
    (continueErase x (s.setCard x { s.card x with request := some (.sleep ⟨0x19, h.tag, h.notify⟩) }), .accepted) :=
  (if_neg (by simp [hr])).trans ((if_pos hs).trans (if_neg (by simp [he])))

end

theorem continueErase_running {e : EraseRecord} (h : (s.card x).erase = some e) (hh : e.held = false) : continueErase x s = s := by
  unfold continueErase
  dsimp only
  rw [h]
  exact if_neg (by simp [hh])

theorem sendSleep_card (hr : (s.card x).request = none) (hs : (s.card x).state = .ready ∨ (s.card x).state = .full) :
    (sendSleep x s).card x = { s.card x with
      state := .asleep, phase := .idle, statusOut := false, issuedOps := [.sleep]
      sleepOrigin := if (s.card x).state = .ready then .ready else .full } := by
  refine (setCardState_card_same x _ _).trans ?_
  rw [State.setCard_card, ← hr]
  rcases hs with hs | hs <;> simp [hs, issue]

theorem changesOnly_sendSleep (x : CardSlot) (s : State) : changesOnly [.card x, .control] s (sendSleep x s) :=
  changesOnly_trans (changesOnly_mono (by simp) (changesOnly_setCard x _ s)) (changesOnly_setCardState x _ _)

/-! ### CARD_WAKE and CARD_EJECT (R66, R67) -/

section

variable (h : EntryHead)

theorem cardWakeOn_awake (hs : (s.card x).state ≠ .asleep) : cardWakeOn h x s = (s, .badState) := if_neg hs

theorem cardWakeOn_waking (hs : (s.card x).state = .asleep) (hp : (s.card x).phase = .wake) : cardWakeOn h x s = (s, .busy) :=
  (if_pos hs).trans (if_pos hp)

theorem cardWakeOn_sends (hs : (s.card x).state = .asleep) (hp : (s.card x).phase ≠ .wake) : cardWakeOn h x s =
    (s.setCard x { s.card x with phase := .wake, wakeCmd := some ⟨0x1A, h.tag, h.notify⟩, issuedOps := [.wake], statusOut := false },
      .accepted) :=
  (if_pos hs).trans (if_neg hp)

theorem cardEjectOn_pending (hr : (s.card x).request ≠ none) : cardEjectOn h x s = (s, .busy) :=
  if_pos (Option.isSome_iff_ne_none.mpr hr)

variable (hr : (s.card x).request = none)

include hr

theorem cardEjectOn_unready (hs : (s.card x).state = .absent ∨ (s.card x).state = .probing) : cardEjectOn h x s = (s, .badState) := by
  refine (if_neg (by simp [hr])).trans ?_
  rcases hs with hs | hs <;> rw [hs]

theorem cardEjectOn_active (hs : (s.card x).state = .active) : cardEjectOn h x s = (s, .busy) := by
  refine (if_neg (by simp [hr])).trans ?_
  rw [hs]

theorem cardEjectOn_waking (hs : (s.card x).state = .asleep) (hp : (s.card x).phase = .wake) : cardEjectOn h x s = (s, .busy) := by
  refine (if_neg (by simp [hr])).trans ?_
  rw [hs]
  exact if_pos hp

theorem cardEjectOn_asleep (hs : (s.card x).state = .asleep) (hp : (s.card x).phase ≠ .wake) : cardEjectOn h x s =
    (updateCard x (fun d => { d with sleepOrigin := .none }) (dropChain x s), .ok) := by
  refine (if_neg (by simp [hr])).trans ?_
  rw [hs]
  exact if_neg hp

variable (hs : (s.card x).state = .ready ∨ (s.card x).state = .full ∨ (s.card x).state = .failed ∨ (s.card x).state = .writeProtected)

include hs

theorem cardEjectOn_sends (he : (s.card x).erase = none) : cardEjectOn h x s = (sendEject x (dropChain x s), .ok) := by
  have free : (s.card x).erase.isNone = true := by rw [he]; rfl
  refine (if_neg (by simp [hr])).trans ?_
  rcases hs with hs | hs | hs | hs <;> rw [hs] <;> exact if_pos free

theorem cardEjectOn_waits (he : (s.card x).erase ≠ none) : cardEjectOn h x s =
    (continueErase x (updateCard x (fun d => { d with request := some (.eject ⟨0x1B, h.tag, h.notify⟩) }) (dropChain x s)), .accepted) := by
  have busy : ¬(s.card x).erase.isNone = true := by simp [he]
  refine (if_neg (by simp [hr])).trans ?_
  rcases hs with hs | hs | hs | hs <;> rw [hs] <;> exact if_neg busy

end

end

/-- Settles O51: each card command is its checks in their order, and then what it does with the chain and the link. -/
theorem cardCommandsAreJudgedByCardState : Obligations.CardCommandsAreJudgedByCardState := by
  unfold Obligations.CardCommandsAreJudgedByCardState
  intro h code group s hret
  refine ⟨fun hc => ⟨?_, ?_, ?_, ?_⟩, fun hg => ?_, fun x hx => ?_⟩
  · exact completesWith_of_body hret rfl (onSlot_none hc _ _)
  · exact completesWith_of_body hret rfl (onSlot_none hc _ _)
  · exact completesWith_of_body hret rfl (onSlot_none hc _ _)
  · exact completesWith_of_body hret rfl (onSlot_none hc _ _)
  · refine completesWith_of_body hret rfl ?_
    unfold onSlot
    split
    · exact if_neg hg
    · rfl
  have named := slotOf_of_mem hx
  have chains {u : State} {r : Result} (hg : group.toNat % 32 = 0) (hb : cardChainOn h group x (afterReturn s) = (u, r)) :
      completesWith (.cardChain h code group) s r u :=
    completesWith_of_body hret rfl ((onSlot_of named _ _).trans ((if_pos hg).trans hb))
  have sleeps {u : State} {r : Result} (hb : cardSleepOn h x (afterReturn s) = (u, r)) : completesWith (.cardSleep h code) s r u :=
    completesWith_of_body hret rfl ((onSlot_of named _ _).trans hb)
  have wakes {u : State} {r : Result} (hb : cardWakeOn h x (afterReturn s) = (u, r)) : completesWith (.cardWake h code) s r u :=
    completesWith_of_body hret rfl ((onSlot_of named _ _).trans hb)
  have ejects {u : State} {r : Result} (hb : cardEjectOn h x (afterReturn s) = (u, r)) : completesWith (.cardEject h code) s r u :=
    completesWith_of_body hret rfl ((onSlot_of named _ _).trans hb)
  intro c set
  have card : (afterReturn s).card x = c := afterReturn_card s x
  have dropped := dropChain_card x (afterReturn s)
  have drops := changesOnly_dropChain x (afterReturn s)
  rw [← card]
  refine ⟨fun hr => ⟨fun hg => chains hg (cardChainOn_busy h group hr), sleeps (cardSleepOn_busy h hr), ejects (cardEjectOn_pending h hr)⟩,
    fun hs => wakes (cardWakeOn_awake h hs), fun hs hp => ⟨wakes (cardWakeOn_waking h hs hp), fun hr => ejects (cardEjectOn_waking h hr hs hp)⟩,
    fun hs hp => wakes (cardWakeOn_sends h hs hp), fun hr => ⟨fun hs hg => ?_, fun h₁ h₂ => sleeps (cardSleepOn_awake h hr h₁ h₂),
      fun hs => ejects (cardEjectOn_unready h hr hs), fun hs => ejects (cardEjectOn_active h hr hs), fun hs hg => ?_,
      fun hs => ⟨fun he => ?_, fun e he hh => ?_⟩,
      fun hs hp => ?_, fun hs => ⟨fun he => ?_, fun he => ?_⟩⟩⟩
  · exact chains hg ((cardChainOn_free h group hr).trans (if_neg (by rw [chainTaken_refused hs]; exact Bool.false_ne_true)))
  · have link := acceptChain_card (x := x) (s := afterReturn s) ⟨0x18, h.tag, h.notify⟩ group.toNat
    rw [linkOnly, dropped] at link
    refine ⟨_, chains hg ((cardChainOn_free h group hr).trans (if_pos (chainTaken_taken hs))), changesOnly_acceptChain _ _, ?_⟩
    rw [acceptChain_control, acceptChain_path, dropChain_control, link]
    refine ⟨rfl, rfl, rfl, rfl, rfl, rfl, rfl, rfl, ?_, ?_, inFlight_dropChain x _⟩
    · cases (afterReturn s).card x |>.chainCmd with
      | none => rfl
      | some k => rw [reports_commandEnds]
    · rw [dropChain_path]
      rfl
  · exact ⟨_, sleeps (cardSleepOn_sends h hr hs he), changesOnly_sendSleep x _, sendSleep_card hr hs⟩
  · have waits := sleeps (cardSleepOn_waits h hr hs (by rw [he]; simp))
    rwa [continueErase_running (by rw [State.setCard_card]; exact he) hh] at waits
  · refine ⟨_, ejects (cardEjectOn_asleep h hr hs hp), ?_⟩
    rw [updateCard_card, dropped]
    exact ⟨hs, rfl, rfl, changesOnly_trans (changesOnly_mono (by simp) drops) (changesOnly_mono (by simp) (changesOnly_updateCard x _ _))⟩
  · refine ⟨_, ejects (cardEjectOn_sends h hr hs he), ?_⟩
    rw [sendEject_card, dropped]
    refine ⟨rfl, rfl, rfl, rfl, fun failed => causePresent_sendEject (by rw [dropped]; exact failed),
      changesOnly_trans (changesOnly_mono (by simp) drops) (changesOnly_mono (by simp) (changesOnly_sendEject x _))⟩
  · have link := linkOnly_continueErase x (updateCard x (fun d => { d with request := some (.eject ⟨0x1B, h.tag, h.notify⟩) })
      (dropChain x (afterReturn s)))
    rw [linkOnly, updateCard_card, dropped] at link
    refine ⟨_, ejects (cardEjectOn_waits h hr hs he), ?_⟩
    rw [link]
    exact ⟨rfl, rfl, rfl, changesOnly_trans (changesOnly_trans (changesOnly_mono (by simp) drops)
      (changesOnly_mono (by simp) (changesOnly_updateCard x _ _))) (changesOnly_mono (by simp) (changesOnly_continueErase x _))⟩

end Sys2Proof.Machine

namespace Sys2Proof.Machine

section

variable {x : CardSlot} {s t u : State} {c : Card} {f : Byte}

/-! ### The clock and the STATUS that has come (R45, R61) -/

/-- The erase record after `dt` µs (R61). -/
def ranFor (dt : Nat) (e : EraseRecord) : EraseRecord := { e with used := if e.held then e.used else e.used + dt }

theorem runningErase_eq (dt : Nat) (c : Card) : runningErase dt c = { c with erase := c.erase.map (ranFor dt) } := by
  unfold runningErase
  split
  · rename_i e he
    split
    · rename_i held
      have still : ranFor dt e = e := by rw [ranFor, if_pos held]
      have same : c.erase.map (ranFor dt) = c.erase := by rw [he, Option.map_some, still]
      rw [same]
    · rename_i runs
      rw [he]
      simp [ranFor, runs]
  · rename_i he
    have same : c.erase.map (ranFor dt) = c.erase := by rw [he]; rfl
    rw [same]

theorem advanceTime_card (dt : Nat) (s : State) (x : CardSlot) : (advanceTime dt s).card x =
    { s.card x with erase := (s.card x).erase.map (ranFor dt) } := by
  have moved : (advanceTime dt s).card x = runningErase dt (s.card x) := by cases x <;> rfl
  rw [moved, runningErase_eq]

theorem statusTaken_card (p : Bool) (dt : Nat) : (statusTaken x p dt s).card x = { s.card x with
    erase := (s.card x).erase.map (ranFor dt), protectInput := p, statusOut := false, holdRefused := false } := by
  rw [statusTaken, State.setCard_card, advanceTime_card]

theorem statusResponse_taken (h : (s.card x).statusOut = true) (response : List Byte) (p : Bool) (dt : Nat) :
    statusResponse x response p dt s = statusSeen x (statusFlags response) (statusTaken x p dt s) := by
  refine (if_pos h).trans ?_
  dsimp only
  rw [withProtect, updateCard, updateCard, setCard_setCard, State.setCard_card]
  rfl

theorem issue_of_statusOut {ops : List CardOp} (h : (ops.getLast? == some .status) = c.statusOut) : issue ops c = { c with issuedOps := ops } := by
  rw [issue, h]

/-! ### Polls (R45, R60) -/

/-- A STATUS may be polled for what is outstanding on the link (R45). -/
def pollAllowed (c : Card) : Prop :=
  c.phase = .pageWrite ∨ c.phase = .wake ∨ c.phase = .drainPage ∨ c.phase = .drainWake ∨
    (c.phase = .idle ∧ ∃ e, c.erase = some e ∧ e.held = false)

theorem pollDue_iff : pollDue c = true ↔ c.statusOut = false ∧ pollAllowed c := by
  unfold pollDue pollAllowed
  rw [← eraseRunning_iff, Bool.and_eq_true, Bool.not_eq_true']
  refine and_congr_right fun _ => ?_
  cases c.phase <;> simp

theorem holdDue_iff : holdDue x s = true ↔ (s.card x).state = .active ∧
    (∃ e, (s.card x).erase = some e ∧ e.held = false ∧ some e.au ≠ (s.card x).au) ∧
    6 ≤ pagesAwaiting s x ∧ ∀ t, (s.card x).lastContinue = some t → t + 1000 ≤ s.now := by
  have backlog : (6 : Nat) = Config.holdBacklog := rfl
  have spacing : (1000 : Nat) = Config.holdSpacing := rfl
  unfold holdDue eraseRunning erasesCurrent
  dsimp only
  rw [backlog, spacing]
  cases (s.card x).erase <;> cases (s.card x).lastContinue <;> simp [and_assoc]

/-! ### What a STATUS response is read for (R45) -/

theorem statusSeen_unlockPage (h : (s.card x).phase = .unlockPage) : statusSeen x f s = unlockPageSeen x f s := by rw [statusSeen, h]

theorem statusSeen_unlockErase {role : EraseRole} (h : (s.card x).phase = .unlockErase role) : statusSeen x f s = unlockEraseSeen x f s := by
  rw [statusSeen, h]

theorem statusSeen_pageWrite (h : (s.card x).phase = .pageWrite) : statusSeen x f s = pageSeen x f s := by rw [statusSeen, h]

theorem statusSeen_erase (h : (s.card x).phase = .idle) (hr : eraseRunning (s.card x) = true) : statusSeen x f s = eraseSeen x f s := by
  rw [statusSeen, h]
  exact if_pos hr

theorem statusSeen_hold (h : (s.card x).phase = .holdCheck) : statusSeen x f s = holdSeen x f s := by rw [statusSeen, h]

theorem statusSeen_continue (h : (s.card x).phase = .continueCheck) : statusSeen x f s = continueSeen x f s := by rw [statusSeen, h]

theorem statusSeen_wake (h : (s.card x).phase = .wake) : statusSeen x f s = if statusBusy f then s else wakeDone x s := by
  rw [statusSeen, h]

/-! ### After UNLOCK (R57, R62, R63) -/

theorem unlockPageSeen_writes {n : Word16} {page : PageRecord} (hf : statusUnlocked f = true) (hn : (s.card x).au = some n)
    (hp : s.clip.pages.find? (awaits x) = some page) : unlockPageSeen x f s =
      s.setCard x { issue [.pageWrite n (s.card x).pageIndex page.content] (s.card x) with phase := .pageWrite } := by
  unfold unlockPageSeen
  dsimp only
  rw [if_pos hf]
  split
  · rename_i q m hq hm
    cases hq.symm.trans hp
    cases hm.symm.trans hn
    rfl
  · rename_i other
    exact absurd hn (other page n hp)

theorem unlockEraseSeen_due {role : EraseRole} {n : Word16} (hf : statusUnlocked f = true) (hd : eraseDue (s.card x) = some (role, n)) :
    unlockEraseSeen x f s = s.setCard x (issueErase role n (s.card x)) := by
  unfold unlockEraseSeen
  dsimp only
  rw [if_pos hf, hd]

theorem unlockSeen_refused (hf : statusUnlocked f = false) (hp : (s.card x).phase = .unlockPage ∨ ∃ role, (s.card x).phase = .unlockErase role) :
    statusSeen x f s = unlockRefused x s := by
  have locked : ¬statusUnlocked f = true := by simp [hf]
  obtain hp | ⟨role, hp⟩ := hp
  · rw [statusSeen_unlockPage hp]
    exact if_neg locked
  · rw [statusSeen_unlockErase hp]
    exact if_neg locked

theorem continueErase_none (h : (s.card x).erase = none) : continueErase x s = s := by
  unfold continueErase
  dsimp only
  rw [h]

theorem unlockRefused_protected (hp : (s.card x).protectInput = true) (he : (s.card x).erase = none) :
    (unlockRefused x s).card x = { s.card x with phase := .idle, state := .writeProtected } := by
  have told : (setCardState x .writeProtected (s.setCard x { s.card x with phase := .idle })).card x =
      { s.card x with phase := .idle, state := .writeProtected } := by rw [setCardState_card_same, State.setCard_card]
  unfold unlockRefused
  dsimp only
  rw [if_pos hp]
  split
  · have lost := (cardLost_card (by rw [told]; exact CardState.noConfusion)).trans told
    rw [continueErase_none (by rw [lost]; exact he), lost]
  · rw [continueErase_none (by rw [told]; exact he), told]

theorem unlockRefused_fails (hp : (s.card x).protectInput = false) : unlockRefused x s = failCard x s := if_neg (by simp [hp])

theorem eraseAllowed_taken (h : eraseAllowed (s.card x)) (p : Bool) (dt : Nat) : eraseAllowed ((statusTaken x p dt s).card x) := by
  obtain ⟨chain, request, state, erase⟩ := h
  rw [statusTaken_card]
  exact ⟨chain, request, state, by rw [erase]; rfl⟩

theorem currentDue_taken {n : Word16} (h : currentDue (s.card x) n) (p : Bool) (dt : Nat) : currentDue ((statusTaken x p dt s).card x) n := by
  obtain ⟨allowed, rest⟩ := h
  refine ⟨eraseAllowed_taken allowed p dt, ?_⟩
  rw [statusTaken_card]
  exact rest

theorem lookaheadDue_taken {m : Word16} (h : lookaheadDue (s.card x) m) (p : Bool) (dt : Nat) :
    lookaheadDue ((statusTaken x p dt s).card x) m := by
  obtain ⟨allowed, rest⟩ := h
  refine ⟨eraseAllowed_taken allowed p dt, ?_⟩
  rw [statusTaken_card]
  exact rest

/-! ### The page that has been written (R37, R61, R62) -/

theorem markFirst_append {mark : PageRecord → PageRecord} {pre post : List PageRecord} {page : PageRecord}
    (hpre : ∀ q ∈ pre, awaits x q = false) (h : awaits x page = true) : markFirst x mark (pre ++ page :: post) = pre ++ mark page :: post := by
  induction pre with
  | nil => exact if_pos h
  | cons q pre ih =>
    refine (if_neg (by simp [hpre q (by simp)])).trans ?_
    exact congrArg (q :: ·) (ih fun r hr => hpre r (by simp [hr]))

/-- The queue once the page `page`, the first that awaits the card, is reported as written (R37). -/
def pagesReported (x : CardSlot) (pre : List PageRecord) (page : PageRecord) (post : List PageRecord) : List PageRecord :=
  pre ++ if pageDone (markWritten x page) then post else markWritten x page :: post

/-- The first page that awaits the card has been written, and counts on its AU (R37, R62). -/
def pageCounted (x : CardSlot) (pages : List PageRecord) (s : State) : State :=
  (s.setCard x { s.card x with phase := .idle, pageIndex := (s.card x).pageIndex + 1 }).setClip { s.clip with pages := pages }

theorem pageCounted_card (pages : List PageRecord) : (pageCounted x pages s).card x =
    { s.card x with phase := .idle, pageIndex := (s.card x).pageIndex + 1 } :=
  (State.setClip_card _ _ _).trans (State.setCard_card _ _ _)

theorem pageCounted_now (pages : List PageRecord) : (pageCounted x pages s).now = s.now := State.setCard_now _ _ _

theorem setClip_setCard (cl : Clip) (v : Card) : (s.setClip cl).setCard x v = (s.setCard x v).setClip cl := by cases x <;> rfl

theorem pageCounted_setCard (pages : List PageRecord) (v : Card) : (pageCounted x pages s).setCard x v =
    (s.setCard x v).setClip { s.clip with pages := pages } := by
  rw [pageCounted, setClip_setCard, setCard_setCard]

/-- The first page that awaits the card stands behind `pre` and before `post`, and no page of the queue is done. -/
structure pageAwaited (x : CardSlot) (s : State) (pre : List PageRecord) (page : PageRecord) (post : List PageRecord) : Prop where
  pages : s.clip.pages = pre ++ page :: post
  before : ∀ q ∈ pre, awaits x q = false
  waits : awaits x page = true
  undone : ∀ q ∈ s.clip.pages, pageDone q = false

section

variable {pre post : List PageRecord} {page : PageRecord}

theorem pageReport_counted (h : pageAwaited x s pre page post) :
    pageReport x (markWritten x) (s.setCard x { s.card x with phase := .idle, pageIndex := (s.card x).pageIndex + 1 }) =
      pageCounted x (pagesReported x pre page post) s := by
  obtain ⟨pages, before, waits, undone⟩ := h
  rw [pages] at undone
  have kept {l : List PageRecord} (hl : ∀ q ∈ l, q ∈ pre ++ page :: post) : l.filter (fun q => !pageDone q) = l :=
    List.filter_eq_self.mpr fun q hq => by simp [undone q (hl q hq)]
  have left : (pre ++ markWritten x page :: post).filter (fun q => !pageDone q) = pagesReported x pre page post := by
    rw [List.filter_append, List.filter_cons, kept fun q hq => List.mem_append_left _ hq,
      kept fun q hq => List.mem_append_right _ (List.mem_cons_of_mem _ hq), pagesReported]
    cases pageDone (markWritten x page) <;> rfl
  unfold pageReport
  rw [State.setCard_clip, pages, markFirst_append before waits]
  exact congrArg (fun l => (s.setCard x _).setClip { s.clip with pages := l }) left

theorem releaseDrained_recording (h : s.clip.state ≠ .idle) : releaseDrained s = s := by
  have kept (y : CardSlot) : releaseDrainedCard y s = s := if_neg fun k => h k.1
  rw [releaseDrained, kept, kept]

theorem pageWritten_goesOn (h : pageAwaited x s pre page post) (hp : (s.card x).pageIndex ≠ 1023) (hrec : s.clip.state ≠ .idle) :
    pageWritten x s = afterPage x (pageCounted x (pagesReported x pre page post) s) := by
  unfold pageWritten
  dsimp only
  rw [pageReport_counted h, if_neg (by simp only [Config.auPages]; omega)]
  refine releaseDrained_recording ?_
  unfold afterPage
  split
  · rw [continueErase_clip]
    exact hrec
  · exact hrec

theorem pageWritten_turns (h : pageAwaited x s pre page post) (hp : (s.card x).pageIndex = 1023) :
    pageWritten x s = releaseDrained (rollover x (afterPage x (pageCounted x (pagesReported x pre page post) s))) := by
  unfold pageWritten
  dsimp only
  rw [pageReport_counted h, if_pos (by simp only [Config.auPages]; omega)]

end

theorem pageSeen_busy (hf : statusBusy f = true) : pageSeen x f s = s := if_pos hf

theorem pageSeen_fails (hb : statusBusy f = false) (hf : statusErr f = true) : pageSeen x f s = failCard x s :=
  (if_neg (by simp [hb])).trans (if_pos hf)

theorem pageSeen_written (hb : statusBusy f = false) (hf : statusErr f = false) : pageSeen x f s = pageWritten x s :=
  (if_neg (by simp [hb])).trans (if_neg (by simp [hf]))

theorem afterPage_none (h : (s.card x).erase = none) : afterPage x s = s := by
  unfold afterPage
  split
  · exact continueErase_none h
  · rfl

theorem afterPage_many (h : 2 < pagesAwaiting s x) : afterPage x s = s :=
  if_neg fun k => Nat.not_le.mpr h k.1

theorem continueErase_held {e : EraseRecord} (he : (s.card x).erase = some e) (hh : e.held = true) (hp : (s.card x).phase = .idle)
    (hs : (s.card x).state ≠ .probing) : continueErase x s = s.setCard x { s.card x with
      phase := .continueCheck, statusOut := true, issuedOps := [.eraseContinue, .status], lastContinue := some s.now } := by
  unfold continueErase
  dsimp only
  rw [if_neg hs]
  split
  · rename_i r found
    cases found.symm.trans he
    exact if_pos ⟨hh, hp⟩
  · rename_i found
    cases found.symm.trans he

theorem afterPage_few (h : pagesAwaiting s x ≤ 2) (hp : (s.card x).phase = .idle) : afterPage x s = continueErase x s := if_pos ⟨h, hp⟩

end

end Sys2Proof.Machine

namespace Sys2Proof.Machine

section

variable {x : CardSlot} {s t u : State} {c : Card} {f : Byte} {e : EraseRecord}

/-! ### The end of an erase (R57, R59) -/

/-- The card whose erase record has just emptied (R57). -/
def eraseOver (c : Card) : Card := { c with erase := none, phase := .idle, holdRefused := false }

theorem eraseOver_of_held (h : c.holdRefused = false) : eraseOver c = { c with phase := .idle, erase := none } := by
  rw [eraseOver, ← h]

theorem eraseOver_of_idle (hp : c.phase = .idle) (h : c.holdRefused = false) : eraseOver c = { c with erase := none } := by
  rw [eraseOver_of_held h, ← hp]

theorem eraseEnds_eq (err : Bool) (h : (s.card x).erase = some e) :
    eraseEnds x err s = afterErase x (eraseOutcome x e err (s.setCard x (eraseOver (s.card x)))) := by
  unfold eraseEnds
  dsimp only
  split
  · rename_i r found
    cases found.symm.trans h
    rfl
  · rename_i found
    cases found.symm.trans h

theorem afterErase_rests (hs : (s.card x).state ≠ .probing) (hr : (s.card x).request = none) : afterErase x s = s :=
  (if_neg hs).trans (runRequest_none hr)

/-- The card whose erase has ended well (R59). -/
def erasedWell (e : EraseRecord) (c : Card) : Card :=
  match e.role with
  | .current => { c with eraseState := .erased }
  | .lookahead => { c with lookahead := .au e.au .erased }
  | .orphan => c

theorem erasedWell_current (h : e.role = .current) : erasedWell e c = { c with eraseState := .erased } := by rw [erasedWell, h]

theorem erasedWell_lookahead (h : e.role = .lookahead) : erasedWell e c = { c with lookahead := .au e.au .erased } := by rw [erasedWell, h]

theorem erasedWell_orphan (h : e.role = .orphan) : erasedWell e c = c := by rw [erasedWell, h]

theorem erasedWell_state (e : EraseRecord) (c : Card) : (erasedWell e c).state = c.state := by
  unfold erasedWell
  split <;> rfl

theorem erasedWell_request (e : EraseRecord) (c : Card) : (erasedWell e c).request = c.request := by
  unfold erasedWell
  split <;> rfl

theorem eraseOutcome_good : eraseOutcome x e false s = s.setCard x (erasedWell e (s.card x)) := by
  unfold eraseOutcome erasedWell
  split
  · rename_i orphan
    rw [orphan]
    exact (setCard_self x s).symm
  · rename_i current _
    rw [current]
    rfl
  · rename_i ahead _
    rw [ahead]
    rfl
  · rename_i bad
    cases bad
  · rename_i bad
    cases bad

section

variable (he : (s.card x).erase = some e) (hs : (s.card x).state ≠ .probing) (hr : (s.card x).request = none)

include he hs hr

theorem eraseEnds_good : eraseEnds x false s = s.setCard x (erasedWell e (eraseOver (s.card x))) := by
  rw [eraseEnds_eq false he, eraseOutcome_good, State.setCard_card, setCard_setCard]
  refine afterErase_rests ?_ ?_
  · rw [State.setCard_card, erasedWell_state]
    exact hs
  · rw [State.setCard_card, erasedWell_request]
    exact hr

end

/-! ### An erase that ends with ERR (R56, R59) -/

/-- The erase of the AU `au` has ended with ERR, and its AU_BAD pends (R59, R193). -/
def badCounted (x : CardSlot) (au : Word16) (s : State) : State := auBad x au (s.setCard x (eraseOver (s.card x)))

theorem badCounted_card {au : Word16} (h : 64 ≤ unread s) :
    (badCounted x au s).card x = { eraseOver (s.card x) with badAus := saturatingSucc (s.card x).badAus } := by
  have full (v : Card) : 64 ≤ unread (s.setCard x v) := by rwa [unread, State.setCard_control, State.setCard_path]
  rw [badCounted, auBad, updateCard, setCard_setCard, State.setCard_card, postNotice_of_full (full _), State.setControl_card, State.setCard_card]
  rfl

theorem badCounted_pends (x : CardSlot) (au : Word16) (s : State) : noticePends (.auBad x au) s (badCounted x au s) :=
  noticePends_postNotice ((postsOnly_setCard x _ s).trans (postsOnly_setCard x _ _)) _

theorem eraseEnds_badLookahead (he : (s.card x).erase = some e) (hl : e.role = .lookahead) :
    eraseEnds x true s = afterErase x (resolveLookahead x (badCounted x e.au s)) := by
  have bad (v : State) : eraseOutcome x e true v = resolveLookahead x (auBad x e.au v) := by
    unfold eraseOutcome
    rw [hl]
  rw [eraseEnds_eq true he, bad]
  rfl

/-- The bad current AU is left behind: its page index is the end of an AU (R56, R59). -/
def badLeft (x : CardSlot) (au : Word16) (s : State) : State :=
  (badCounted x au s).setCard x { (badCounted x au s).card x with pageIndex := 1024 }

theorem badLeft_card {au : Word16} (h : 64 ≤ unread s) : (badLeft x au s).card x =
    { eraseOver (s.card x) with badAus := saturatingSucc (s.card x).badAus, pageIndex := 1024 } := by
  rw [badLeft, State.setCard_card, badCounted_card h]

theorem eraseEnds_badCurrent (he : (s.card x).erase = some e) (hc : e.role = .current) :
    eraseEnds x true s = afterErase x (rollover x (badLeft x e.au s)) := by
  have bad (v : State) : eraseOutcome x e true v =
      rollover x (updateCard x (fun c => { c with pageIndex := Config.auPages }) (auBad x e.au v)) := by
    unfold eraseOutcome
    rw [hc]
  rw [eraseEnds_eq true he, bad]
  rfl

/-- What a rollover keeps of a card without an erase, wherever it leads (R56). -/
structure rolloverKept (x : CardSlot) (s t : State) : Prop where
  erase : (t.card x).erase = none
  badAus : (t.card x).badAus = (s.card x).badAus
  request : (t.card x).request = (s.card x).request
  probes : (s.card x).state ≠ .probing → (t.card x).state ≠ .probing
  posts : ∃ l, postsOnly l s t ∧ badPlace x ∉ l

theorem rolloverKept_rollover (he : (s.card x).erase = none) : rolloverKept x s (rollover x s) := by
  cases hl : (s.card x).lookahead with
  | au n e =>
    obtain ⟨card, -, probes, -, posts⟩ := rolledOver_rollover hl
    rw [walkOrLink] at card
    exact ⟨by rw [card, rolledCard, rolledErase, he]; rfl, by rw [card]; rfl, by rw [card]; rfl, probes, posts⟩
  | theEnd =>
    have card := rollover_end_card hl
    rw [linkOnly] at card
    exact ⟨by rw [card]; exact he, by rw [card], by rw [card], fun _ => by rw [card]; exact CardState.noConfusion, postsOnly_rollover_end hl⟩
  | unresolved =>
    rw [rollover_unresolved hl]
    exact ⟨by rw [State.setCard_card]; exact he, by rw [State.setCard_card], by rw [State.setCard_card], fun hs => by rwa [State.setCard_card],
      [], postsOnly_setCard x _ s, by simp⟩

/-! ### A rollover that asks for the next group (R53, R55) -/

theorem rollover_asks {n : Word16} {e : EraseState} (h : (s.card x).lookahead = .au n e) (he : (s.card x).erase = none)
    (hb : (s.card x).badEnd = false) (hg : (s.card x).groupIndex = (s.card x).group.length) :
    rollover x s = s.setCard x { s.card x with
      au := some n, pageIndex := 0, eraseState := e, rolloverWait := false, lookahead := .unresolved, walk := .lookahead
      fetchReq := some ⟨(s.card x).nextGroup, 32, unissuedWrites s⟩, groupAddr := (s.card x).nextGroup
      nextGroup := (s.card x).nextGroup + 32, group := [], groupIndex := 0 } := by
  have still : rolledErase (s.card x) = (s.card x).erase := by rw [rolledErase, he]; rfl
  have asks : resolveLookahead x (s.setCard x (rolledCard n e (s.card x))) = fetchGroup x (s.card x).nextGroup (s.setCard x
      { rolledCard n e (s.card x) with lookahead := .unresolved, walk := .lookahead }) := by
    unfold resolveLookahead
    rw [updateCard, setCard_setCard, State.setCard_card, walk_asks (by rw [State.setCard_card]; simp) (by rw [State.setCard_card]; exact hb)
      (by rw [State.setCard_card]; exact List.getElem?_eq_none (Nat.le_of_eq hg.symm)), State.setCard_card]
    rfl
  rw [rollover_au h, still, if_neg (by simp [he]), asks, fetchGroup, updateCard, setCard_setCard, State.setCard_card, presentRead_setCard,
    rolledCard, still]
  rfl

/-! ### Holding an erase and letting it go on (R59, R60, R61) -/

theorem eraseSeen_busy (hb : statusBusy f = true) (hs : (s.card x).state ≠ .active) : eraseSeen x f s = s := by
  refine (if_pos hb).trans (if_neg fun due => ?_)
  exact hs (holdDue_iff.mp due).1

theorem eraseSeen_ends (hb : statusBusy f = false) (hh : statusHeld f = false) : eraseSeen x f s = eraseEnds x (statusErr f) s :=
  (if_neg (by simp [hb])).trans (if_neg (by simp [hh]))

theorem heldNow_holds (he : (s.card x).erase = some e) (ha : some e.au ≠ (s.card x).au) (hs : (s.card x).state = .active)
    (hr : (s.card x).request = none) : heldNow x s =
      s.setCard x { s.card x with phase := .idle, erase := (s.card x).erase.map fun r => { r with held := true } } := by
  unfold heldNow
  dsimp only
  rw [updateCard, State.setCard_card]
  refine if_pos ⟨hs, hr, ?_⟩
  rw [← Bool.not_eq_true, erasesCurrent_iff]
  rintro ⟨r, hr, ha'⟩
  rw [he] at hr
  cases hr
  exact ha ha'

theorem holdSeen_held (hf : statusHeld f = true) : holdSeen x f s = heldNow x s := if_pos hf

theorem holdSeen_refused (hf : statusHeld f = false) (hb : statusBusy f = true) :
    holdSeen x f s = s.setCard x { s.card x with phase := .idle, holdRefused := true } :=
  (if_neg (by simp [hf])).trans (if_pos hb)

/-- The card whose erase runs again (R61). -/
def eraseLetGo (c : Card) : Card := { c with phase := .idle, erase := c.erase.map fun r => { r with held := false } }

theorem continueSeen_runs (hf : statusBusy f = true ∨ statusHeld f = true) : continueSeen x f s = s.setCard x (eraseLetGo (s.card x)) :=
  if_pos (by simpa using hf)

theorem continueSeen_ends (hb : statusBusy f = false) (hh : statusHeld f = false) :
    continueSeen x f s = eraseEnds x (statusErr f) (s.setCard x (eraseLetGo (s.card x))) :=
  if_neg (by simp [hb, hh])

/-! ### The end of a WAKE (R66) -/

section

variable {k : Kept} (hk : (s.card x).wakeCmd = some k) (hs : (s.card x).state = .asleep)

include hk hs

theorem wakeDone_rests {new : CardState} (ho : ((s.card x).sleepOrigin = .ready ∧ new = .ready) ∨ ((s.card x).sleepOrigin = .full ∧ new = .full)) :
    wakeDone x s = commandDone k .ok (postNotice (.cardState x new .asleep (s.card x).au (s.card x).pageIndex none)
      (s.setCard x { s.card x with phase := .idle, state := new, wakeCmd := none })) := by
  unfold wakeDone
  dsimp only
  rw [hk, reports_commandEnds]
  obtain ⟨ho, rfl⟩ | ⟨ho, rfl⟩ := ho
  · split <;> rename_i origin <;> cases origin.symm.trans ho
    exact congrArg _ (setCardState_setCard hs CardState.noConfusion CardState.noConfusion)
  · split <;> rename_i origin <;> cases origin.symm.trans ho
    exact congrArg _ (setCardState_setCard hs CardState.noConfusion CardState.noConfusion)

theorem wakeDone_probes (ho : (s.card x).sleepOrigin = .none) (hq : (s.card x).statusOut = false) : wakeDone x s = commandDone k .ok
    (postNotice (.cardState x .probing .asleep (s.card x).au (s.card x).pageIndex none)
      (s.setCard x { s.card x with phase := .ident, issuedOps := [.ident], state := .probing, wakeCmd := none })) := by
  have probe : startIdent { s.card x with phase := .idle, wakeCmd := none } =
      { s.card x with phase := .ident, issuedOps := [.ident], wakeCmd := none } := by
    rw [startIdent, issue_of_statusOut (by exact hq.symm)]
  unfold wakeDone
  dsimp only
  rw [hk, reports_commandEnds, probe]
  split <;> rename_i origin <;> cases origin.symm.trans ho
  exact congrArg _ (setCardState_setCard hs CardState.noConfusion CardState.noConfusion)

end

end

end Sys2Proof.Machine

namespace Sys2Proof.Machine

section

variable {x : CardSlot} {s t u : State} {c : Card} {f : Byte} {n : Word16} {e : EraseRecord} {dt : Nat}

/-! ### A poll, with ERASE_HOLD ahead of it or alone (R45, R60) -/

/-- ERASE_HOLD is due at a poll `dt` µs on (R60). -/
def holdAhead (x : CardSlot) (dt : Nat) (s : State) : Prop :=
  let c := s.card x
  ∃ e, c.erase = some e ∧ e.held = false ∧ c.phase = .idle ∧ c.state = .active ∧ some e.au ≠ c.au ∧
    6 ≤ pagesAwaiting s x ∧ c.holdRefused = false ∧ (∀ t, c.lastContinue = some t → t + 1000 ≤ s.now + dt)

theorem holdAhead_iff : ((s.card x).phase = .idle ∧ holdDue x (advanceTime dt s) = true ∧ (s.card x).holdRefused = false) ↔ holdAhead x dt s := by
  rw [holdDue_iff, advanceTime_card]
  constructor
  · rintro ⟨idle, ⟨active, ⟨r, hr, runs, other⟩, many, spaced⟩, fresh⟩
    obtain ⟨e, he, rfl⟩ := Option.map_eq_some_iff.mp hr
    exact ⟨e, he, runs, idle, active, other, many, fresh, spaced⟩
  · rintro ⟨e, he, runs, idle, active, other, many, fresh, spaced⟩
    exact ⟨idle, ⟨active, ⟨ranFor dt e, Option.map_eq_some_iff.mpr ⟨e, he, rfl⟩, runs, other⟩, many, spaced⟩, fresh⟩

theorem statusPoll_still (h : (s.card x).statusOut = true ∨ ¬pollAllowed (s.card x)) : statusPoll x dt s = s := by
  refine if_neg fun due => ?_
  obtain ⟨quiet, allowed⟩ := pollDue_iff.mp due
  rcases h with h | h
  · rw [h] at quiet
    cases quiet
  · exact h allowed

theorem statusPoll_asks (hq : (s.card x).statusOut = false) (hp : pollAllowed (s.card x)) (hh : ¬holdAhead x dt s) :
    statusPoll x dt s = (advanceTime dt s).setCard x
      { (advanceTime dt s).card x with issuedOps := [.status], statusOut := true, holdRefused := false } :=
  (if_pos (pollDue_iff.mpr ⟨hq, hp⟩)).trans (if_neg fun k => hh (holdAhead_iff.mp k))

theorem statusPoll_holds (hq : (s.card x).statusOut = false) (hh : holdAhead x dt s) : statusPoll x dt s = (advanceTime dt s).setCard x
    { (advanceTime dt s).card x with
      issuedOps := [.eraseHold, .status], statusOut := true, phase := .holdCheck, holdRefused := false } := by
  have running : ∃ e, (s.card x).erase = some e ∧ e.held = false := by
    obtain ⟨e, he, runs, -⟩ := hh
    exact ⟨e, he, runs⟩
  have due := holdAhead_iff.mpr hh
  exact (if_pos (pollDue_iff.mpr ⟨hq, .inr (.inr (.inr (.inr ⟨due.1, running⟩)))⟩)).trans (if_pos due)

/-! ### Operations that follow a STATUS (R57, R62) -/

theorem issueErase_current (h : c.statusOut = false) : issueErase .current n c =
    { c with phase := .idle, issuedOps := [.auErase n], erase := some ⟨n, .current, false, 0⟩, eraseState := .erasing } := by
  unfold issueErase
  dsimp only
  rw [issue_of_statusOut (by exact h.symm)]

theorem issueErase_lookahead (h : c.statusOut = false) : issueErase .lookahead n c =
    { c with phase := .idle, issuedOps := [.auErase n], erase := some ⟨n, .lookahead, false, 0⟩, lookahead := .au n .erasing } := by
  rw [issueErase, issue_of_statusOut (by exact h.symm)]

section

variable {pre post : List PageRecord} {page : PageRecord}

theorem pageWritten_plain (h : pageAwaited x s pre page post) (hp : (s.card x).pageIndex ≠ 1023) (hrec : s.clip.state ≠ .idle)
    (he : (s.card x).erase = none ∨ 2 < ((pagesReported x pre page post).filter (awaits x)).length) :
    pageWritten x s = pageCounted x (pagesReported x pre page post) s := by
  rw [pageWritten_goesOn h hp hrec]
  rcases he with he | he
  · exact afterPage_none (by rw [pageCounted_card]; exact he)
  · exact afterPage_many he

/-- The card whose page has been written at `now`, a held erase going on behind it (R61, R62). -/
def pageThenContinue (now : Nat) (c : Card) : Card := { c with
  phase := .continueCheck, pageIndex := c.pageIndex + 1, issuedOps := [.eraseContinue, .status], statusOut := true, lastContinue := some now }

theorem afterPage_counted {pages : List PageRecord} (he : (s.card x).erase = some e) (hh : e.held = true) (hs : (s.card x).state ≠ .probing)
    (few : (pages.filter (awaits x)).length ≤ 2) : afterPage x (pageCounted x pages s) =
      (s.setCard x (pageThenContinue s.now (s.card x))).setClip { s.clip with pages := pages } := by
  have card := pageCounted_card (x := x) (s := s) pages
  have waiting : pagesAwaiting (pageCounted x pages s) x ≤ 2 := few
  rw [afterPage_few waiting (by rw [card]), continueErase_held (e := e) (by rw [card]; exact he) hh (by rw [card]) (by rw [card]; exact hs), card,
    pageCounted_now, pageCounted_setCard]
  rfl

end

/-- A rollover onto the AU of a held erase lets the erase go on, unless it goes on already (R56, R61). -/
theorem rollover_continues {r : EraseState} (hl : (s.card x).lookahead = .au e.au r) (he : (s.card x).erase = some e) (hh : e.held = true)
    (hs : (s.card x).state ≠ .probing) (hp : (s.card x).phase = .idle ∨ ((s.card x).phase = .continueCheck ∧
      (s.card x).issuedOps = [.eraseContinue, .status] ∧ (s.card x).statusOut = true ∧ (s.card x).lastContinue = some s.now)) :
    ((rollover x s).card x).phase = .continueCheck ∧ ((rollover x s).card x).issuedOps = [.eraseContinue, .status] ∧
      ((rollover x s).card x).statusOut = true ∧ ((rollover x s).card x).lastContinue = some s.now := by
  have erased : rolledErase (s.card x) = some (if e.role = .lookahead then { e with role := .current } else e) := by
    rw [rolledErase, he]
    rfl
  have same : (rolledErase (s.card x)).map EraseRecord.au = some e.au := by
    rw [erased]
    by_cases role : e.role = .lookahead <;> simp [role]
  rw [rollover_au hl, if_pos same]
  have walked := lookaheadWalked_resolveLookahead (x := x) (s := s.setCard x (rolledCard e.au r (s.card x)))
  generalize resolveLookahead x (s.setCard x (rolledCard e.au r (s.card x))) = v at walked
  obtain ⟨card, -, probes, parts, -⟩ := walked
  have now : v.now = s.now := (parts .now (by simp)).trans (State.setCard_now _ _ _)
  rw [State.setCard_card] at card probes
  rw [walkOnly] at card
  rcases hp with hp | ⟨hp, ops, out, last⟩
  · have held : (if e.role = .lookahead then { e with role := .current } else e).held = true := by split <;> exact hh
    rw [continueErase_held (by rw [card]; exact erased) held (by rw [card]; exact hp) (probes hs), State.setCard_card, now]
    exact ⟨rfl, rfl, rfl, rfl⟩
  · have link : continueErase x v = v := by
      have busy : (v.card x).phase ≠ .idle := by
        rw [card]
        show (s.card x).phase ≠ _
        rw [hp]
        exact CardPhase.noConfusion
      unfold continueErase
      dsimp only
      split
      · exact if_neg fun k => busy k.2
      · rfl
    rw [link, card]
    exact ⟨hp, ops, out, last⟩

end

end Sys2Proof.Machine

namespace Sys2Proof.Machine

section

variable {x : CardSlot} {s t u v : State} {c : Card} {f : Byte} {n : Word16} {e : EraseRecord}

/-! ### The page after which the AU turns (R55, R56, R61, R62) -/

/-- The turn of the AU onto that of a held erase (R56, R61). -/
theorem turn_continues {r : EraseState} (hl : (s.card x).lookahead = .au e.au r) (he : (s.card x).erase = some e) (hh : e.held = true)
    (hs : (s.card x).state ≠ .probing) (hrec : s.clip.state ≠ .idle) (hp : (s.card x).phase = .idle ∨ ((s.card x).phase = .continueCheck ∧
      (s.card x).issuedOps = [.eraseContinue, .status] ∧ (s.card x).statusOut = true ∧ (s.card x).lastContinue = some s.now)) :
    let d := (releaseDrained (rollover x s)).card x
    d.au = some e.au ∧ d.pageIndex = 0 ∧ d.phase = .continueCheck ∧ d.issuedOps = [.eraseContinue, .status] ∧ d.statusOut = true ∧
      d.lastContinue = some s.now ∧ d.erase = some { e with role := if e.role = .lookahead then .current else e.role } := by
  obtain ⟨card, -, -, parts, -⟩ := rolledOver_rollover hl
  have clip : (rollover x s).clip = s.clip := parts .clip (by simp)
  obtain ⟨phase, ops, out, last⟩ := rollover_continues hl he hh hs hp
  rw [releaseDrained_recording (by rwa [clip])]
  refine ⟨?_, ?_, phase, ops, out, last, ?_⟩
  · rw [card]
    rfl
  · rw [card]
    rfl
  · rw [card]
    show rolledErase (s.card x) = _
    rw [rolledErase, he, Option.map_some]
    split <;> rfl

theorem pageWritten_continues {pre post : List PageRecord} {page : PageRecord} {r : EraseState} (h : pageAwaited x s pre page post)
    (hp : (s.card x).pageIndex = 1023) (hrec : s.clip.state ≠ .idle) (he : (s.card x).erase = some e) (hh : e.held = true)
    (hs : (s.card x).state ≠ .probing) (hl : (s.card x).lookahead = .au e.au r) :
    let d := (pageWritten x s).card x
    d.au = some e.au ∧ d.pageIndex = 0 ∧ d.phase = .continueCheck ∧ d.issuedOps = [.eraseContinue, .status] ∧ d.statusOut = true ∧
      d.lastContinue = some s.now ∧ d.erase = some { e with role := if e.role = .lookahead then .current else e.role } := by
  rw [pageWritten_turns h hp]
  rcases Nat.lt_or_ge 2 ((pagesReported x pre page post).filter (awaits x)).length with many | few
  · have card := pageCounted_card (x := x) (s := s) (pagesReported x pre page post)
    have now := pageCounted_now (x := x) (s := s) (pagesReported x pre page post)
    have waiting : 2 < pagesAwaiting (pageCounted x (pagesReported x pre page post) s) x := many
    rw [afterPage_many waiting, ← now]
    exact turn_continues (by rw [card]; exact hl) (by rw [card]; exact he) hh (by rw [card]; exact hs) hrec (.inl (by rw [card]))
  · rw [afterPage_counted he hh hs few]
    generalize hv : State.setClip _ _ = v
    have card : v.card x = pageThenContinue s.now (s.card x) := by rw [← hv, State.setClip_card, State.setCard_card]
    have now : v.now = s.now := by rw [← hv]; exact State.setCard_now _ _ _
    rw [← now]
    exact turn_continues (by rw [card]; exact hl) (by rw [card]; exact he) hh (by rw [card]; exact hs) (by rw [← hv]; exact hrec)
      (.inr (by rw [card, now]; exact ⟨rfl, rfl, rfl, rfl⟩))

theorem unissuedWrites_pageCounted (pages : List PageRecord) : unissuedWrites (pageCounted x pages s) = unissuedWrites s := by
  rw [unissuedWrites, unissuedWrites, pageCounted, State.setClip_path, State.setCard_path]

theorem changesOnly_pageCounted (pages : List PageRecord) : changesOnly [.card x, .control, .clip] s (pageCounted x pages s) :=
  changesOnly_trans (changesOnly_mono (by simp) (changesOnly_setCard x _ s)) (changesOnly_mono (by simp) (changesOnly_setClip _ _))

/-- The last page of the AU has been counted, and no erase is outstanding: the AU turns (R56, R62). -/
def turned (x : CardSlot) (pages : List PageRecord) (s : State) : State := releaseDrained (rollover x (pageCounted x pages s))

theorem pageWritten_turned {pre post : List PageRecord} {page : PageRecord} (h : pageAwaited x s pre page post)
    (hp : (s.card x).pageIndex = 1023) (he : (s.card x).erase = none) : pageWritten x s = turned x (pagesReported x pre page post) s := by
  rw [pageWritten_turns h hp, afterPage_none (by rw [pageCounted_card]; exact he)]
  rfl

section

variable {r : EraseState} (pages : List PageRecord)

theorem turned_waits (hl : (s.card x).lookahead = .unresolved) (hrec : s.clip.state ≠ .idle) : turned x pages s =
    (s.setCard x { s.card x with phase := .idle, pageIndex := (s.card x).pageIndex + 1, rolloverWait := true }).setClip
      { s.clip with pages := pages } := by
  rw [turned, rollover_unresolved (by rw [pageCounted_card]; exact hl), pageCounted_card, pageCounted_setCard]
  exact releaseDrained_recording hrec

theorem turned_asks (hl : (s.card x).lookahead = .au n r) (hrec : s.clip.state ≠ .idle) (he : (s.card x).erase = none)
    (hb : (s.card x).badEnd = false) (hg : (s.card x).groupIndex = (s.card x).group.length) : turned x pages s =
      (s.setCard x { s.card x with
        phase := .idle, au := some n, pageIndex := 0, eraseState := r, rolloverWait := false, lookahead := .unresolved, walk := .lookahead
        fetchReq := some ⟨(s.card x).nextGroup, 32, unissuedWrites s⟩, groupAddr := (s.card x).nextGroup
        nextGroup := (s.card x).nextGroup + 32, group := [], groupIndex := 0 }).setClip { s.clip with pages := pages } := by
  have card := pageCounted_card (x := x) (s := s) pages
  rw [turned, rollover_asks (by rw [card]; exact hl) (by rw [card]; exact he) (by rw [card]; exact hb) (by rw [card]; exact hg), card,
    pageCounted_setCard, unissuedWrites_pageCounted]
  exact releaseDrained_recording hrec

theorem turned_takes (hl : (s.card x).lookahead = .au n r) (hrec : s.clip.state ≠ .idle) (hc : (s.card x).chain ≠ .loading) :
    changesOnly [.card x, .control, .clip] s (turned x pages s) ∧ (turned x pages s).clip = { s.clip with pages := pages } ∧
      ((turned x pages s).card x).au = some n ∧ ((turned x pages s).card x).pageIndex = 0 ∧ ((turned x pages s).card x).eraseState = r ∧
      ((turned x pages s).card x).rolloverWait = false ∧ ((turned x pages s).card x).state = (s.card x).state := by
  have counted := pageCounted_card (x := x) (s := s) pages
  obtain ⟨card, settled, -, parts, -⟩ := rolledOver_rollover (x := x) (s := pageCounted x pages s) (n := n) (e := r) (by rw [counted]; exact hl)
  have clip : (rollover x (pageCounted x pages s)).clip = { s.clip with pages := pages } := parts .clip (by simp)
  rw [counted] at settled
  obtain ⟨-, state⟩ := settled hc
  rw [turned, releaseDrained_recording (by rw [clip]; exact hrec)]
  rw [walkOrLink] at card
  exact ⟨changesOnly_trans (changesOnly_pageCounted pages) (changesOnly_mono (by simp) parts), clip, by rw [card]; rfl, by rw [card]; rfl,
    by rw [card]; rfl, by rw [card]; rfl, state⟩

theorem turned_ends (hl : (s.card x).lookahead = .theEnd) : ((turned x pages s).card x).state = .full ∧
    ((turned x pages s).card x).pageIndex = (s.card x).pageIndex + 1 ∧ ((turned x pages s).card x).au = (s.card x).au ∧
    ((turned x pages s).card x).rolloverWait = false := by
  have counted := pageCounted_card (x := x) (s := s) pages
  have card := rollover_end_card (x := x) (s := pageCounted x pages s) (by rw [counted]; exact hl)
  rw [counted, linkOnly] at card
  rw [turned, releaseDrained_card (by rw [card]; exact CardState.noConfusion), card]
  exact ⟨rfl, rfl, rfl, rfl⟩

end

/-! ### What an erase that ends with ERR leaves (R56, R59) -/

section

variable (he : (s.card x).erase = some e) (hs : (s.card x).state ≠ .probing) (hr : (s.card x).request = none) (full : 64 ≤ unread s)

include he hs hr full

theorem badLookahead_leaves (hl : e.role = .lookahead) : ((eraseEnds x true s).card x).erase = none ∧
    ((eraseEnds x true s).card x).badAus = saturatingSucc (s.card x).badAus ∧ ((eraseEnds x true s).card x).au = (s.card x).au ∧
    ((eraseEnds x true s).card x).pageIndex = (s.card x).pageIndex := by
  have walked := lookaheadWalked_resolveLookahead (x := x) (s := badCounted x e.au s)
  have before := badCounted_card (x := x) (au := e.au) full
  have card := walked.card
  rw [walkOnly, before] at card
  rw [eraseEnds_badLookahead he hl, afterErase_rests (walked.probes (by rw [before]; exact hs)) (by rw [card]; exact hr), card]
  exact ⟨rfl, rfl, rfl, rfl⟩

section

variable (hc : e.role = .current)

include hc

theorem badCurrent_rolls : eraseEnds x true s = rollover x (badLeft x e.au s) := by
  have before := badLeft_card (x := x) (au := e.au) full
  have kept := rolloverKept_rollover (x := x) (s := badLeft x e.au s) (by rw [before]; rfl)
  rw [eraseEnds_badCurrent he hc]
  exact afterErase_rests (kept.probes (by rw [before]; exact hs)) (by rw [kept.request, before]; exact hr)

/-- The bad current AU is counted, and its AU_BAD still pends after the rollover (R59, R193). -/
theorem badCurrent_counts : ((eraseEnds x true s).card x).erase = none ∧
    ((eraseEnds x true s).card x).badAus = saturatingSucc (s.card x).badAus ∧
    ∃ q ∈ (eraseEnds x true s).control.pendingNotices, q.notice = .auBad x e.au := by
  have before := badLeft_card (x := x) (au := e.au) full
  obtain ⟨erase, badAus, -, -, l, posts, hl⟩ := rolloverKept_rollover (x := x) (s := badLeft x e.au s) (by rw [before]; rfl)
  rw [before] at badAus
  have pends := noticePends_after (badCounted_pends x e.au s) ((postsOnly_setCard x _ _).trans posts)
    (by simpa [noticePlace, badPlace, Notice.kind, Notice.source] using hl)
  obtain ⟨q, hq, hn, -⟩ := pends full
  rw [badCurrent_rolls he hs hr full hc]
  exact ⟨erase, badAus, q, hq, hn⟩

theorem badCurrent_takes {r : EraseState} (hl : (s.card x).lookahead = .au n r) (hn : (s.card x).chain ≠ .loading) :
    ((eraseEnds x true s).card x).au = some n ∧ ((eraseEnds x true s).card x).pageIndex = 0 ∧
      ((eraseEnds x true s).card x).eraseState = r ∧ ((eraseEnds x true s).card x).state = (s.card x).state := by
  have before := badLeft_card (x := x) (au := e.au) full
  obtain ⟨card, settled, -, -, -⟩ := rolledOver_rollover (x := x) (s := badLeft x e.au s) (n := n) (e := r) (by rw [before]; exact hl)
  rw [before] at settled
  obtain ⟨-, state⟩ := settled hn
  rw [walkOrLink] at card
  rw [badCurrent_rolls he hs hr full hc]
  exact ⟨by rw [card]; rfl, by rw [card]; rfl, by rw [card]; rfl, state⟩

theorem badCurrent_ends (hl : (s.card x).lookahead = .theEnd) : ((eraseEnds x true s).card x).state = .full ∧
    ((eraseEnds x true s).card x).pageIndex = 1024 := by
  have before := badLeft_card (x := x) (au := e.au) full
  have card := rollover_end_card (x := x) (s := badLeft x e.au s) (by rw [before]; exact hl)
  rw [linkOnly, before] at card
  rw [badCurrent_rolls he hs hr full hc, card]
  exact ⟨rfl, rfl⟩

theorem badCurrent_waits (hl : (s.card x).lookahead = .unresolved) : ((eraseEnds x true s).card x).rolloverWait = true ∧
    ((eraseEnds x true s).card x).pageIndex = 1024 ∧ ((eraseEnds x true s).card x).au = (s.card x).au := by
  have before := badLeft_card (x := x) (au := e.au) full
  rw [badCurrent_rolls he hs hr full hc, rollover_unresolved (by rw [before]; exact hl), State.setCard_card, before]
  exact ⟨rfl, rfl, rfl⟩

end

end

/-- The STATUS after ERASE_CONTINUE shows the good end of the erase (R59, R61). -/
theorem continueSeen_good (he : (s.card x).erase = some e) (hs : (s.card x).state ≠ .probing) (hr : (s.card x).request = none)
    (fresh : (s.card x).holdRefused = false) (hb : statusBusy f = false) (hh : statusHeld f = false) (hf : statusErr f = false) :
    continueSeen x f s = s.setCard x (erasedWell { e with held := false } { s.card x with phase := .idle, erase := none }) := by
  have letGo : (s.setCard x (eraseLetGo (s.card x))).card x = eraseLetGo (s.card x) := State.setCard_card _ _ _
  have record : (eraseLetGo (s.card x)).erase = some { e with held := false } := by rw [eraseLetGo, he]; rfl
  rw [continueSeen_ends hb hh, hf, eraseEnds_good (by rw [letGo]; exact record) (by rw [letGo]; exact hs) (by rw [letGo]; exact hr), letGo,
    setCard_setCard, eraseOver_of_held (by exact fresh)]
  rfl

/-! ### What the response finds of the card (R45, R61) -/

/-- The card `d` is the card `c` after `dt` µs, its STATUS answered. -/
structure answeredAs (dt : Nat) (c d : Card) : Prop where
  phase : d.phase = c.phase
  quiet : d.statusOut = false
  fresh : d.holdRefused = false
  state : d.state = c.state
  request : d.request = c.request
  au : d.au = c.au
  page : d.pageIndex = c.pageIndex
  ahead : d.lookahead = c.lookahead
  chain : d.chain = c.chain
  badAus : d.badAus = c.badAus
  wakeCmd : d.wakeCmd = c.wakeCmd
  origin : d.sleepOrigin = c.sleepOrigin
  badEnd : d.badEnd = c.badEnd
  group : d.group = c.group ∧ d.groupIndex = c.groupIndex ∧ d.nextGroup = c.nextGroup
  free : c.erase = none → d.erase = none
  erased : ∀ e, c.erase = some e → d.erase = some (ranFor dt e)

theorem answeredAs_taken (p : Bool) (dt : Nat) : answeredAs dt (s.card x) ((statusTaken x p dt s).card x) := by
  rw [statusTaken_card]
  exact ⟨rfl, rfl, rfl, rfl, rfl, rfl, rfl, rfl, rfl, rfl, rfl, rfl, rfl, ⟨rfl, rfl, rfl⟩, fun he => by rw [he]; rfl, fun e he => by rw [he]; rfl⟩

end

end Sys2Proof.Machine

namespace Sys2Proof.Machine

/-- Settles O53: a poll by what is outstanding, and a response by the operation it follows and the flags it shows. -/
theorem operationsArePolledToTheirEnds : Obligations.OperationsArePolledToTheirEnds := by
  unfold Obligations.OperationsArePolledToTheirEnds
  intro x dt s hrun c polled later hold
  refine ⟨⟨rfl, fun e he => ?_⟩, fun h => act_eq_next hrun (statusPoll_still h), fun hq hp hh => act_eq_next hrun (statusPoll_asks hq hp hh),
    fun hq hh => act_eq_next hrun (statusPoll_holds hq hh), ?_⟩
  · rw [advanceTime_card, he]
    rfl
  intro response p f b d
  refine ⟨fun hq => act_eq_next hrun (if_neg (Bool.not_eq_true _ ▸ hq)), ?_, ?_, fun hout => ?_⟩
  · rintro rfl
    rfl
  · rintro g rest rfl
    rfl
  have clip : b.clip = s.clip := State.setCard_clip _ _ _
  have now : b.now = s.now + dt := State.setCard_now _ _ _
  have path : b.path = s.path := State.setCard_path _ _ _
  have control : b.control = s.control := State.setCard_control _ _ _
  obtain ⟨phase, quiet, fresh, state, request, au, page, ahead, chain, badAus, wakeCmd, origin, badEnd, ⟨group, groupIndex, nextGroup⟩, free,
    erased⟩ := answeredAs_taken (x := x) (s := s) p dt
  have seen {t : State} (h : statusSeen x f b = t) : exec (.cardStatusResponse x response p dt) s = .next t :=
    act_eq_next hrun ((statusResponse_taken hout response p dt).trans h)
  have fails : cardFailed s (failCard x b) x := cardFailed_of_erase (cardFailed_failCard x b) free
  have calm (hs : c.state ≠ .probing) : (b.card x).state ≠ .probing := fun k => hs (state.symm.trans k)
  have active (hs : c.state = .active) : (b.card x).state ≠ .probing := calm (by rw [hs]; exact CardState.noConfusion)
  have loaded (hc : c.chain = .set) : (b.card x).chain ≠ .loading := by rw [chain.trans hc]; exact ChainStatus.noConfusion
  refine ⟨fun hp hf n q hn hq => ?_, fun role n hp hf due => ?_, fun role m hp hf due => ?_, fun hf hp => ?_, fun hp => ⟨fun hb => ?_,
    fun hb he => ?_, fun pre q post hb he hrec hpages hpre hwaits hdone => ?_⟩, fun e hp he hh => ?_, fun e hp he ha hf hs hr => ?_,
    fun hp hh hb => ?_, fun e hp he => ?_, fun hp => ⟨fun hb => ?_, fun hb k hk hs => ?_⟩⟩
  · have writes := unlockPageSeen_writes hf (au.trans hn) (by rw [clip]; exact hq)
    rw [issue_of_statusOut (by exact quiet.symm)] at writes
    rw [← page]
    exact seen ((statusSeen_unlockPage (phase.trans hp)).trans writes)
  · have starts := unlockEraseSeen_due (s := b) hf (eraseDue_current (currentDue_taken due p dt))
    rw [issueErase_current quiet] at starts
    exact seen ((statusSeen_unlockErase (phase.trans hp)).trans starts)
  · have starts := unlockEraseSeen_due (s := b) hf (eraseDue_lookahead (lookaheadDue_taken due p dt))
    rw [issueErase_lookahead quiet] at starts
    exact seen ((statusSeen_unlockErase (phase.trans hp)).trans starts)
  · have input : (b.card x).protectInput = p := by rw [statusTaken_card]
    refine ⟨_, seen (unlockSeen_refused hf (by rw [phase]; exact hp)), fun guarded he => ?_, fun bare => ?_⟩
    · rw [unlockRefused_protected (input.trans guarded) (free he)]
      exact ⟨rfl, chain, ahead, rfl⟩
    · rw [unlockRefused_fails (input.trans bare)]
      exact fails
  · exact seen ((statusSeen_pageWrite (phase.trans hp)).trans (pageSeen_busy hb))
  · exact ⟨_, seen ((statusSeen_pageWrite (phase.trans hp)).trans (pageSeen_fails hb he)), fails⟩
  · have awaited : pageAwaited x b pre q post := ⟨clip ▸ hpages, hpre, hwaits, clip ▸ hdone⟩
    have recording : b.clip.state ≠ .idle := clip ▸ hrec
    have written {t : State} (h : pageWritten x b = t) : exec (.cardStatusResponse x response p dt) s = .next t :=
      seen (((statusSeen_pageWrite (phase.trans hp)).trans (pageSeen_written hb he)).trans h)
    intro done pages reported ending
    have counted : pageCounted x pages b = { b.setCard x { d with phase := .idle, pageIndex := c.pageIndex + 1 } with
        clip := { s.clip with pages := pages } } := by
      rw [pageCounted, clip, ← page]
      rfl
    refine ⟨fun hn hfree => ?_, fun e hn hr hh hs => ⟨fun many => ?_, fun few => ?_⟩, fun e r hn hr hh hs hl hc => ?_, fun hn hfree => ?_⟩
    · exact written ((pageWritten_plain awaited (page ▸ hn) recording (.inl (free hfree))).trans counted)
    · exact written ((pageWritten_plain awaited (page ▸ hn) recording (.inr many)).trans counted)
    · have goesOn := afterPage_counted (erased e hr) hh (active hs) few
      rw [now, clip, pageThenContinue, page] at goesOn
      exact written ((pageWritten_goesOn awaited (page ▸ hn) recording).trans goesOn)
    · have still : ranFor dt e = e := by rw [ranFor, if_pos hh]
      rw [← now]
      exact ⟨_, written rfl, pageWritten_continues awaited (page.trans hn) recording ((erased e hr).trans (congrArg some still)) hh (active hs)
        (ahead.trans hl)⟩
    · have turns : pageWritten x b = turned x pages b := pageWritten_turned awaited (page.trans hn) (free hfree)
      have last : (b.card x).pageIndex + 1 = 1024 := by rw [page, hn]
      refine ⟨fun hl => ?_, fun n r hl hc hb hg => ?_, fun n r hl hc => ?_, fun hl => ?_⟩
      · have waits := turned_waits pages (ahead.trans hl) recording
        rw [last, clip] at waits
        exact written (turns.trans waits)
      · have asks := turned_asks pages (ahead.trans hl) recording (free hfree) (badEnd.trans hb)
          (by rw [group, groupIndex]; exact hg)
        rw [clip, unissuedWrites, path] at asks
        rw [← nextGroup]
        exact written (turns.trans asks)
      · have takes := turned_takes pages (ahead.trans hl) recording (loaded hc)
        rw [clip, state] at takes
        exact ⟨_, written turns, takes⟩
      · have ends := turned_ends pages (ahead.trans hl)
        rw [last, au] at ends
        exact ⟨_, written turns, ends⟩
  · have idle := phase.trans hp
    have goes := statusSeen_erase (f := f) idle (eraseRunning_iff.mpr ⟨_, erased e he, hh⟩)
    have ends (hb : f.getLsbD 0 = false) (hd : f.getLsbD 2 = false) {t : State} {err : Bool} (herr : f.getLsbD 3 = err)
        (h : eraseEnds x err b = t) : exec (.cardStatusResponse x response p dt) s = .next t :=
      seen ((goes.trans (eraseSeen_ends hb hd)).trans (by rw [statusErr, herr]; exact h))
    have crowded (full : 64 ≤ unread s) : 64 ≤ unread b := by rwa [unread, control, path]
    refine ⟨fun hb hs => seen (goes.trans (eraseSeen_busy hb (state ▸ hs))),
      fun hb hd herr hs hr => ?_, fun hb hd herr hs hr role full => ?_, fun hb hd herr hs hr role full => ?_⟩
    · have good := eraseEnds_good (erased e he) (calm hs) (request.trans hr)
      rw [eraseOver_of_idle idle fresh] at good
      exact ⟨fun role => ends hb hd herr (good.trans (congrArg _ (erasedWell_current (e := ranFor dt e) role))),
        fun role => ends hb hd herr (good.trans (congrArg _ (erasedWell_lookahead (e := ranFor dt e) role))),
        fun role => ends hb hd herr (good.trans (congrArg _ (erasedWell_orphan (e := ranFor dt e) role)))⟩
    · have leaves := badLookahead_leaves (erased e he) (calm hs) (request.trans hr) (crowded full) role
      rw [badAus, au, page] at leaves
      exact ⟨_, ends hb hd herr rfl, leaves⟩
    · have waits := request.trans hr
      obtain ⟨gone, count, pends⟩ := badCurrent_counts (e := ranFor dt e) (erased e he) (calm hs) waits (crowded full) role
      rw [badAus] at count
      refine ⟨_, ends hb hd herr rfl, gone, count, pends, fun n r hl hc => ?_, fun hl => ?_, fun hl => ?_⟩
      · have takes := badCurrent_takes (erased e he) (calm hs) waits (crowded full) role (ahead.trans hl) (loaded hc)
        rwa [state] at takes
      · exact badCurrent_ends (erased e he) (calm hs) waits (crowded full) role (ahead.trans hl)
      · have stays := badCurrent_waits (erased e he) (calm hs) waits (crowded full) role (ahead.trans hl)
        rwa [au] at stays
  · exact seen ((statusSeen_hold (phase.trans hp)).trans ((holdSeen_held hf).trans (heldNow_holds (erased e he) (au ▸ ha)
      (state.trans hs) (request.trans hr))))
  · exact seen ((statusSeen_hold (phase.trans hp)).trans (holdSeen_refused hh hb))
  · have goes := statusSeen_continue (f := f) (phase.trans hp)
    refine ⟨fun hf => seen (goes.trans (continueSeen_runs hf)), fun hb hd herr hs hr => ?_⟩
    have good := goes.trans (continueSeen_good (erased e he) (calm hs) (request.trans hr) fresh hb hd herr)
    exact ⟨fun role => seen (good.trans (congrArg _ (erasedWell_current (e := { ranFor dt e with held := false }) role))),
      fun role => seen (good.trans (congrArg _ (erasedWell_lookahead (e := { ranFor dt e with held := false }) role))),
      fun role => seen (good.trans (congrArg _ (erasedWell_orphan (e := { ranFor dt e with held := false }) role)))⟩
  · exact seen ((statusSeen_wake (phase.trans hp)).trans (if_pos hb))
  · have wakes : statusSeen x f b = wakeDone x b :=
      (statusSeen_wake (phase.trans hp)).trans (if_neg (by rw [statusBusy, hb]; exact Bool.false_ne_true))
    have command := wakeCmd.trans hk
    have asleep := state.trans hs
    rw [← au, ← page]
    exact ⟨fun ho => seen (wakes.trans (wakeDone_rests command asleep (.inl ⟨origin.trans ho, rfl⟩))),
      fun ho => seen (wakes.trans (wakeDone_rests command asleep (.inr ⟨origin.trans ho, rfl⟩))),
      fun ho => seen (wakes.trans (wakeDone_probes command asleep (origin.trans ho) quiet))⟩

end Sys2Proof.Machine

namespace Sys2Proof.Machine

/-! ### What no block but the Region Table and the edges of RESET_N change (R73, R75, R85, R86)

The lookup at take depends on the level of RESET_N, the memory size and the eight records alone. -/

/-- The part of the Path Unit's state that the areas of the memory are found by (R73). -/
structure Areas where
  resetLow : Bool
  memSize : Nat
  regions : Vector (Option Region) 8

def Path.areas (p : Path) : Areas := ⟨p.resetLow, p.memSize, p.regions⟩

section
variable {s : State}

/-! #### Completions, notices and the envelope of a command -/

@[simp] theorem areas_forwardHeld : (forwardHeld s).path.areas = s.path.areas := rfl
theorem areas_nextCompletion {s s1 : State} {i : Issued} (h : nextCompletion s = some (i, s1)) :
    s1.path.areas = s.path.areas := by
  unfold nextCompletion at h
  split at h
  · cases h
  · cases h; rfl
theorem areas_takeEntry {s s1 : State} (h : takeEntry s = some s1) : s1.path.areas = s.path.areas := by
  unfold takeEntry at h
  split at h
  · cases h
  · split at h
    · cases h; exact areas_nextCompletion (by assumption)
    · cases h
@[simp] theorem areas_abandonReads (lost : Destination → Bool) : (abandonReads s lost).path.areas = s.path.areas := rfl
@[simp] theorem areas_writeQueueHead (m : QueueMessage) (rest : List QueueMessage) :
    (writeQueueHead m rest s).path.areas = s.path.areas := by
  unfold writeQueueHead; split <;> simp
@[simp] theorem areas_fillRing (fuel : Nat) (s : State) : (fillRing fuel s).path.areas = s.path.areas := by
  induction fuel generalizing s with
  | zero => rfl
  | succ fuel ih => unfold fillRing; (repeat' split) <;> simp [ih]
@[simp] theorem areas_dropFetch (slot : CardSlot) : (dropFetch slot s).path.areas = s.path.areas := by simp [dropFetch]
@[simp] theorem areas_dropChain (x : CardSlot) : (dropChain x s).path.areas = s.path.areas := by simp [dropChain]
theorem areas_runCommand {body : State → State × Result} (h : ∀ u, (body u).1.path.areas = u.path.areas) (s : State) :
    (runCommand s body).path.areas = s.path.areas := by
  unfold runCommand
  split
  · rfl
  · rename_i s1 hs1
    simp [h, areas_takeEntry hs1]
@[simp] theorem areas_runTableCommand (argsGood : Bool) (addr len : Nat) (phase : CommandPhase) :
    (runTableCommand s argsGood addr len phase).path.areas = s.path.areas := by
  unfold runTableCommand
  split
  · rfl
  · rename_i s1 h
    split <;> simp [areas_takeEntry h]
@[simp] theorem areas_advanceTime (dt : Nat) : (advanceTime dt s).path.areas = s.path.areas := by simp [advanceTime]
@[simp] theorem areas_releaseHeld : (releaseHeld s).path.areas = s.path.areas := by
  unfold releaseHeld; split <;> simp

/-! #### The Stream Tap and the Clip Assembler -/

@[simp] theorem areas_retestHeld : (retestHeld s).path.areas = s.path.areas := by
  unfold retestHeld; (repeat' split) <;> simp
@[simp] theorem areas_assemblyEnded : (assemblyEnded s).path.areas = s.path.areas := by simp [assemblyEnded]
@[simp] theorem areas_offerStreamWrite (r : StreamRegion) (a n : Nat) : (offerStreamWrite r a n s).path.areas = s.path.areas := by
  unfold offerStreamWrite
  dsimp only
  split
  · rfl
  · simp
  · (repeat' split)
    · simp
    · rfl
    · simp
@[simp] theorem areas_reportShipped (e : Nat) : (reportShipped e s).path.areas = s.path.areas := by
  unfold reportShipped; dsimp only; (repeat' split) <;> simp
@[simp] theorem areas_presentClipRead : (presentClipRead s).path.areas = s.path.areas := by
  unfold presentClipRead; (repeat' split) <;> simp
@[simp] theorem areas_pageReport (slot : CardSlot) (mark : PageRecord → PageRecord) :
    (pageReport slot mark s).path.areas = s.path.areas := by simp [pageReport]
@[simp] theorem areas_abortClip : (abortClip s).path.areas = s.path.areas := by simp [abortClip]
@[simp] theorem areas_clipCardEnd : (clipCardEnd s).path.areas = s.path.areas := by
  unfold clipCardEnd; dsimp only; (repeat' split) <;> simp
@[simp] theorem areas_fillRoom (room : Nat) : (fillRoom room s).path.areas = s.path.areas := by
  unfold fillRoom; dsimp only; (repeat' split) <;> simp
@[simp] theorem areas_retarget (slot : CardSlot) : (retarget slot s).path.areas = s.path.areas := by simp [retarget]
@[simp] theorem areas_clipLosesCard (slot : CardSlot) : (clipLosesCard slot s).path.areas = s.path.areas := by
  unfold clipLosesCard; dsimp only; (repeat' split) <;> simp
@[simp] theorem areas_armedLosesCard (slot : CardSlot) : (armedLosesCard slot s).path.areas = s.path.areas := by
  unfold armedLosesCard; (repeat' split) <;> simp
@[simp] theorem areas_cardLost (slot : CardSlot) : (cardLost slot s).path.areas = s.path.areas := by
  unfold cardLost; (repeat' split) <;> simp
@[simp] theorem areas_cardFull (slot : CardSlot) : (cardFull slot s).path.areas = s.path.areas := by
  unfold cardFull; split <;> simp
@[simp] theorem areas_beginClip (preRecord : Nat → Nat) : (beginClip preRecord s).path.areas = s.path.areas := by
  unfold beginClip; split <;> simp
@[simp] theorem areas_activate (set : CardSet) : (activate set s).path.areas = s.path.areas := by
  unfold activate; (repeat' split) <;> simp
@[simp] theorem areas_acceptRecStart (clip : Word16) : (acceptRecStart clip s).path.areas = s.path.areas := by
  unfold acceptRecStart; dsimp only; (repeat' split) <;> simp
@[simp] theorem areas_recStart (clip : Word16) : (recStart clip s).1.path.areas = s.path.areas := by
  unfold recStart; split <;> simp
@[simp] theorem areas_armedEntry : (armedEntry s).path.areas = s.path.areas := by
  unfold armedEntry; split <;> simp
@[simp] theorem areas_recStop (cmd : Option Kept) : (recStop cmd s).1.path.areas = s.path.areas := by
  unfold recStop; dsimp only; (repeat' split) <;> simp
@[simp] theorem areas_gripPress : (gripPress s).path.areas = s.path.areas := by
  unfold gripPress; dsimp only; (repeat' split) <;> simp

/-! #### The Motion Unit -/

@[simp] theorem areas_processSample : (processSample s).path.areas = s.path.areas := by simp [processSample]
@[simp] theorem areas_goodRead (yaw pitch : Int) : (goodRead yaw pitch s).path.areas = s.path.areas := by
  unfold goodRead; split <;> simp
@[simp] theorem areas_failedRead : (failedRead s).path.areas = s.path.areas := by
  unfold failedRead; dsimp only; (repeat' split) <;> simp
@[simp] theorem areas_gyroAnswer (status yawLow yawHigh pitchLow pitchHigh : Byte) :
    (gyroAnswer status yawLow yawHigh pitchLow pitchHigh s).path.areas = s.path.areas := by
  unfold gyroAnswer; (repeat' split) <;> simp
@[simp] theorem areas_stabConfigBody (biasX biasY : Word16) (dirX dirY kSteady kPan : Byte) (panThreshold : Word16)
    (panEnter : Byte) (panExit : Word16) :
    (stabConfigBody biasX biasY dirX dirY kSteady kPan panThreshold panEnter panExit s).1.path.areas = s.path.areas := by
  unfold stabConfigBody; (repeat' split) <;> simp
@[simp] theorem areas_stabEnableBody : (stabEnableBody s).1.path.areas = s.path.areas := by simp [stabEnableBody]
@[simp] theorem areas_stabDisableBody : (stabDisableBody s).1.path.areas = s.path.areas := by simp [stabDisableBody]
@[simp] theorem areas_focalReturn (data : List Byte) : (focalReturn data s).path.areas = s.path.areas := by
  unfold focalReturn
  split
  · rename_i h
    (repeat' split) <;> simp [areas_nextCompletion h]
  · rfl
@[simp] theorem areas_softResetMotion : (softResetMotion s).path.areas = s.path.areas := by simp [softResetMotion]

/-! #### The Zoom Drive -/

@[simp] theorem areas_applyZoom (r : ZoomResult) : (applyZoom r s).path.areas = s.path.areas := by simp [applyZoom]
@[simp] theorem areas_zoomConfigReturn (data : List Byte) : (zoomConfigReturn data s).path.areas = s.path.areas := by
  unfold zoomConfigReturn
  split
  · rename_i h _
    (repeat' split) <;> simp [areas_nextCompletion h]
  · rfl
@[simp] theorem areas_runMove (f : Zoom → (ZoomResult × Result) × List Report) : (runMove f s).path.areas = s.path.areas := by
  unfold runMove
  split
  · rfl
  · rename_i s1 h
    simp [areas_takeEntry h]
@[simp] theorem areas_zoomBody (f : Zoom → ZoomResult × Result) : (zoomBody f s).1.path.areas = s.path.areas := by simp [zoomBody]
@[simp] theorem areas_softResetZoom : (softResetZoom s).path.areas = s.path.areas := by simp [softResetZoom]

/-! #### The accessory link -/

@[simp] theorem areas_setLinkBuffer (i : Fin 16) (b : LinkBuffer) :
    (setLinkBuffer i b s).path.areas = s.path.areas := by simp [setLinkBuffer]
@[simp] theorem areas_linkError : (linkError s).path.areas = s.path.areas := by
  unfold linkError; split <;> simp
@[simp] theorem areas_moveWindow : (moveWindow s).path.areas = s.path.areas := by
  unfold moveWindow; dsimp only; (repeat' split) <;> simp
@[simp] theorem areas_enterConfig : (enterConfig s).path.areas = s.path.areas := by simp [enterConfig]
@[simp] theorem areas_becomesStale (i : Fin 16) (r : ReceiveBuffer) : (becomesStale i r s).path.areas = s.path.areas := by
  unfold becomesStale; split <;> simp
@[simp] theorem areas_ageBuffer (i : Fin 16) : (ageBuffer s i).path.areas = s.path.areas := by
  unfold ageBuffer; dsimp only; (repeat' split) <;> simp
@[simp] theorem areas_fillBound (i : Fin 16) : (fillBound s i).path.areas = s.path.areas := by
  unfold fillBound; (repeat' split) <;> simp
/-- A pass over a list of places whose every step leaves the areas as they are. -/
theorem areas_foldl {α : Type} {f : State → α → State} (h : ∀ {u : State} (a : α), (f u a).path.areas = u.path.areas) (l : List α)
    (u : State) : (l.foldl f u).path.areas = u.path.areas := by
  induction l generalizing u with
  | nil => rfl
  | cons a l ih => exact (ih _).trans (h a)
@[simp] theorem areas_startCycle : (startCycle s).path.areas = s.path.areas := by
  simp [startCycle, areas_foldl areas_ageBuffer, areas_foldl areas_fillBound]
@[simp] theorem areas_cycleInstant : (cycleInstant s).path.areas = s.path.areas := by
  unfold cycleInstant; (repeat' split) <;> simp
@[simp] theorem areas_gripReceived (old : ReceiveBuffer) (data : List Byte) :
    (gripReceived old data s).path.areas = s.path.areas := by
  unfold gripReceived; (repeat' split) <;> simp
@[simp] theorem areas_hostReceived (i : Fin 16) (r : ReceiveBuffer) (data : List Byte) :
    (hostReceived i r data s).path.areas = s.path.areas := by
  unfold hostReceived; split <;> simp
@[simp] theorem areas_bufferReceives (i : Fin 16) (old : ReceiveBuffer) (data : List Byte) :
    (bufferReceives i old data s).path.areas = s.path.areas := by
  unfold bufferReceives; split <;> simp
@[simp] theorem areas_queueReceives (m : QueueMessage) : (queueReceives m s).path.areas = s.path.areas := by
  unfold queueReceives; split <;> simp
@[simp] theorem areas_routeMessage (n : BitVec 4) (data : List Byte) : (routeMessage n data s).path.areas = s.path.areas := by
  unfold routeMessage; (repeat' split) <;> simp
@[simp] theorem areas_markHeard (n : BitVec 4) : (markHeard n s).path.areas = s.path.areas := by simp [markHeard]
@[simp] theorem areas_messageReceive (n : BitVec 4) (m : LinkMessage) : (messageReceive n m s).path.areas = s.path.areas := by
  unfold messageReceive; (repeat' split) <;> simp
@[simp] theorem areas_slotStart (n : BitVec 4) : (slotStart n s).path.areas = s.path.areas := by
  unfold slotStart; (repeat' split) <;> simp
@[simp] theorem areas_transmitDone : (transmitDone s).path.areas = s.path.areas := by
  unfold transmitDone; split <;> simp
@[simp] theorem areas_configBeginBody (k : Kept) : (configBeginBody k s).1.path.areas = s.path.areas := by
  unfold configBeginBody; (repeat' split) <;> simp
@[simp] theorem areas_configEndBody (k : Kept) : (configEndBody k s).1.path.areas = s.path.areas := by
  unfold configEndBody; (repeat' split) <;> simp
@[simp] theorem areas_linkSetBody (period q : Byte) : (linkSetBody period q s).1.path.areas = s.path.areas := by
  unfold linkSetBody; (repeat' split) <;> simp
@[simp] theorem areas_filterSetBody (acceptEnable acceptCode acceptMask rejectEnable rejectCode rejectMask : Byte) :
    (filterSetBody acceptEnable acceptCode acceptMask rejectEnable rejectCode rejectMask s).1.path.areas = s.path.areas := by
  unfold filterSetBody; (repeat' split) <;> simp
@[simp] theorem areas_bufferSetBody (index direction identifier owner mode staleCycles : Byte) :
    (bufferSetBody index direction identifier owner mode staleCycles s).1.path.areas = s.path.areas := by
  unfold bufferSetBody; dsimp only; (repeat' split) <;> simp
@[simp] theorem areas_sendContent (k : Kept) (i : Fin 16) (t : TransmitBuffer) (data : List Byte) :
    (sendContent k i t data s).1.path.areas = s.path.areas := by
  unfold sendContent; split <;> simp
@[simp] theorem areas_accSendBody (k : Kept) (index length : Byte) (data : List Byte) :
    (accSendBody k index length data s).1.path.areas = s.path.areas := by
  unfold accSendBody; dsimp only; (repeat' split) <;> simp
@[simp] theorem areas_softResetAcc : (softResetAcc s).path.areas = s.path.areas := by simp [softResetAcc]

/-! #### Recording -/

@[simp] theorem areas_recConfigBody (mode gripRec : Byte) (chunkMax chunkMin : Word32) :
    (recConfigBody mode gripRec chunkMax chunkMin s).1.path.areas = s.path.areas := by
  unfold recConfigBody; (repeat' split) <;> simp
@[simp] theorem areas_beginVideo (l : Nat) : (beginVideo l s).path.areas = s.path.areas := by simp [beginVideo]
@[simp] theorem areas_audioOverrunEndTest : (audioOverrunEndTest s).path.areas = s.path.areas := by
  unfold audioOverrunEndTest; (repeat' split) <;> simp
@[simp] theorem areas_beginAudio (i : BlockInfo) : (beginAudio i s).path.areas = s.path.areas := by simp [beginAudio]
@[simp] theorem areas_layChunk (p : ChunkPick) : (layChunk p s).path.areas = s.path.areas := by
  unfold layChunk; split <;> simp
@[simp] theorem areas_fitChunk (p : ChunkPick) : (fitChunk p s).path.areas = s.path.areas := by
  unfold fitChunk; dsimp only; (repeat' split) <;> simp
@[simp] theorem areas_chunkChoice : (chunkChoice s).path.areas = s.path.areas := by
  unfold chunkChoice; (repeat' split) <;> simp
@[simp] theorem areas_videoReturn (data : List Byte) (start stop skip : Nat) :
    (videoReturn data start stop skip s).path.areas = s.path.areas := by simp [videoReturn]
@[simp] theorem areas_videoPayloadReadReturn (data : List Byte) : (videoPayloadReadReturn data s).path.areas = s.path.areas := by
  unfold videoPayloadReadReturn
  split
  · rename_i h
    split <;> simp [areas_nextCompletion h]
  · rfl
@[simp] theorem areas_audioPayloadReadReturn (data : List Byte) : (audioPayloadReadReturn data s).path.areas = s.path.areas := by
  unfold audioPayloadReadReturn
  split
  · rename_i h
    split <;> simp [areas_nextCompletion h]
  · rfl
@[simp] theorem areas_pageOpen : (pageOpen s).path.areas = s.path.areas := by
  unfold pageOpen; split <;> simp
@[simp] theorem areas_layClosing : (layClosing s).path.areas = s.path.areas := by simp [layClosing]
@[simp] theorem areas_clipClose : (clipClose s).path.areas = s.path.areas := by
  unfold clipClose; dsimp only; (repeat' split) <;> simp
@[simp] theorem areas_recordingStopped : (recordingStopped s).path.areas = s.path.areas := by
  unfold recordingStopped; split <;> simp

/-! #### The Audio Unit -/

@[simp] theorem areas_markSlotStart (slot : Nat) : (markSlotStart slot s).path.areas = s.path.areas := by
  unfold markSlotStart; (repeat' split) <;> simp
@[simp] theorem areas_audioOverrun (b : Word32) : (audioOverrun b s).path.areas = s.path.areas := by simp [audioOverrun]
@[simp] theorem areas_overwriteEffect (b : Word32) (old : BlockRecord) : (overwriteEffect b old s).path.areas = s.path.areas := by
  unfold overwriteEffect; (repeat' split) <;> simp
@[simp] theorem areas_startBlock : (startBlock s).path.areas = s.path.areas := by simp [startBlock]
@[simp] theorem areas_audioSlip : (audioSlip s).path.areas = s.path.areas := by simp [audioSlip]
@[simp] theorem areas_primingTest : (primingTest s).path.areas = s.path.areas := by
  unfold primingTest; split <;> simp
@[simp] theorem areas_arrival (frame : AudioFrame) (repeated : Bool) : (arrival frame repeated s).path.areas = s.path.areas := by
  unfold arrival; split <;> simp
@[simp] theorem areas_drain : (drain s).2.path.areas = s.path.areas := by
  unfold drain; split <;> simp
@[simp] theorem areas_periodFrame (received : BitVec 128) : (periodFrame received s).2.path.areas = s.path.areas := by
  unfold periodFrame; (repeat' split) <;> simp
@[simp] theorem areas_samplePeriod (received : BitVec 128) : (samplePeriod received s).path.areas = s.path.areas := by
  unfold samplePeriod
  dsimp only
  split
  · rfl
  · rw [State.setAudio_path, areas_periodFrame]
    (repeat' split) <;> simp
@[simp] theorem areas_enterSeek (run : Nat) : (enterSeek run s).path.areas = s.path.areas := by
  unfold enterSeek; dsimp only; (repeat' split) <;> simp
@[simp] theorem areas_seekSync (bits : Nat) : (seekSync bits s).path.areas = s.path.areas := by
  unfold seekSync; dsimp only; (repeat' split) <;> simp
@[simp] theorem areas_lockedSync (bits : Nat) (sdin : BitVec 128) : (lockedSync bits sdin s).path.areas = s.path.areas := by
  unfold lockedSync; split <;> simp
@[simp] theorem areas_frameSync (edges : Nat) (sdin : BitVec 128) : (frameSync edges sdin s).path.areas = s.path.areas := by
  unfold frameSync; split <;> simp
@[simp] theorem areas_missingFrame : (missingFrame s).path.areas = s.path.areas := by
  unfold missingFrame; dsimp only; (repeat' split) <;> simp
@[simp] theorem areas_audioConfigBody (role enables : Byte) : (audioConfigBody role enables s).1.path.areas = s.path.areas := by
  unfold audioConfigBody; (repeat' split) <;> simp
@[simp] theorem areas_audioOffBody : (audioOffBody s).1.path.areas = s.path.areas := by
  unfold audioOffBody; dsimp only; (repeat' split) <;> simp
@[simp] theorem areas_softResetAudio : (softResetAudio s).path.areas = s.path.areas := by simp [softResetAudio]

/-! #### The Card Controllers -/

@[simp] theorem areas_withProtect (slot : CardSlot) (v : Bool) :
    (withProtect slot v s).path.areas = s.path.areas := by simp [withProtect]
@[simp] theorem areas_failCard (slot : CardSlot) : (failCard slot s).path.areas = s.path.areas := by
  unfold failCard
  dsimp only
  rw [continueErase_path]
  (repeat' split) <;> simp
@[simp] theorem areas_unlockRefused (slot : CardSlot) : (unlockRefused slot s).path.areas = s.path.areas := by
  unfold unlockRefused; dsimp only; (repeat' split) <;> simp
@[simp] theorem areas_chainBad (slot : CardSlot) (d : Descriptor) :
    (chainBad slot d s).path.areas = s.path.areas := by simp [chainBad]
@[simp] theorem areas_walk (x : CardSlot) (fuel : Nat) (s : State) : (walk x fuel s).path.areas = s.path.areas := by
  induction fuel generalizing s with
  | zero => rfl
  | succ fuel ih =>
    unfold walk
    dsimp only
    (repeat' split) <;> simp [ih]
@[simp] theorem areas_resolveLookahead (slot : CardSlot) :
    (resolveLookahead slot s).path.areas = s.path.areas := by simp [resolveLookahead]
@[simp] theorem areas_rollover (slot : CardSlot) : (rollover slot s).path.areas = s.path.areas := by
  unfold rollover; dsimp only; (repeat' split) <;> simp
@[simp] theorem areas_sendSleep (slot : CardSlot) : (sendSleep slot s).path.areas = s.path.areas := by simp [sendSleep]
@[simp] theorem areas_sendEject (slot : CardSlot) : (sendEject slot s).path.areas = s.path.areas := by simp [sendEject]
@[simp] theorem areas_runRequest (slot : CardSlot) : (runRequest slot s).path.areas = s.path.areas := by
  unfold runRequest; split <;> simp
@[simp] theorem areas_drainNext (slot : CardSlot) : (drainNext slot s).path.areas = s.path.areas := by
  unfold drainNext; dsimp only; (repeat' split) <;> simp
@[simp] theorem areas_afterErase (slot : CardSlot) : (afterErase slot s).path.areas = s.path.areas := by
  unfold afterErase; split <;> simp
@[simp] theorem areas_auBad (slot : CardSlot) (au : Word16) : (auBad slot au s).path.areas = s.path.areas := by simp [auBad]
@[simp] theorem areas_eraseOutcome (slot : CardSlot) (e : EraseRecord) (err : Bool) :
    (eraseOutcome slot e err s).path.areas = s.path.areas := by
  unfold eraseOutcome; split <;> simp
@[simp] theorem areas_eraseEnds (slot : CardSlot) (err : Bool) : (eraseEnds slot err s).path.areas = s.path.areas := by
  unfold eraseEnds; dsimp only; (repeat' split) <;> simp
theorem areas_onSlot {f : CardSlot → State → State × Result} (h : ∀ x, (f x s).1.path.areas = s.path.areas) (slot : Byte) :
    (onSlot slot f s).1.path.areas = s.path.areas := by
  unfold onSlot
  split
  · exact h _
  · rfl
@[simp] theorem areas_cardChainOn (h : EntryHead) (group : Word32) (x : CardSlot) :
    (cardChainOn h group x s).1.path.areas = s.path.areas := by
  unfold cardChainOn
  dsimp only
  (repeat' split) <;> simp [acceptChain]
@[simp] theorem areas_cardSleepOn (h : EntryHead) (x : CardSlot) : (cardSleepOn h x s).1.path.areas = s.path.areas := by
  unfold cardSleepOn; dsimp only; (repeat' split) <;> simp
@[simp] theorem areas_cardWakeOn (h : EntryHead) (x : CardSlot) : (cardWakeOn h x s).1.path.areas = s.path.areas := by
  unfold cardWakeOn; dsimp only; (repeat' split) <;> simp
@[simp] theorem areas_cardEjectOn (h : EntryHead) (x : CardSlot) : (cardEjectOn h x s).1.path.areas = s.path.areas := by
  unfold cardEjectOn
  dsimp only
  split
  · rfl
  · (repeat' split) <;> simp
@[simp] theorem areas_settleExpiry (slot : CardSlot) : (settleExpiry slot s).path.areas = s.path.areas := by
  unfold settleExpiry; dsimp only; (repeat' split) <;> simp
@[simp] theorem areas_removeCard (slot : CardSlot) : (removeCard slot s).path.areas = s.path.areas := by
  unfold removeCard; split <;> simp
@[simp] theorem areas_identified (slot : CardSlot) (i : CardIdentity) : (identified slot i s).path.areas = s.path.areas := by
  unfold identified; dsimp only; (repeat' split) <;> simp
@[simp] theorem areas_identResponse (slot : CardSlot) (response : List Byte) (protectInput : Bool) :
    (identResponse slot response protectInput s).path.areas = s.path.areas := by
  unfold identResponse; (repeat' split) <;> simp
@[simp] theorem areas_statusPoll (slot : CardSlot) (elapsed : Nat) : (statusPoll slot elapsed s).path.areas = s.path.areas := by
  unfold statusPoll; dsimp only; (repeat' split) <;> simp
@[simp] theorem areas_unlockPageSeen (slot : CardSlot) (f : Byte) : (unlockPageSeen slot f s).path.areas = s.path.areas := by
  unfold unlockPageSeen; dsimp only; (repeat' split) <;> simp
@[simp] theorem areas_unlockEraseSeen (slot : CardSlot) (f : Byte) : (unlockEraseSeen slot f s).path.areas = s.path.areas := by
  unfold unlockEraseSeen; dsimp only; (repeat' split) <;> simp
@[simp] theorem areas_afterPage (slot : CardSlot) : (afterPage slot s).path.areas = s.path.areas := by
  unfold afterPage; split <;> simp
@[simp] theorem areas_pageWritten (slot : CardSlot) : (pageWritten slot s).path.areas = s.path.areas := by
  unfold pageWritten; dsimp only; (repeat' split) <;> simp
@[simp] theorem areas_pageFails (slot : CardSlot) : (pageFails slot s).path.areas = s.path.areas := by simp [pageFails]
@[simp] theorem areas_pageSeen (slot : CardSlot) (f : Byte) : (pageSeen slot f s).path.areas = s.path.areas := by
  unfold pageSeen; (repeat' split) <;> simp
@[simp] theorem areas_heldNow (slot : CardSlot) : (heldNow slot s).path.areas = s.path.areas := by
  unfold heldNow; dsimp only; (repeat' split) <;> simp
@[simp] theorem areas_eraseSeen (slot : CardSlot) (f : Byte) : (eraseSeen slot f s).path.areas = s.path.areas := by
  unfold eraseSeen; (repeat' split) <;> simp
@[simp] theorem areas_holdSeen (slot : CardSlot) (f : Byte) : (holdSeen slot f s).path.areas = s.path.areas := by
  unfold holdSeen; (repeat' split) <;> simp
@[simp] theorem areas_continueSeen (slot : CardSlot) (f : Byte) : (continueSeen slot f s).path.areas = s.path.areas := by
  unfold continueSeen; split <;> simp
@[simp] theorem areas_wakeDone (slot : CardSlot) : (wakeDone slot s).path.areas = s.path.areas := by
  unfold wakeDone; dsimp only; (repeat' split) <;> simp
@[simp] theorem areas_statusSeen (slot : CardSlot) (f : Byte) : (statusSeen slot f s).path.areas = s.path.areas := by
  unfold statusSeen; (repeat' split) <;> simp
@[simp] theorem areas_statusResponse (slot : CardSlot) (response : List Byte) (protectInput : Bool) (elapsed : Nat) :
    (statusResponse slot response protectInput elapsed s).path.areas = s.path.areas := by
  unfold statusResponse; split <;> simp
@[simp] theorem areas_pageWriteTimeout (slot : CardSlot) : (pageWriteTimeout slot s).path.areas = s.path.areas := by
  unfold pageWriteTimeout; split <;> simp
@[simp] theorem areas_eraseTimeout (slot : CardSlot) : (eraseTimeout slot s).path.areas = s.path.areas := by
  unfold eraseTimeout; dsimp only; (repeat' split) <;> simp
@[simp] theorem areas_wakeTimeout (slot : CardSlot) : (wakeTimeout slot s).path.areas = s.path.areas := by
  unfold wakeTimeout; dsimp only; (repeat' split) <;> simp
@[simp] theorem areas_descriptorFetchDone (slot : CardSlot) (data : List Byte) (protectInput : Bool) :
    (descriptorFetchDone slot data protectInput s).path.areas = s.path.areas := by
  unfold descriptorFetchDone
  split
  · rename_i h
    split <;> simp [areas_nextCompletion h]
  · rfl
@[simp] theorem areas_eraseStart (slot : CardSlot) : (eraseStart slot s).path.areas = s.path.areas := by
  unfold eraseStart; dsimp only; (repeat' split) <;> simp

/-! #### The View Translator -/

@[simp] theorem areas_frameStart (k : Nat) : (frameStart k s).path.areas = s.path.areas := by simp [frameStart]
@[simp] theorem areas_offerFrameWrite (f : FrameRegion) (addr : Nat) : (offerFrameWrite f addr s).path.areas = s.path.areas := by
  unfold offerFrameWrite; dsimp only; (repeat' split) <;> simp
@[simp] theorem areas_takeRecord (offset : Nat) (e : EntryRecord) : (takeRecord offset e s).path.areas = s.path.areas := by
  unfold takeRecord; split <;> simp
@[simp] theorem areas_takePlace (base addr : Nat) (lanes : List LaneByte) (place : Nat) :
    (takePlace base addr lanes s place).path.areas = s.path.areas := by
  unfold takePlace; split <;> simp
@[simp] theorem areas_offerIndexWrite (base addr : Nat) (lanes : List LaneByte) :
    (offerIndexWrite base addr lanes s).path.areas = s.path.areas := by
  simp [offerIndexWrite, areas_foldl (areas_takePlace base addr lanes)]

/-! #### Take, grants and completions -/

@[simp] theorem areas_enqueue (t : Transaction) (pieces : List Piece) (progress : Progress) (snooped : Bool) :
    (enqueue t pieces progress snooped s).path.areas = s.path.areas := rfl
@[simp] theorem areas_forward (t : Transaction) : (forward t s).path.areas = s.path.areas := rfl
@[simp] theorem areas_discardWrite (t : Transaction) : (discardWrite t s).path.areas = s.path.areas := rfl
@[simp] theorem areas_takeAliasRead (base : Nat) (g : AliasGeometry) (addr n : Nat) :
    (takeAliasRead base g addr n s).path.areas = s.path.areas := by
  unfold takeAliasRead; dsimp only; (repeat' split) <;> simp
@[simp] theorem areas_takeIndexLineWrite (addr offset : Nat) (lanes : List LaneByte) :
    (takeIndexLineWrite addr offset lanes s).path.areas = s.path.areas := by
  unfold takeIndexLineWrite; dsimp only; (repeat' split) <;> simp
@[simp] theorem areas_takePageWrite (addr offset : Nat) (lanes : List LaneByte) :
    (takePageWrite addr offset lanes s).path.areas = s.path.areas := by
  unfold takePageWrite; (repeat' split) <;> simp
@[simp] theorem areas_takeRegionWrite (r : Region) (addr : Nat) (lanes : List LaneByte) :
    (takeRegionWrite r addr lanes s).path.areas = s.path.areas := by
  unfold takeRegionWrite; split <;> simp
@[simp] theorem areas_treat (t : Transaction) : (treat t s).path.areas = s.path.areas := by
  unfold treat
  split
  · split <;> simp
  · rfl
  · simp
  · split <;> simp
@[simp] theorem areas_holdTimerExpiry : (holdTimerExpiry s).path.areas = s.path.areas := by
  unfold holdTimerExpiry; split <;> simp
@[simp] theorem areas_handOverProducer (p : Word16) : (handOverProducer p s).path.areas = s.path.areas := by
  unfold handOverProducer; split <;> simp
@[simp] theorem areas_handOverConsumer (v : Word16) : (handOverConsumer v s).path.areas = s.path.areas := by
  unfold handOverConsumer
  exact areas_fillRing _ _
@[simp] theorem areas_snoopProducer (addr : Nat) (lanes : List LaneByte) :
    (snoopProducer addr lanes s).path.areas = s.path.areas := by
  unfold snoopProducer
  split
  · exact areas_handOverProducer _
  · rfl
@[simp] theorem areas_snoopConsumer (addr : Nat) (lanes : List LaneByte) :
    (snoopConsumer addr lanes s).path.areas = s.path.areas := by
  unfold snoopConsumer; split <;> simp
@[simp] theorem areas_snoop (t : Transaction) : (snoop t s).path.areas = s.path.areas := by
  unfold snoop; split <;> simp
@[simp] theorem areas_issueDown (t : Transaction) (d : Destination) : (issueDown t d s).path.areas = s.path.areas := rfl
@[simp] theorem areas_updateEntry (serial : Nat) (f : QueueEntry → QueueEntry) :
    (updateEntry serial f s).path.areas = s.path.areas := rfl
@[simp] theorem areas_grantHost (e : QueueEntry) (p : Piece) : (grantHost e p s).path.areas = s.path.areas := by
  unfold grantHost; split <;> simp
@[simp] theorem areas_grantAudio : (grantAudio s).path.areas = s.path.areas := by
  unfold grantAudio; split <;> simp
@[simp] theorem areas_grantCard (slot : CardSlot) : (grantCard slot s).path.areas = s.path.areas := by
  unfold grantCard; dsimp only; (repeat' split) <;> simp
@[simp] theorem areas_grantClip : (grantClip s).path.areas = s.path.areas := by
  unfold grantClip; split <;> simp
@[simp] theorem areas_grantCommand : (grantCommand s).path.areas = s.path.areas := by
  unfold grantCommand; split <;> simp
@[simp] theorem areas_rewriteStatus : (rewriteStatus s).path.areas = s.path.areas := by
  unfold rewriteStatus; split <;> simp
@[simp] theorem areas_grantReport : (grantReport s).path.areas = s.path.areas := by
  unfold grantReport; split <;> simp
@[simp] theorem areas_grantInternal (r : Requester) : (grantInternal r s).path.areas = s.path.areas := by
  unfold grantInternal; split <;> simp
@[simp] theorem areas_setHostGrants (n : Nat) : (setHostGrants n s).path.areas = s.path.areas := rfl
@[simp] theorem areas_grant : (grant s).path.areas = s.path.areas := by
  unfold grant; (repeat' split) <;> simp
@[simp] theorem areas_hostCompletion (data : List Byte) : (hostCompletion data s).path.areas = s.path.areas := by
  unfold hostCompletion
  split
  · rename_i h
    split <;> simp [areas_nextCompletion h]
  · rfl
@[simp] theorem areas_upstreamCompletion : (upstreamCompletion s).path.areas = s.path.areas := by
  unfold upstreamCompletion
  split
  · split <;> rfl
  · rfl
@[simp] theorem areas_reportProducerAck : (reportProducerAck s).path.areas = s.path.areas := by
  unfold reportProducerAck
  split
  · rename_i s1 h
    simp [areas_nextCompletion h]
  · rfl

/-! #### Owners of the regions and SOFT_RESET -/

@[simp] theorem areas_zeroShifts : (zeroShifts s).path.areas = s.path.areas := by simp [zeroShifts]
@[simp] theorem areas_emptySlots : (emptySlots s).path.areas = s.path.areas := by simp [emptySlots]
@[simp] theorem areas_ackConditionsBody (set : Word16) : (ackConditionsBody set s).1.path.areas = s.path.areas := by
  unfold ackConditionsBody; split <;> simp
@[simp] theorem areas_setNoticeMaskBody (set : Word16) : (setNoticeMaskBody set s).1.path.areas = s.path.areas := by
  unfold setNoticeMaskBody; split <;> simp
@[simp] theorem areas_softResetTap : (softResetTap s).path.areas = s.path.areas := by simp [softResetTap]
@[simp] theorem areas_softResetClip : (softResetClip s).path.areas = s.path.areas := by simp [softResetClip]
@[simp] theorem areas_drainCard (slot : CardSlot) (phase : CardPhase) : (drainCard slot phase s).path.areas = s.path.areas := by
  unfold drainCard; (repeat' split) <;> simp
@[simp] theorem areas_softResetCard (slot : CardSlot) : (softResetCard slot s).path.areas = s.path.areas := by
  unfold softResetCard; dsimp only; (repeat' split) <;> simp
@[simp] theorem areas_softResetView : (softResetView s).path.areas = s.path.areas := by simp [softResetView]
@[simp] theorem areas_softResetControl : (softResetControl s).path.areas = s.path.areas := by simp [softResetControl]
@[simp] theorem areas_softReset : (softReset s).path.areas = s.path.areas := by simp [softReset]

end

end Sys2Proof.Machine

namespace Sys2Proof.Machine

/-! ### Rows that leave the areas as they are -/

/-- A row that answers a state answers one with the same areas. -/
def rowKeepsAreas (o : Outcome) (s : State) : Prop := ∀ t, o = .next t → t.path.areas = s.path.areas

theorem rowKeepsAreas_next {s t : State} (h : t.path.areas = s.path.areas) : rowKeepsAreas (.next t) s := fun _ ht => by
  cases ht
  exact h

theorem rowKeepsAreas_fault {s : State} {f : Fault} : rowKeepsAreas (.fault f) s := fun _ ht => by simp at ht

theorem rowKeepsAreas_act {s : State} {f : State → State} (h : (f s).path.areas = s.path.areas) : rowKeepsAreas (act f s) s := by
  refine rowKeepsAreas_next ?_
  split
  · rfl
  · exact h

theorem rowKeepsAreas_command {body : State → State × Result} (h : ∀ u, (body u).1.path.areas = u.path.areas) (s : State) :
    rowKeepsAreas (.next (runCommand s body)) s := rowKeepsAreas_next (areas_runCommand h s)

theorem rowKeepsAreas_onSlot {f : CardSlot → State → State × Result} (h : ∀ x {u}, (f x u).1.path.areas = u.path.areas) (slot : Byte)
    (s : State) : rowKeepsAreas (.next (runCommand s (onSlot slot f))) s :=
  rowKeepsAreas_command (fun _ => areas_onSlot (fun x => h x) slot) s

/-- The rows that may change the level of RESET_N, the memory size or the Region Table (R74, R75, R85, R86). -/
def changesAreas : Instr → Bool
  | .setRegion _ _ _ _ _ | .clearRegion _ _ | .resetNAssert | .resetNRelease _ _ _ => true
  | _ => false

theorem rowKeepsAreas_exec {i : Instr} (h1 : changesAreas i = false) (s : State) : rowKeepsAreas (exec i s) s := by
  cases i with
  | hostTransactionTake t =>
    simp only [exec, execHostTransactionTake]
    split
    · exact rowKeepsAreas_fault
    · split
      · exact rowKeepsAreas_next rfl
      · refine rowKeepsAreas_next ?_
        split <;> simp
  | holdTimerExpiry => exact rowKeepsAreas_act (areas_holdTimerExpiry)
  | downstreamGrant => exact rowKeepsAreas_next areas_grant
  | hostDownstreamCompletion data => exact rowKeepsAreas_next (areas_hostCompletion _)
  | upstreamCompletion => exact rowKeepsAreas_next areas_upstreamCompletion
  | commandProducerWrite =>
    refine rowKeepsAreas_next ?_
    split <;> simp
  | reportConsumerWrite =>
    refine rowKeepsAreas_next ?_
    split <;> simp
  | reportProducerAck => exact rowKeepsAreas_act (areas_reportProducerAck)
  | statusTimerExpiry =>
    refine rowKeepsAreas_act ?_
    split <;> simp
  | unknownCommand h code =>
    simp only [exec, execUnknownCommand]
    split
    · exact rowKeepsAreas_fault
    · exact rowKeepsAreas_command (fun _ => rfl) s
  | setRegion h record base size spec => cases h1
  | clearRegion h record => cases h1
  | recConfig h mode gripRec chunkMax chunkMin => exact rowKeepsAreas_command (fun _ => by simp) s
  | recStart h clip => exact rowKeepsAreas_command (fun _ => by simp) s
  | recStop h => exact rowKeepsAreas_command (fun _ => by simp) s
  | cardChain h slot group =>
    refine rowKeepsAreas_onSlot (fun x {u} => ?_) slot s
    split
    · exact areas_cardChainOn h group x
    · rfl
  | cardSleep h slot => exact rowKeepsAreas_onSlot (fun x {_} => areas_cardSleepOn h x) slot s
  | cardWake h slot => exact rowKeepsAreas_onSlot (fun x {_} => areas_cardWakeOn h x) slot s
  | cardEject h slot => exact rowKeepsAreas_onSlot (fun x {_} => areas_cardEjectOn h x) slot s
  | stabConfig h biasX biasY dirX dirY kSteady kPan panThreshold panEnter panExit => exact rowKeepsAreas_command (fun _ => by simp) s
  | stabEnable h => exact rowKeepsAreas_command (fun _ => rfl) s
  | stabDisable h => exact rowKeepsAreas_command (fun _ => by simp) s
  | focalLoad h addr => exact rowKeepsAreas_next (areas_runTableCommand _ _ _ _)
  | focalLoadReadReturn data => exact rowKeepsAreas_act (areas_focalReturn _)
  | zoomConfig h addr seg e tolerance => exact rowKeepsAreas_next (areas_runTableCommand _ _ _ _)
  | zoomConfigReadReturn data => exact rowKeepsAreas_act (areas_zoomConfigReturn _)
  | zoomHome h => exact rowKeepsAreas_next (areas_runMove _)
  | zoomGoto h target maxLevel => exact rowKeepsAreas_next (areas_runMove _)
  | zoomSpeed h level => exact rowKeepsAreas_command (fun _ => by simp) s
  | zoomStop h => exact rowKeepsAreas_command (fun _ => by simp) s
  | audioConfig h role enables => exact rowKeepsAreas_command (fun _ => by simp) s
  | audioOff h => exact rowKeepsAreas_command (fun _ => by simp) s
  | accConfigBegin h => exact rowKeepsAreas_command (fun _ => by simp) s
  | accBufferSet h index direction identifier owner mode staleCycles => exact rowKeepsAreas_command (fun _ => by simp) s
  | accFilterSet h acceptEnable acceptCode acceptMask rejectEnable rejectCode rejectMask => exact rowKeepsAreas_command (fun _ => by simp) s
  | accLinkSet h period q => exact rowKeepsAreas_command (fun _ => by simp) s
  | accConfigEnd h => exact rowKeepsAreas_command (fun _ => by simp) s
  | accSend h index length data =>
    simp only [exec, execAccSend]
    split
    · exact rowKeepsAreas_fault
    · exact rowKeepsAreas_command (fun _ => areas_accSendBody _ _ _ _) s
  | ackConditions h set => exact rowKeepsAreas_command (fun _ => by simp) s
  | setNoticeMask h set => exact rowKeepsAreas_command (fun _ => by simp) s
  | softReset h =>
    refine rowKeepsAreas_next ?_
    split
    · rfl
    · rename_i s1 hs1
      simp [areas_takeEntry hs1]
  | chunkChoice => exact rowKeepsAreas_act (areas_chunkChoice)
  | videoPayloadReadReturn data => exact rowKeepsAreas_act (areas_videoPayloadReadReturn _)
  | audioPayloadReadReturn data => exact rowKeepsAreas_act (areas_audioPayloadReadReturn _)
  | pageOpen => exact rowKeepsAreas_act (areas_pageOpen)
  | clipClose => exact rowKeepsAreas_act (areas_clipClose)
  | recordingStopped => exact rowKeepsAreas_act (areas_recordingStopped)
  | cardDetectActive slot =>
    refine rowKeepsAreas_next ?_
    split <;> simp
  | cardSettleExpiry slot => exact rowKeepsAreas_act (areas_settleExpiry _)
  | cardRemoval slot =>
    refine rowKeepsAreas_next ?_
    (repeat' split) <;> simp
  | cardIdentRetry slot => exact rowKeepsAreas_act (by simp)
  | cardIdentResponse slot response protectInput => exact rowKeepsAreas_act (areas_identResponse _ _ _)
  | cardIdentTimeout slot =>
    refine rowKeepsAreas_act ?_
    split <;> simp
  | cardStatusPoll slot elapsed => exact rowKeepsAreas_act (areas_statusPoll _ _)
  | cardStatusResponse slot response protectInput elapsed => exact rowKeepsAreas_act (areas_statusResponse _ _ _ _)
  | cardPageWriteTimeout slot => exact rowKeepsAreas_act (areas_pageWriteTimeout _)
  | cardEraseTimeout slot => exact rowKeepsAreas_act (areas_eraseTimeout _)
  | cardWakeTimeout slot => exact rowKeepsAreas_act (areas_wakeTimeout _)
  | cardDescriptorFetchDone slot data protectInput => exact rowKeepsAreas_act (areas_descriptorFetchDone _ _ _)
  | cardRollover slot =>
    refine rowKeepsAreas_act ?_
    split <;> simp
  | cardEraseStart slot => exact rowKeepsAreas_act (areas_eraseStart _)
  | cardPageWriteStart slot =>
    refine rowKeepsAreas_act ?_
    split <;> simp
  | gyroSampleInstant =>
    refine rowKeepsAreas_act ?_
    split <;> simp
  | gyroAnswer status yawLow yawHigh pitchLow pitchHigh => exact rowKeepsAreas_act (areas_gyroAnswer _ _ _ _ _)
  | gyroReadTimeout =>
    refine rowKeepsAreas_act ?_
    split <;> simp
  | rampTick => exact rowKeepsAreas_act (by simp)
  | lensTimerUnderflow => exact rowKeepsAreas_act (by simp)
  | encoderEdge samples => exact rowKeepsAreas_act (f := fun u => u.setZoom (samples.foldl encSample u.zoom)) rfl
  | homeRise samples => exact rowKeepsAreas_act (by simp)
  | samplePeriod received => exact rowKeepsAreas_act (areas_samplePeriod _)
  | frameSync edges sdin => exact rowKeepsAreas_act (areas_frameSync _ _)
  | missingFrame => exact rowKeepsAreas_act (areas_missingFrame)
  | audioSlipTimerExpiry =>
    refine rowKeepsAreas_act ?_
    split <;> simp
  | meterWindowEnd =>
    refine rowKeepsAreas_act ?_
    split <;> simp
  | cycleInstant => exact rowKeepsAreas_act (areas_cycleInstant)
  | accMessageReceive slot m =>
    simp only [exec, execAccMessageReceive]
    split
    · exact rowKeepsAreas_fault
    · exact rowKeepsAreas_act (areas_messageReceive _ _)
  | accSlotEnd slot =>
    refine rowKeepsAreas_act ?_
    split <;> simp
  | accSlotStart slot => exact rowKeepsAreas_act (areas_slotStart _)
  | accTransmitDone => exact rowKeepsAreas_act (areas_transmitDone)
  | resetNAssert => cases h1
  | resetNRelease memtop encSample homeSample => cases h1

end Sys2Proof.Machine

namespace Sys2Proof.Machine

/-! ### The four rows that change the Region Table or the edges' fields (R74, R75, R85, R86) -/

theorem regionsDisjoint_of_empty {t : State} (h : ∀ i (hi : i < 8), t.path.regions[i] = none) : regionsDisjoint t := by
  refine ⟨fun _ => h, fun i hi r hr => ?_, fun i j hi hj r q _ _ hr _ => ?_⟩
  all_goals
    rw [h i hi] at hr
    cases hr

/-- A table whose regions all lie where records of a disjoint table lie is disjoint. -/
theorem regionsDisjoint_of_within {s t : State} (hs : regionsDisjoint s) (hlow : t.path.resetLow = s.path.resetLow)
    (hmem : t.path.memSize = s.path.memSize)
    (within : ∀ i (hi : i < 8) r, t.path.regions[i] = some r →
      ∃ q, s.path.regions[i] = some q ∧ q.base = r.base ∧ q.size = r.size) : regionsDisjoint t := by
  obtain ⟨empty, below, apart⟩ := hs
  refine ⟨fun low i hi => ?_, fun i hi r hr => ?_, fun i j hi hj r q addr ne hr hq => ?_⟩
  · have none_here := empty (hlow ▸ low) i hi
    cases hr : t.path.regions[i] with
    | none => rfl
    | some r =>
      obtain ⟨q, hq, -⟩ := within i hi r hr
      rw [none_here] at hq
      cases hq
  · obtain ⟨q, hq, hbase, hsize⟩ := within i hi r hr
    have fits := below i hi q hq
    rwa [hbase, hsize, controlPage, ← hmem] at fits
  · obtain ⟨r', hr', hbase, hsize⟩ := within i hi r hr
    obtain ⟨q', hq', hbase', hsize'⟩ := within j hj q hq
    have apart' := apart i j hi hj r' q' addr ne hr' hq'
    rwa [Region.holds, Region.holds, hbase, hsize, hbase', hsize'] at apart'

theorem areas_fields {s t : State} (h : t.path.areas = s.path.areas) :
    t.path.resetLow = s.path.resetLow ∧ t.path.memSize = s.path.memSize ∧ t.path.regions = s.path.regions := by
  simpa [Path.areas] using h

theorem regionsDisjoint_of_areas {s t : State} (h : t.path.areas = s.path.areas) (hs : regionsDisjoint s) : regionsDisjoint t := by
  obtain ⟨hlow, hmem, htable⟩ := areas_fields h
  refine regionsDisjoint_of_within hs hlow hmem fun i hi r hr => ⟨r, ?_, rfl, rfl⟩
  simpa [htable] using hr

/-- A region that passes the general checks joins a disjoint table (R74). -/
theorem regionsDisjoint_withRecord {s : State} {record base size : Nat} {k : RegionKind} (hs : regionsDisjoint s)
    (hlow : s.path.resetLow = false) (hfit : regionFits s record base size) :
    regionsDisjoint (s.setPath { s.path with regions := withRecord s record (some ⟨base, size, k⟩) }) := by
  obtain ⟨-, below, apart⟩ := hs
  obtain ⟨-, -, -, -, top, clear⟩ := hfit
  have clearOf : ∀ {i q addr} (hi : i < 8), s.path.regions[i] = some q → q.holds addr = true →
      ¬(base ≤ addr ∧ addr < base + size) := fun {i q addr} hi hq hold => by
    have separate := clear q (mem_regions.mpr ⟨i, hi, by rw [Vector.getElem?_eq_getElem hi, hq]⟩)
    simp only [Region.holds, Bool.and_eq_true, decide_eq_true_eq] at hold
    omega
  refine ⟨fun low => ?_, fun i hi r hr => ?_, fun i j hi hj r q addr ne hr hq => ?_⟩
  · rw [State.setPath_path, hlow] at low
    cases low
  · simp only [State.setPath_path, withRecord_getElem hi] at hr
    split at hr
    · cases hr
      exact top
    · exact below i hi r hr
  · simp only [State.setPath_path, withRecord_getElem hi, withRecord_getElem hj] at hr hq
    rintro ⟨holdr, holdq⟩
    split at hr <;> split at hq
    · omega
    · cases hr
      exact clearOf hj hq holdq (by simpa [Region.holds] using holdr)
    · cases hq
      exact clearOf hi hr holdr (by simpa [Region.holds] using holdq)
    · exact apart i j hi hj r q addr ne hr hq ⟨holdr, holdq⟩

/-- An entry returns only while the part runs (R85). -/
theorem running_of_takeEntry {s s1 : State} (h : takeEntry s = some s1) : s.path.resetLow = false := by
  unfold takeEntry at h
  split at h
  · cases h
  · rename_i low
    simpa using low

theorem regionsDisjoint_runCommand {body : State → State × Result} {s : State}
    (h : ∀ u, u.path.resetLow = false → regionsDisjoint u → regionsDisjoint (body u).1) (hs : regionsDisjoint s) :
    regionsDisjoint (runCommand s body) := by
  unfold runCommand
  split
  · exact hs
  · rename_i s1 hs1
    have same := areas_takeEntry hs1
    obtain ⟨hlow, -, -⟩ := areas_fields same
    have body1 := h s1 (hlow.trans (running_of_takeEntry hs1)) (regionsDisjoint_of_areas same hs)
    exact regionsDisjoint_of_areas (by simp) body1

@[simp] theorem regionSet_path (size : Nat) (k : RegionKind) (s : State) : (regionSet size k s).path = s.path := by
  cases k <;> rfl

theorem regionsDisjoint_setRegionBody {record : Byte} {base size : Word32} {spec : RegionSpec} {s : State}
    (hlow : s.path.resetLow = false) (hs : regionsDisjoint s) : regionsDisjoint (setRegionBody record base size spec s).1 := by
  by_cases hbad : ¬regionFits s record.toNat base.toNat size.toNat ∨
      ∀ k, kindOf s size.toNat spec = some k → ¬lacksKind s (kindNumber k)
  · rwa [setRegionBody_refuses hbad]
  · push Not at hbad
    obtain ⟨hfit, k, hk, hfree⟩ := hbad
    rw [setRegionBody_enters hk hfit hfree]
    exact regionsDisjoint_of_areas (by simp) (regionsDisjoint_withRecord (k := k) hs hlow hfit)

theorem regionsDisjoint_setRegion {h : EntryHead} {record : Byte} {base size : Word32} {spec : RegionSpec} {s t : State}
    (hs : regionsDisjoint s) (ht : execSetRegion h record base size spec s = .next t) : regionsDisjoint t := by
  unfold execSetRegion at ht
  split at ht
  · cases ht
  · cases ht
    exact regionsDisjoint_runCommand (fun _ => regionsDisjoint_setRegionBody) hs

theorem unbind_range {o : Option Region} {r : Region} (h : unbind o = some r) : ∃ q, o = some q ∧ q.base = r.base ∧ q.size = r.size := by
  unfold unbind at h
  split at h
  · cases h
    exact ⟨_, rfl, rfl, rfl⟩
  · exact ⟨r, h, rfl, rfl⟩

/-- What the owner of a cleared region does leaves every other region where it was (R75). -/
theorem regionsDisjoint_regionCleared (k : RegionKind) {s : State} (hs : regionsDisjoint s) : regionsDisjoint (regionCleared k s) := by
  cases k with
  | frame n bpp w h st =>
    refine regionsDisjoint_of_within hs rfl rfl fun i hi r hr => unbind_range ?_
    simpa [regionCleared, zeroShifts] using hr
  | _ => exact regionsDisjoint_of_areas (by simp [regionCleared]) hs

theorem regionsDisjoint_clearRegionBody {record : Byte} {s : State} (hs : regionsDisjoint s) :
    regionsDisjoint (clearRegionBody record s).1 := by
  unfold clearRegionBody
  split
  · rename_i hrec
    split
    · exact hs
    · split
      · exact hs
      · refine regionsDisjoint_regionCleared _ (regionsDisjoint_of_within hs rfl rfl fun i hi r hr => ⟨r, ?_, rfl, rfl⟩)
        rw [setRecord_eq hrec, State.setPath_path] at hr
        simp only [withRecord_getElem hi] at hr
        split at hr
        · cases hr
        · exact hr
  · exact hs

theorem regionsDisjoint_resetAssert (s : State) : regionsDisjoint (resetAssert s) :=
  regionsDisjoint_of_empty fun i hi => by simp [resetAssert_path, Vector.getElem_replicate]

theorem resetRelease_regions (memtop : BitVec 3) (enc home : Bool) (s : State) :
    (resetRelease memtop enc home s).path.regions = s.path.regions := by
  simp [resetRelease]

/-! ### Every step (R73) -/

theorem regionsDisjoint_exec {i : Instr} {s t : State} (hs : regionsDisjoint s) (ht : exec i s = .next t) : regionsDisjoint t := by
  cases hi : changesAreas i with
  | false => exact regionsDisjoint_of_areas (rowKeepsAreas_exec hi s t ht) hs
  | true =>
    cases i with
    | setRegion h record base size spec => exact regionsDisjoint_setRegion (h := h) hs ht
    | clearRegion h record =>
      cases ht
      exact regionsDisjoint_runCommand (fun _ _ => regionsDisjoint_clearRegionBody) hs
    | resetNAssert =>
      cases ht
      split
      · exact hs
      · exact regionsDisjoint_resetAssert s
    | resetNRelease memtop enc home =>
      cases ht
      split
      · rename_i low
        obtain ⟨empty, -⟩ := hs
        exact regionsDisjoint_of_empty fun i hi => by
          simpa only [resetRelease_regions] using empty low i hi
      · exact hs
    | _ => cases hi

/-- Settles O20: a new region passes the checks of R74 against every record, and no other row moves a region, the control page or
the level of RESET_N but the two edges, which leave the table empty. -/
theorem regionsStayDisjoint : Obligations.RegionsStayDisjoint := by
  unfold Obligations.RegionsStayDisjoint
  intro s t hs ht
  unfold step at ht
  split at ht
  · cases ht
    exact hs
  · exact regionsDisjoint_exec (s := s.setPending _) (regionsDisjoint_of_areas (by simp) hs) ht

end Sys2Proof.Machine

namespace Sys2Proof.Machine

/-! ### What take does with each area (R70, R73, R77, R78, R85) -/

theorem canTake_eq_false {s : State} (h : 8 ≤ s.path.queue.length ∨ ∃ e ∈ s.path.queue, e.progress = .held) : canTake s = false := by
  rw [← Bool.not_eq_true, canTake_iff]
  rintro ⟨room, free⟩
  rcases h with full | ⟨e, he, held⟩
  · omega
  · exact free e he held

/-- While RESET_N is low the path is a bypass (R85). -/
theorem exec_take_of_resetLow {x : Transaction} {s : State} (hwf : x.wellFormed = true) (hopen : canTake s = true)
    (low : s.path.resetLow = true) : exec (.hostTransactionTake x) s = .next (forward x s) := by
  simp [exec, execHostTransactionTake, hwf, hopen, low]

theorem exec_take_of_closed {x : Transaction} {s : State} (hwf : x.wellFormed = true) (hclosed : canTake s = false) :
    exec (.hostTransactionTake x) s = .next s := by
  simp [exec, execHostTransactionTake, hwf, hclosed]

theorem exec_take_of_malformed {x : Transaction} (s : State) (hwf : x.wellFormed = false) :
    exec (.hostTransactionTake x) s = .fault .malformedOperand := by
  simp [exec, execHostTransactionTake, hwf]

/-- A read that lies in no ALIAS region is forwarded (R77). -/
theorem treat_plainRead {a n : Nat} {s : State} (h : ∀ r, regionAt s a = some r → ∀ g, r.kind ≠ .aliasView g) :
    treat (.read a n) s = forward (.read a n) s := by
  unfold treat
  cases hr : regionAt s a with
  | none => simp only [Transaction.addr, hr]
  | some r =>
    simp only [Transaction.addr, hr]
    split
    · rename_i g hg
      exact absurd hg (h r hr g)
    · rfl

theorem treat_aliasRead {a n base size : Nat} {g : AliasGeometry} {s : State} (h : regionAt s a = some ⟨base, size, .aliasView g⟩) :
    treat (.read a n) s = takeAliasRead base g a n s := by
  unfold treat
  simp only [Transaction.addr, h]

/-- A write outside every region: the control page is treated by offset, DRAM is plain (R77, R78). -/
theorem treat_write_noRegion {a : Nat} {lanes : List LaneByte} {s : State} (h : regionAt s a = none) :
    treat (.write a lanes) s =
      if inControlPage s a then takePageWrite a (a - controlPage s) lanes s else forward (.write a lanes) s := by
  unfold treat
  simp only [Transaction.addr, h]

theorem inControlPage_iff (s : State) (a : Nat) : inControlPage s a = true ↔ controlPage s ≤ a ∧ a < s.path.memSize := by
  simp [inControlPage]

theorem treat_plainWrite {a : Nat} {lanes : List LaneByte} {s : State} (h : regionAt s a = none)
    (outside : a < controlPage s + 0x400 ∨ controlPage s + 0xE80 ≤ a) : treat (.write a lanes) s = forward (.write a lanes) s := by
  rw [treat_write_noRegion h]
  split
  · rename_i hin
    have below := (inControlPage_iff s a).mp hin
    rw [takePageWrite, if_neg (by omega), if_neg (by omega)]
  · rfl

theorem treat_areaWrite {a : Nat} {lanes : List LaneByte} {s : State} (h : regionAt s a = none) (low : controlPage s + 0x400 ≤ a)
    (high : a < controlPage s + 0xE00) (top : a < s.path.memSize) : treat (.write a lanes) s = discardWrite (.write a lanes) s := by
  rw [treat_write_noRegion h, if_pos ((inControlPage_iff s a).mpr (by omega)), takePageWrite, if_pos (by omega)]

/-- The line of the index words lies in the control page (R187). -/
theorem treat_indexLineWrite {a : Nat} {lanes : List LaneByte} {s : State} (h : regionAt s a = none) (size : 4096 ≤ s.path.memSize)
    (low : controlPage s + 0xE00 ≤ a) (high : a < controlPage s + 0xE80) :
    treat (.write a lanes) s = takeIndexLineWrite a (a - controlPage s) lanes s := by
  have top : controlPage s + 4096 = s.path.memSize := by
    rw [controlPage, Config.pageBytes]
    omega
  rw [treat_write_noRegion h, if_pos ((inControlPage_iff s a).mpr (by omega)), takePageWrite, if_neg (by omega), if_pos (by omega)]

theorem changesOnly_enqueue (x : Transaction) (pieces : List Piece) (progress : Progress) (snooped : Bool) (s : State) :
    changesOnly [.path] s (enqueue x pieces progress snooped s) := changesOnly_setPath _ s

/-- Settles O6: the treatments of plain traffic are the bypass of a low RESET_N, a read outside the view and a write outside the
part's areas. -/
theorem takeForwardsPlainTraffic : Obligations.TakeForwardsPlainTraffic := by
  unfold Obligations.TakeForwardsPlainTraffic
  refine ⟨fun x s hwf room free plain => ?_,
    fun x s => ⟨fun hwf h => exec_take_of_closed hwf (canTake_eq_false h), fun hwf => exec_take_of_malformed s hwf⟩⟩
  suffices taken : exec (.hostTransactionTake x) s = .next (forward x s) from ⟨_, taken, changesOnly_enqueue x _ _ _ s, rfl⟩
  cases low : s.path.resetLow with
  | true => exact exec_take_of_resetLow hwf (canTake_iff.mpr ⟨room, free⟩) low
  | false =>
    rw [exec_take_of_portOpen ⟨low, room, free⟩ hwf]
    rcases plain with reset | ⟨a, n, rfl, noView⟩ | ⟨a, lanes, rfl, noRegion, outside⟩
    · rw [low] at reset
      cases reset
    · rw [treat_plainRead noView]
    · rw [treat_plainWrite noRegion outside]

/-! ### The lanes of the index line (R78, R188) -/

theorem length_clearOwnLanes (offset : Nat) (lanes : List LaneByte) : (clearOwnLanes offset lanes).length = lanes.length := by
  induction lanes generalizing offset with
  | nil => rfl
  | cons l rest ih => rw [clearOwnLanes, List.length_cons, List.length_cons, ih]

/-- A lane keeps its byte, and its enable outside page offsets 0xE04 to 0xE0B (R78). -/
theorem getElem?_clearOwnLanes (offset i : Nat) (lanes : List LaneByte) : (clearOwnLanes offset lanes)[i]? =
    lanes[i]?.map fun l => (l.1, l.2 && !(0xE04 ≤ offset + i && offset + i < 0xE0C)) := by
  induction lanes generalizing offset i with
  | nil => rfl
  | cons l rest ih =>
    rw [clearOwnLanes]
    cases i with
    | zero => rfl
    | succ i => rw [List.getElem?_cons_succ, List.getElem?_cons_succ, ih, Nat.add_right_comm, Nat.add_assoc]

/-- Settles O7: every write into an area or a word of the part joins the queue DONE, but for a line of the index words that keeps an
enabled lane of the host's own words. -/
theorem takeGuardsThePartsAreas : Obligations.TakeGuardsThePartsAreas := by
  unfold Obligations.TakeGuardsThePartsAreas
  refine ⟨fun a lanes s hwf hrun room free => ?_, fun a lanes s hwf hrun room free noRegion size low high => ?_⟩
  · have taken := exec_take_of_portOpen ⟨hrun, room, free⟩ hwf
    refine ⟨discardWrite (.write a lanes) s, changesOnly_enqueue _ _ _ _ s, rfl, ?_, ?_, ?_⟩
    · rintro ⟨r, hr, hk⟩
      rw [taken, treat_regionWrite hr, takeRegionWrite, hk]
    · rintro ⟨noRegion, low, high, top⟩
      rw [taken, treat_areaWrite noRegion low high top]
    · intro r g hr hk
      rw [taken, treat_regionWrite hr, takeRegionWrite, hk]
  · have taken := exec_take_of_portOpen ⟨hrun, room, free⟩ hwf
    rw [treat_indexLineWrite noRegion size low high, takeIndexLineWrite] at taken
    refine ⟨_, clearOwnLanes (a - controlPage s) lanes,
      if (clearOwnLanes (a - controlPage s) lanes).any (·.2) then
        ⟨s.path.nextSerial, .write a lanes, [⟨.write a (clearOwnLanes (a - controlPage s) lanes), 0, lanes.length⟩], 0, 0, .waiting,
          [], true⟩
      else ⟨s.path.nextSerial, .write a lanes, [], 0, 0, .done, [], false⟩,
      taken, ?_, ?_, length_clearOwnLanes _ _, fun i l hl => ?_, fun some_left => ?_, fun none_left => ?_⟩
    · split <;> exact changesOnly_enqueue _ _ _ _ s
    · split <;> simp [enqueue, discardWrite, length_clearOwnLanes]
    · have above : 0xE04 ≤ a - controlPage s + i ↔ controlPage s + 0xE04 ≤ a + i := by omega
      have upTo : a - controlPage s + i < 0xE0C ↔ a + i < controlPage s + 0xE0C := by omega
      rw [getElem?_clearOwnLanes, hl, Option.map_some, decide_eq_decide.mpr above, decide_eq_decide.mpr upTo]
    · rw [if_pos (List.any_eq_true.mpr some_left)]
    · rw [if_neg (by simpa using none_left)]

/-! ### Completions of the queue (R71, R72, R80) -/

theorem dataFit_of_shape {x : Transaction} {data : List Byte}
    (h : (∃ a n, x = .read a n ∧ data.length = n) ∨ ∃ a lanes, x = .write a lanes ∧ data = []) : dataFit x data = true := by
  rcases h with ⟨a, n, rfl, hlen⟩ | ⟨a, lanes, rfl, rfl⟩
  · exact beq_iff_eq.mpr hlen
  · rfl

/-- An update of an entry whose serial stands alone touches that entry only. -/
theorem map_updateEntry {e : QueueEntry} {pre post : List QueueEntry} (f : QueueEntry → QueueEntry)
    (alone : ∀ q ∈ pre ++ post, q.serial ≠ e.serial) :
    (pre ++ e :: post).map (fun q => if q.serial = e.serial then f q else q) = pre ++ f e :: post := by
  have others : ∀ l : List QueueEntry, (∀ q ∈ l, q.serial ≠ e.serial) →
      l.map (fun q => if q.serial = e.serial then f q else q) = l := fun l h =>
    (List.map_congr_left fun q hq => if_neg (h q hq)).trans (List.map_id l)
  rw [List.map_append, List.map_cons, if_pos rfl, others pre fun q hq => alone q (List.mem_append_left _ hq),
    others post fun q hq => alone q (List.mem_append_right _ hq)]

/-- A completion that fits takes its bytes to their place; a write has none (R71, R80). -/
theorem completeEntry_of_fit {e : QueueEntry} {p : Piece} {data : List Byte} (hp : e.pieces[e.returned]? = some p)
    (hfit : dataFit p.txn data = true) : completeEntry data e = { e with
      returned := e.returned + 1
      data := e.data ++ (data.drop p.skip).take p.count
      progress := if e.returned + 1 = e.pieces.length then .done else e.progress } := by
  rw [completeEntry, hp]
  cases hx : p.txn with
  | read a n => simp [hx, isWrite]
  | write a lanes =>
    have none_came : data = [] := by simpa [dataFit, hx] using hfit
    simp [hx, isWrite, none_came]

/-- Settles O10: the completion's serial names one entry, and `completeEntry` is all that happens to it. -/
theorem readDataReachTheirPlaces : Obligations.ReadDataReachTheirPlaces := by
  unfold Obligations.ReadDataReachTheirPlaces
  intro s x data e p pre post hhead hqueue alone hp hx hdata
  have hfit : dataFit x data = true := dataFit_of_shape hdata
  have completed : exec (.hostDownstreamCompletion data) s =
      .next (updateEntry e.serial (completeEntry data) (afterReturn s)) := by
    simp only [exec, execHostDownstreamCompletion, hostCompletion, nextCompletion_of_head hhead, hfit, if_true]
  refine ⟨_, completed, changesOnly_trans (changesOnly_setPath _ s) (changesOnly_setPath _ _), ?_⟩
  subst hx
  simp only [updateEntry, afterReturn, State.setPath_path, hqueue, map_updateEntry _ alone, completeEntry_of_fit hp hfit]

/-- Settles O11: the row looks at the front of the queue alone. -/
theorem hostCompletionsKeepTheirOrder : Obligations.HostCompletionsKeepTheirOrder := by
  unfold Obligations.HostCompletionsKeepTheirOrder
  intro s e rest hqueue
  simp only [exec, execUpstreamCompletion, upstreamCompletion, hqueue]
  refine ⟨fun done => ⟨_, by rw [if_pos done], changesOnly_setPath _ s, rfl⟩, fun notDone => by rw [if_neg notDone]⟩

end Sys2Proof.Machine

namespace Sys2Proof.Machine

/-! ### Frame starts (R109 to R111) -/

theorem isFilling_iff {o : Option SlotRecord} : isFilling o = true ↔ ∃ f, o = some (.filling f) := by
  rcases o with _ | _ | _ | _ <;> simp [isFilling]

theorem isFilling_eq_false_iff {o : Option SlotRecord} : isFilling o = false ↔ ∀ f, o ≠ some (.filling f) := by
  rw [← Bool.not_eq_true, isFilling_iff, not_exists]

/-- The first byte of a region's write lies inside the region. -/
theorem regionAt_inside {s : State} {base size a : Nat} {k : RegionKind} (h : regionAt s (base + a) = some ⟨base, size, k⟩) :
    a < size := by
  have held := List.find?_some h
  simp only [Region.holds, Bool.and_eq_true, decide_eq_true_eq] at held
  omega

theorem take_frameWrite {base size n bpp w hh stride a : Nat} {lanes : List LaneByte} {s : State} (hopen : portOpen s)
    (hwf : (Transaction.write (base + a) lanes).wellFormed = true)
    (hat : regionAt s (base + a) = some ⟨base, size, .frame n bpp w hh stride⟩) :
    exec (.hostTransactionTake (.write (base + a) lanes)) s =
      .next (offerFrameWrite ⟨0, base, n, bpp, w, hh, stride⟩ (base + a) (joined (.write (base + a) lanes) .waiting s)) := by
  rw [exec_take_of_portOpen hopen hwf, treat_regionWrite hat]
  rfl

/-- The two outcomes of an offered write, by its offset in the region (R110). -/
theorem offerFrameWrite_starts {f : FrameRegion} {a : Nat} {s : State} (first : a % (f.hIn * f.stride) < f.stride)
    (free : ∀ r, s.view.slots[a / (f.hIn * f.stride)]? ≠ some (.filling r)) :
    offerFrameWrite f (f.base + a) s = frameStart (a / (f.hIn * f.stride)) s := by
  rw [offerFrameWrite, Nat.add_sub_cancel_left]
  exact if_pos ⟨first, isFilling_eq_false_iff.mpr free⟩

theorem offerFrameWrite_passes {f : FrameRegion} {a : Nat} {s : State}
    (h : f.stride ≤ a % (f.hIn * f.stride) ∨ ∃ r, s.view.slots[a / (f.hIn * f.stride)]? = some (.filling r)) :
    offerFrameWrite f (f.base + a) s = s := by
  rw [offerFrameWrite, Nat.add_sub_cancel_left]
  refine if_neg ?_
  rintro ⟨first, free⟩
  rcases h with later | ⟨r, hr⟩
  · exact absurd first (Nat.not_lt.mpr later)
  · exact isFilling_eq_false_iff.mp free r hr

/-- The slots after a frame start in `k`: the FILLING one ends, the others stay, and `k` fills (R111). -/
theorem getElem?_startedSlots {slots : List SlotRecord} {j k : Nat} (r : SlotRecord) (ne : j ≠ k) :
    ((slots.map finishFilling).set k r)[j]? = (slots[j]?).map finishFilling := by
  rw [List.getElem?_set_ne (Ne.symm ne), List.getElem?_map]

/-- Settles O25: an offered FRAME write either starts a frame or leaves the View Translator alone. -/
theorem frameStartsLatchTheShifts : Obligations.FrameStartsLatchTheShifts := by
  unfold Obligations.FrameStartsLatchTheShifts
  intro base n bpp w hh stride a lanes s hopen hwf hrows hstride hat hlen
  have taken := take_frameWrite hopen hwf hat
  dsimp only
  refine ⟨fun passes => ?_, fun first free => ?_⟩
  · rw [taken]
    exact congrArg _ (offerFrameWrite_passes (f := ⟨0, base, n, bpp, w, hh, stride⟩) passes)
  · have slotExists : a / (hh * stride) < s.view.slots.length := by
      have inside : a < n * hh * stride := regionAt_inside hat
      rw [hlen, Nat.div_lt_iff_lt_mul (Nat.mul_pos hrows hstride)]
      rwa [Nat.mul_assoc] at inside
    have starts := offerFrameWrite_starts (f := ⟨0, base, n, bpp, w, hh, stride⟩)
      (s := joined (.write (base + a) lanes) .waiting s) first free
    refine ⟨_, taken.trans (congrArg _ starts), ?_, rfl, rfl, rfl, by simpa [joined] using hlen, ?_, fun j ne => ?_⟩
    · intro p hp
      cases p <;> simp [Part.same, joined] at hp ⊢
    · rw [State.setView_view, List.getElem?_set_self (by simpa [joined] using slotExists)]
      rfl
    · rw [State.setView_view, getElem?_startedSlots _ ne]
      refine Option.map_congr fun r _ => ?_
      cases r <;> rfl

end Sys2Proof.Machine

namespace Sys2Proof.Machine

theorem wellFormed_iff (x : Transaction) : x.wellFormed = true ↔
    8 ≤ x.len ∧ x.len ≤ 128 ∧ x.len % 8 = 0 ∧ x.addr % 8 = 0 ∧ x.addr % 128 + x.len ≤ 128 := by
  simp only [Transaction.wellFormed, Bool.and_eq_true, decide_eq_true_eq, beq_iff_eq, and_assoc]

/-! ### The bytes that a run of downstream reads covers (R80, R115) -/

/-- The addresses of the bytes that a piece is responsible for, in order. -/
def Piece.places (p : Piece) : List Nat := (List.range p.count).map fun j => p.txn.addr + p.skip + j

/-- A piece is a well-formed read that returns at least the bytes it is responsible for. -/
def Piece.covers (p : Piece) : Prop := p.txn.wellFormed = true ∧ isWrite p.txn = false ∧ p.skip + p.count ≤ p.txn.len

theorem places_piece (a n : Nat) : (piece a n).places = (List.range n).map (a + ·) := by
  refine List.map_congr_left fun j _ => ?_
  show a / 8 * 8 + a % 8 + j = a + j
  omega

/-- A run inside one line of 128 bytes is read by one transaction (R115). -/
theorem covers_piece {a n : Nat} (positive : 0 < n) (line : a % 128 + n ≤ 128) : (piece a n).covers := by
  refine ⟨?_, rfl, ?_⟩
  · rw [wellFormed_iff, piece, beatRead, Transaction.len, Transaction.addr]
    omega
  · show a % 8 + n ≤ (a + n + 7) / 8 * 8 - a / 8 * 8
    omega

/-- A range of addresses cut in two. -/
theorem range_map_cut {m k n : Nat} (f : Nat → Nat) (h : m + k = n) :
    (List.range n).map f = (List.range m).map f ++ (List.range k).map fun j => f (m + j) := by
  rw [← h, List.range_add, List.map_append, List.map_map]
  rfl

/-- Folded at the line end, the pieces cover the run's bytes in order (R114, R115). -/
theorem places_runPieces {line stride t n : Nat} (ht : t < stride) (hn : 0 < n) (hmax : n ≤ stride) :
    (runPieces line stride t n).flatMap Piece.places = (List.range n).map fun j => line + (t + j) % stride := by
  have straight : ∀ j, t + j < stride → line + (t + j) % stride = line + t + j := fun j hj => by
    rw [Nat.mod_eq_of_lt hj, Nat.add_assoc]
  unfold runPieces
  split
  · rename_i folds
    rw [range_map_cut _ (show stride - t + (t + n - stride) = n by omega)]
    simp only [List.flatMap_cons, List.flatMap_nil, List.append_nil, places_piece]
    congr 1
    · refine List.map_congr_left fun j hj => (straight j ?_).symm
      have := List.mem_range.mp hj
      omega
    · refine List.map_congr_left fun j hj => ?_
      have := List.mem_range.mp hj
      rw [show t + (stride - t + j) = j + stride by omega, Nat.add_mod_right, Nat.mod_eq_of_lt (by omega)]
  · rename_i whole
    have inLine : ∀ j ∈ List.range n, line + (t + j) % stride = line + t + j := fun j hj =>
      straight j (by have := List.mem_range.mp hj; omega)
    rw [List.map_congr_left inLine]
    split
    · simp only [List.flatMap_cons, List.flatMap_nil, List.append_nil, places_piece]
    · rename_i crosses
      rw [range_map_cut _ (show 128 - t % 128 + (t + n - (t / 128 + 1) * 128) = n by omega)]
      simp only [List.flatMap_cons, List.flatMap_nil, List.append_nil, places_piece]
      congr 1
      refine List.map_congr_left fun j _ => ?_
      omega

/-- With lines of whole 128-byte blocks each piece lies in one of them (R115). -/
theorem covers_runPieces {line stride t n : Nat} (ht : t < stride) (hn : 0 < n) (hmax : n ≤ 128) (hline : line % 128 = 0)
    (hstride : stride % 128 = 0) : ∀ p ∈ runPieces line stride t n, p.covers := by
  unfold runPieces
  intro p hp
  split at hp
  · rcases List.mem_pair.mp hp with rfl | rfl
    · exact covers_piece (by omega) (by omega)
    · exact covers_piece (by omega) (by omega)
  · split at hp
    · rw [List.mem_singleton] at hp
      subst hp
      exact covers_piece hn (by omega)
    · rcases List.mem_pair.mp hp with rfl | rfl
      · exact covers_piece (by omega) (by omega)
      · exact covers_piece (by omega) (by omega)

theorem length_runPieces (line stride t n : Nat) :
    1 ≤ (runPieces line stride t n).length ∧ (runPieces line stride t n).length ≤ 2 := by
  unfold runPieces
  (repeat' split) <;> simp

/-! ### The translation of an offset in the view (R113, R114) -/

theorem slotShifts_of_frame {slots : List SlotRecord} {k : Nat} {f : FrameRecord}
    (h : slots[k]? = some (.filling f) ∨ slots[k]? = some (.ready f)) : slotShifts slots k = (f.shiftX, f.shiftY) := by
  rcases h with h | h <;> simp [slotShifts, slotFrame, h]

theorem slotShifts_of_empty {slots : List SlotRecord} {k : Nat}
    (h : ∀ f, slots[k]? ≠ some (.filling f) ∧ slots[k]? ≠ some (.ready f)) : slotShifts slots k = (0, 0) := by
  unfold slotShifts slotFrame
  split
  · rename_i f hf
    exact absurd hf (h f).1
  · rename_i f hf
    exact absurd hf (h f).2
  · rfl

/-- The displacement is that of the slot's record, or none. -/
theorem slotShifts_eq {slots : List SlotRecord} {k : Nat} {sx sy : Int}
    (recorded : ∀ f, slots[k]? = some (.filling f) ∨ slots[k]? = some (.ready f) → sx = f.shiftX ∧ sy = f.shiftY)
    (empty : (∀ f, slots[k]? ≠ some (.filling f) ∧ slots[k]? ≠ some (.ready f)) → sx = 0 ∧ sy = 0) :
    slotShifts slots k = (sx, sy) := by
  by_cases h : ∃ f, slots[k]? = some (.filling f) ∨ slots[k]? = some (.ready f)
  · obtain ⟨f, hf⟩ := h
    obtain ⟨rfl, rfl⟩ := recorded f hf
    exact slotShifts_of_frame hf
  · have nothing : ∀ f, slots[k]? ≠ some (.filling f) ∧ slots[k]? ≠ some (.ready f) := fun f =>
      ⟨fun hf => h ⟨f, .inl hf⟩, fun hf => h ⟨f, .inr hf⟩⟩
    obtain ⟨rfl, rfl⟩ := empty nothing
    exact slotShifts_of_empty nothing

/-- Frame line and column byte of an offset in the view, with the displacement in whole lines and bytes (R113, R114). -/
theorem translateOffset_eq {g : AliasGeometry} {slots : List SlotRecord} {o line column : Nat} {sx sy : Int}
    (hshift : slotShifts slots (o / (g.hOut * g.stride)) = (sx, sy))
    (hline : (line : Int) = (o % (g.hOut * g.stride) / g.stride : Nat) + g.marginY + sy)
    (hcolumn : (column : Int) = (g.marginX + sx) * g.bpp) : translateOffset g slots o =
      (g.frameBase + o / (g.hOut * g.stride) * g.slotSize + line * g.stride, (o % g.stride + column) % g.stride) := by
  simp only [translateOffset, AliasGeometry.aliasSlotSize, hshift, ← hline, ← hcolumn, Int.toNat_natCast, Nat.mod_mul_left_mod]

/-- The frame line starts on a multiple of 128 bytes. -/
theorem frameLine_aligned {g : AliasGeometry} (k line : Nat) (hbase : g.frameBase % 4096 = 0) (hstride : g.stride % 128 = 0)
    (hslot : g.slotSize % g.stride = 0) : (g.frameBase + k * g.slotSize + line * g.stride) % 128 = 0 := by
  have stride_dvd : 128 ∣ g.stride := Nat.dvd_of_mod_eq_zero hstride
  have slot_dvd : 128 ∣ g.slotSize := stride_dvd.trans (Nat.dvd_of_mod_eq_zero hslot)
  have base_dvd : 128 ∣ g.frameBase := Dvd.dvd.trans (by decide) (Nat.dvd_of_mod_eq_zero hbase)
  exact Nat.mod_eq_zero_of_dvd
    (Nat.dvd_add (Nat.dvd_add base_dvd (slot_dvd.mul_left k)) (stride_dvd.mul_left line))

theorem take_aliasRead {base size o n : Nat} {g : AliasGeometry} {s : State} (hopen : portOpen s)
    (hwf : (Transaction.read (base + o) n).wellFormed = true) (hat : regionAt s (base + o) = some ⟨base, size, .aliasView g⟩) :
    exec (.hostTransactionTake (.read (base + o) n)) s = .next (takeAliasRead base g (base + o) n s) := by
  rw [exec_take_of_portOpen hopen hwf, treat_aliasRead hat]

/-- The three outcomes of a read of the view (R113, R118). -/
theorem takeAliasRead_beyond {base o n : Nat} {g : AliasGeometry} {s : State} (h : g.span ≤ o) :
    takeAliasRead base g (base + o) n s = joined (.read (base + o) n) .waiting s := by
  simp only [takeAliasRead, Nat.add_sub_cancel_left, if_neg (Nat.not_lt.mpr h), ite_self, forward_eq_joined]

theorem takeAliasRead_unbound {base o n : Nat} {g : AliasGeometry} {s : State} (h : o < g.span) (hb : g.bound = false) :
    takeAliasRead base g (base + o) n s = startCause .aliasFault (joined (.read (base + o) n) .waiting s) := by
  simp [takeAliasRead, h, hb, forward_eq_joined]

theorem takeAliasRead_bound {base o n : Nat} {g : AliasGeometry} {s : State} (h : o < g.span) (hb : g.bound = true) :
    takeAliasRead base g (base + o) n s = enqueue (.read (base + o) n) (aliasPieces g s.view.slots o n) .waiting false s := by
  simp [takeAliasRead, h, hb]

/-- Settles O26: the translation gives one frame line and a start column in it, and the pieces cover the run from there, folded at the
line end. -/
theorem aliasReadsAreDisplacedByTheShifts : Obligations.AliasReadsAreDisplacedByTheShifts := by
  unfold Obligations.AliasReadsAreDisplacedByTheShifts
  refine ⟨fun base size o n g s hopen hwf hat beyond => ?_,
    fun base size o n g s hopen hwf hat _ hframe hstride hwide hslot inside => ⟨fun unbound => ?_, ?_⟩⟩
  · rw [take_aliasRead hopen hwf hat, takeAliasRead_beyond beyond]
  · rw [take_aliasRead hopen hwf hat, takeAliasRead_unbound inside unbound]
  · intro bound sx sy line column recorded empty hline hcolumn
    obtain ⟨positive, short, -⟩ := (wellFormed_iff _).mp hwf
    change 8 ≤ n at positive
    change n ≤ 128 at short
    have column_lt : (o % g.stride + column) % g.stride < g.stride := Nat.mod_lt _ (by omega)
    have pieces_eq : aliasPieces g s.view.slots o n =
        runPieces (g.frameBase + o / (g.hOut * g.stride) * g.slotSize + line * g.stride) g.stride
          ((o % g.stride + column) % g.stride) n := by
      rw [aliasPieces, translateOffset_eq (slotShifts_eq recorded empty) hline hcolumn]
    obtain ⟨one, two⟩ := length_runPieces (g.frameBase + o / (g.hOut * g.stride) * g.slotSize + line * g.stride) g.stride
      ((o % g.stride + column) % g.stride) n
    rw [take_aliasRead hopen hwf hat, takeAliasRead_bound inside bound, pieces_eq]
    refine ⟨_, _, rfl, changesOnly_enqueue _ _ _ _ s, rfl, one, two, ?_, ?_⟩
    · exact covers_runPieces column_lt (by omega) short (frameLine_aligned _ _ hframe hstride hslot) hstride
    · refine (places_runPieces column_lt (by omega) (by omega)).trans (List.map_congr_left fun j _ => ?_)
      rw [Nat.mod_add_mod, Nat.add_right_comm (o % g.stride)]

end Sys2Proof.Machine

namespace Sys2Proof.Machine

/-! ### The host's request and its grant (R70, R81 to R83) -/

/-- The oldest WAITING entry asks for its next downstream transaction (R81). -/
theorem hostRequest_of_oldest {s : State} {e : QueueEntry} {pre post : List QueueEntry} (hqueue : s.path.queue = pre ++ e :: post)
    (hpre : ∀ x ∈ pre, x.progress ≠ .waiting) (he : e.progress = .waiting) :
    hostRequest s = (e.pieces[e.issued]?).map fun p => (e, p) := by
  have first : (s.path.queue.find? fun x => x.progress == .waiting) = some e := by
    rw [hqueue, List.find?_append, List.find?_eq_none.mpr fun x hx => by simpa using hpre x hx, Option.none_or,
      List.find?_cons_of_pos (by simp [he])]
  rw [hostRequest, first]

theorem hostRequest_of_noWaiting {s : State} (h : ∀ e ∈ s.path.queue, e.progress ≠ .waiting) : hostRequest s = none := by
  have nothing : (s.path.queue.find? fun x => x.progress == .waiting) = none :=
    List.find?_eq_none.mpr fun x hx => by simpa using h x hx
  rw [hostRequest, nothing]

/-- In the host's turn its transaction is issued and the fairness count moves on; a snooped write then hands its words on (R78, R82,
R83). -/
theorem grant_of_hostTurn {s : State} {e : QueueEntry} {p : Piece} (hrun : running s) (hhost : hostRequest s = some (e, p))
    (turn : internalRequest s = none ∨ s.path.hostGrants < 8) :
    grant s = if e.snooped then snoop p.txn (s.setPath (hostGranted e p s)) else s.setPath (hostGranted e p s) := by
  have off : s.path.resetLow = false := hrun
  have issued : grant s = grantHost e p (setHostGrants (if internalRequest s = none then 0 else s.path.hostGrants + 1) s) := by
    rw [grant, hhost]
    dsimp only
    rw [if_neg (by simp [off])]
    cases hr : internalRequest s with
    | none => rfl
    | some r =>
      rw [hr] at turn
      have below : s.path.hostGrants < 8 := turn.resolve_left (by simp)
      exact if_pos below
  have off' : ∀ n, (setHostGrants n s).path.resetLow = false := fun _ => off
  rw [issued, grantHost]
  simp only [off', Bool.not_false, Bool.and_true]
  rfl

theorem exec_hostGrant {s : State} {e : QueueEntry} {p : Piece} (hrun : running s) (hhost : hostRequest s = some (e, p))
    (plain : e.snooped = false) (turn : internalRequest s = none ∨ s.path.hostGrants < 8) :
    exec .downstreamGrant s = .next (s.setPath (hostGranted e p s)) := by
  have granted := grant_of_hostTurn hrun hhost turn
  rw [plain] at granted
  exact congrArg _ granted

/-- With no host request, or the cap reached, the internal request is granted (R82, R83). -/
theorem exec_internalTurn {s : State} {r : Requester} (hrun : running s) (hr : internalRequest s = some r)
    (turn : hostRequest s = none ∨ 8 ≤ s.path.hostGrants) :
    exec .downstreamGrant s = .next (grantInternal r (setHostGrants 0 s)) := by
  cases hhost : hostRequest s with
  | none => exact exec_internalGrant hrun hhost hr
  | some q =>
    have reached : ¬s.path.hostGrants < 8 := Nat.not_lt.mpr (turn.resolve_left (by simp [hhost]))
    have off : s.path.resetLow = false := hrun
    show Host.Outcome.next (grant s) = _
    rw [grant, hhost, hr]
    dsimp only
    rw [if_neg (by simp [off])]
    exact congrArg _ (if_neg reached)

/-! ### What an internal read waits for (R84) -/

theorem mem_unissuedWrites {s : State} {n : Nat} : n ∈ unissuedWrites s ↔
    ∃ e ∈ s.path.queue, e.serial = n ∧ e.progress = .waiting ∧ ∃ a lanes, e.txn = .write a lanes := by
  have write_iff : ∀ x : Transaction, isWrite x = true ↔ ∃ a lanes, x = .write a lanes := fun x => by cases x <;> simp [isWrite]
  simp only [unissuedWrites, List.mem_map, List.mem_filter, Bool.and_eq_true, beq_iff_eq, write_iff]
  exact exists_congr fun e => by tauto

theorem readEligible_iff {s : State} {q : ReadRequest} : readEligible s q = true ↔ ∀ n ∈ q.after, n ∉ unissuedWrites s := by
  simp only [readEligible, List.all_eq_true, Bool.not_eq_true', List.contains_eq_mem, decide_eq_false_iff_not]
  exact ⟨fun h n hn hw => h n hw hn, fun h n hw hn => h n hn hw⟩

theorem ite_some_eq_none_iff {α : Type} {c : Bool} {a : α} {o : Option α} :
    (if c then some a else o) = none ↔ c = false ∧ o = none := by
  cases c <;> simp

/-- There is no internal request exactly when no requester has anything to present (R37, R81, R84). -/
theorem internalRequest_eq_none_iff {s : State} : internalRequest s = none ↔ s.audio.lines = [] ∧ s.control.writes = [] ∧
    (∀ slot q, (s.card slot).fetchReq = some q → readEligible s q = false) ∧
    (∀ q, s.clip.readReq = some q → readEligible s q = false ∨ (openPage s.clip = none ∧ 8 ≤ s.clip.pages.length)) ∧
    (∀ q, s.control.readReq = some q → readEligible s q = false) := by
  have cards : (∀ slot q, (s.card slot).fetchReq = some q → readEligible s q = false) ↔
      readWaits s s.cardA.fetchReq = false ∧ readWaits s s.cardB.fetchReq = false := by
    rw [readWaits_eq_false, readWaits_eq_false]
    exact ⟨fun h => ⟨h .a, h .b⟩, fun h slot => by cases slot; exacts [h.1, h.2]⟩
  have payload :
      (∀ q, s.clip.readReq = some q → readEligible s q = false ∨ (openPage s.clip = none ∧ 8 ≤ s.clip.pages.length)) ↔
      (readWaits s s.clip.readReq && !assemblerStalled s.clip) = false := by
    rw [Bool.and_eq_false_iff, readWaits_eq_false, Bool.not_eq_false', assemblerStalled_iff]
    by_cases h : openPage s.clip = none ∧ 8 ≤ s.clip.pages.length <;> simp [h]
  rw [cards, payload, ← readWaits_eq_false]
  simp only [internalRequest, ite_some_eq_none_iff, Bool.not_eq_false', List.isEmpty_iff]
  tauto

/-! ### A read that waits for one write (R84) -/

/-- After its last transaction has been issued the entry waits no more; every other entry is as it was. -/
theorem queue_hostGranted {s : State} {e : QueueEntry} {p : Piece} {pre post : List QueueEntry}
    (hqueue : s.path.queue = pre ++ e :: post) (alone : ∀ x ∈ pre ++ post, x.serial ≠ e.serial) (hp : e.pieces = [p])
    (hissued : e.issued = 0) :
    (hostGranted e p s).queue = pre ++ { e with issued := 1, progress := .issued } :: post := by
  have mapped := map_updateEntry issuedEntry alone
  rw [← hqueue] at mapped
  refine mapped.trans ?_
  rw [issuedEntry, hp, hissued]
  rfl

theorem readEligible_after_write {t : State} {e : QueueEntry} {pre post : List QueueEntry} {q : ReadRequest}
    (ht : t.path.queue = pre ++ { e with issued := 1, progress := .issued } :: post)
    (rest : ∀ x ∈ pre ++ post, x.progress = .waiting → x.serial ∉ q.after) : readEligible t q = true := by
  refine readEligible_iff.mpr fun n hn hw => ?_
  obtain ⟨x, hx, rfl, waits, -⟩ := mem_unissuedWrites.mp hw
  rw [ht, List.mem_append, List.mem_cons] at hx
  rcases hx with hx | rfl | hx
  · exact rest x (List.mem_append_left _ hx) waits hn
  · cases waits
  · exact rest x (List.mem_append_right _ hx) waits hn

/-- An entry read stands alone among the internal requests: no line, fetch, payload read or write beside it. -/
def onlyEntryRead (s : State) (q : ReadRequest) : Prop :=
  s.control.phase = .entry ∧ s.control.readReq = some q ∧ s.control.writes = [] ∧ s.audio.lines = [] ∧
    (∀ slot, (s.card slot).fetchReq = none) ∧ s.clip.readReq = none

theorem onlyEntryRead_setPath {s : State} {q : ReadRequest} (h : onlyEntryRead s q) (v : Path) : onlyEntryRead (s.setPath v) q := by
  obtain ⟨phase, read, writes, lines, fetch, payload⟩ := h
  exact ⟨phase, read, writes, lines, fun slot => by rw [State.setPath_card]; exact fetch slot, payload⟩

theorem internalRequest_of_onlyEntryRead {s : State} {q : ReadRequest} (h : onlyEntryRead s q) :
    internalRequest s = if readEligible s q then some .commandReads else none := by
  obtain ⟨-, read, writes, lines, fetch, payload⟩ := h
  have quiet : payloadQuiet s := by simp [payloadQuiet, linesAndFetchesQuiet, lines, fetch, payload]
  rw [internalRequest_below_clip quiet, read, writes]
  simp [readWaits]

theorem exec_entryReadGrant {s : State} {q : ReadRequest} (hrun : running s) (h : onlyEntryRead s q)
    (noWaiting : ∀ x ∈ s.path.queue, x.progress ≠ .waiting) (eligible : readEligible s q = true) :
    ∃ u, exec .downstreamGrant s = .next u ∧ changesOnly [.path, .control] s u ∧
      u.path.inFlight = s.path.inFlight ++ [⟨.read q.addr q.len, .commandEntry⟩] ∧ u.control = { s.control with readReq := none } := by
  have asks := internalRequest_of_onlyEntryRead h
  rw [if_pos eligible] at asks
  obtain ⟨phase, read, -⟩ := h
  refine ⟨_, exec_internalGrant hrun (hostRequest_of_noWaiting noWaiting) asks, ?_⟩
  rw [grantInternal, grantCommand_eq read, phase]
  exact ⟨changesOnly_setPath_setControl _ _ s, rfl, rfl⟩

/-- Settles O8: the two turns of the arbiter are the branches of `grant`, and the read behind a write is eligible once the write's one
transaction is issued. -/
theorem grantsFollowTheFairnessCap : Obligations.GrantsFollowTheFairnessCap := by
  unfold Obligations.GrantsFollowTheFairnessCap
  intro s hrun
  refine ⟨fun pre e post => hostRequest_of_oldest, hostRequest_of_noWaiting, fun e p hhost plain turn => ?_,
    fun r hr turn => exec_internalTurn hrun hr turn, fun n => mem_unissuedWrites, fun q => readEligible_iff,
    internalRequest_eq_none_iff, ?_⟩
  · exact ⟨_, exec_hostGrant hrun hhost plain turn, changesOnly_setPath _ s, rfl⟩
  · intro pre e post p a lanes q hqueue hpre he htxn plain hp hissued phase read waitsFor writes lines fetch payload
    have only : onlyEntryRead s q := ⟨phase, read, writes, lines, fetch, payload⟩
    have hhost : hostRequest s = some (e, p) := by
      rw [hostRequest_of_oldest hqueue hpre he, hp, hissued]
      rfl
    have blocked : readEligible s q = false := by
      rw [← Bool.not_eq_true, readEligible_iff]
      exact fun h => h _ waitsFor (mem_unissuedWrites.mpr ⟨e, by simp [hqueue], rfl, he, a, lanes, htxn⟩)
    have noRequest : internalRequest s = none := by rw [internalRequest_of_onlyEntryRead only, blocked]; rfl
    refine ⟨_, exec_hostGrant hrun hhost plain (.inl noRequest), changesOnly_setPath _ s, rfl, if_pos noRequest, fun rest => ?_⟩
    have queue := queue_hostGranted hqueue (fun x hx => (rest x hx).1) hp hissued
    have eligible : readEligible (s.setPath (hostGranted e p s)) q = true :=
      readEligible_after_write queue fun x hx => (rest x hx).2
    have only' := onlyEntryRead_setPath only (hostGranted e p s)
    refine ⟨by rw [internalRequest_of_onlyEntryRead only', eligible]; rfl, fun hpost => ?_⟩
    refine exec_entryReadGrant hrun only' (fun x hx => ?_) eligible
    rw [State.setPath_path, queue, List.mem_append, List.mem_cons] at hx
    rcases hx with hx | rfl | hx
    · exact hpre x hx
    · simp
    · exact hpost x hx

end Sys2Proof.Machine

namespace Sys2Proof.Machine

/-! ### Filling the free places one by one (R176, R194, R196) -/

/-- The oldest pending notice leaves the list for a free place (R196). -/
def noticeTaken (p : StampedNotice) (rest : List StampedNotice) (s : State) : State :=
  writeNotice p (s.setControl { s.control with pendingNotices := rest })

/-- The 32 bytes of a notice as the unit gathers them are those that R207 gives it. -/
theorem ringBytes_eq_noticeLine (p : StampedNotice) (s : State) : ringBytes p s = noticeLine s p s.control.reportProducer := by
  rw [noticeLine, ringBytes, noticePayload_eq, kind_eq_noticeFields s p.folds, source_eq_noticeFields s p.folds]
  rfl

/-- A notice's bytes read nothing of the ring, the pending list or the presented writes. -/
theorem noticeLine_setControl {s : State} {v : Control} (h : v.conditions = s.control.conditions) :
    noticeLine (s.setControl v) = noticeLine s := by
  funext ⟨n, frame, folds⟩ seq
  have states : ∀ c, condState (s.setControl v) c = condState s c := condState_congr h
  cases n with
  | condition c =>
    simp only [noticeLine, noticeFields, states]
    rw [State.setControl_control, h]
  | auBad slot => cases slot <;> rfl
  | tapEvent src => cases src <;> rfl
  | _ => rfl

theorem noticeLine_setPath (s : State) (v : Path) : noticeLine (s.setPath v) = noticeLine s := by
  funext ⟨n, frame, folds⟩ seq
  cases n with
  | auBad slot => cases slot <;> rfl
  | tapEvent src => cases src <;> rfl
  | _ => rfl

theorem noticeLine_setAcc (s : State) (v : Acc) : noticeLine (s.setAcc v) = noticeLine s := by
  funext ⟨n, frame, folds⟩ seq
  cases n with
  | auBad slot => cases slot <;> rfl
  | tapEvent src => cases src <;> rfl
  | _ => rfl

/-- The count that a written notice clears is that of its own kind and source (R10, R51, R117). -/
theorem noticeLine_clearNoticeCount {m : Notice} {q : StampedNotice} (s : State)
    (h : ¬(m.kind = q.notice.kind ∧ m.source = q.notice.source)) : noticeLine (clearNoticeCount m s) q = noticeLine s q := by
  obtain ⟨n, frame, folds⟩ := q
  funext seq
  cases m with
  | tapEvent src =>
    cases n with
    | tapEvent src' =>
      have other : src' ≠ src := fun e => h ⟨rfl, by rw [e]; rfl⟩
      simp only [noticeLine, noticeFields, clearNoticeCount, setTapCount_other 0 other]
    | auBad slot => cases src <;> cases slot <;> rfl
    | _ => cases src <;> rfl
  | auBad slot =>
    cases n with
    | auBad slot' =>
      have other : slot ≠ slot' := fun e => h ⟨rfl, by rw [e]; rfl⟩
      simp only [noticeLine, noticeFields, clearNoticeCount, State.setCard_card_other _ _ _ _ other]
    | tapEvent src => cases src <;> cases slot <;> rfl
    | _ => cases slot <;> rfl
  | _ => rfl

theorem noticeTaken_control (p : StampedNotice) (rest : List StampedNotice) (s : State) : (noticeTaken p rest s).control =
    { s.control with
      reportProducer := s.control.reportProducer + 1
      writes := s.control.writes ++ ringWrites s s.control.reportProducer (noticeLine s p s.control.reportProducer)
      pendingNotices := rest } := by
  have line := ringBytes_eq_noticeLine p (s.setControl { s.control with pendingNotices := rest })
  have same : noticeLine (s.setControl { s.control with pendingNotices := rest }) = noticeLine s := noticeLine_setControl rfl
  rw [same] at line
  rw [noticeTaken, writeNotice_eq, clearNoticeCount_control, writeRing_control, line]
  rfl

end Sys2Proof.Machine

namespace Sys2Proof.Machine

/-! ### One free place (R176, R194, R196) -/

section
variable {s t : State}

theorem noticeTaken_unread (p : StampedNotice) (rest : List StampedNotice) (h : unread s < 64) :
    unread (noticeTaken p rest s) = unread s + 1 :=
  unread_succ (by rw [noticeTaken_control]) (by simp [noticeTaken]) h

theorem changesOnly_setControl (v : Control) (s : State) : changesOnly [.control] s (s.setControl v) := by
  intro p hp
  cases p <;> simp [Part.same] at hp ⊢

theorem changesOnly_clearNoticeCount (n : Notice) (s : State) :
    changesOnly [.tap, .view, .card .a, .card .b] s (clearNoticeCount n s) := by
  cases n with
  | tapEvent src => exact changesOnly_mono (by simp) (setTapCount_changesOnly 0 src s)
  | auBad slot => exact changesOnly_mono (by cases slot <;> simp) (changesOnly_setCard slot _ s)
  | _ => exact changesOnly_refl _ s

theorem changesOnly_noticeTaken (p : StampedNotice) (rest : List StampedNotice) (s : State) :
    changesOnly [.control, .tap, .view, .card .a, .card .b] s (noticeTaken p rest s) := by
  have written : changesOnly [.control] s (writeRing (ringBytes p (s.setControl { s.control with pendingNotices := rest }))
      (s.setControl { s.control with pendingNotices := rest })) :=
    changesOnly_trans (changesOnly_setControl _ s) (writeRing_changesOnly _ _)
  exact changesOnly_trans (changesOnly_mono (by simp) written) (changesOnly_mono (by simp) (changesOnly_clearNoticeCount _ _))

theorem noticeLine_writeRing (bytes : List Byte) (s : State) : noticeLine (writeRing bytes s) = noticeLine s := by
  have written : writeRing bytes s = s.setControl (writeRing bytes s).control := rfl
  rw [written, noticeLine_setControl (by rw [writeRing_control])]

/-- Written, a notice leaves the bytes of every notice of another kind or source as they were. -/
theorem noticeLine_noticeTaken {p q : StampedNotice} (rest : List StampedNotice) (s : State)
    (h : ¬(p.notice.kind = q.notice.kind ∧ p.notice.source = q.notice.source)) :
    noticeLine (noticeTaken p rest s) q = noticeLine s q := by
  rw [noticeTaken, writeNotice_eq, noticeLine_clearNoticeCount _ h, noticeLine_writeRing]
  exact congrFun (noticeLine_setControl rfl) q

theorem frameCount_clearNoticeCount (n : Notice) (s : State) : (clearNoticeCount n s).view.frameCount = s.view.frameCount := by
  cases n with
  | tapEvent src => cases src <;> rfl
  | auBad slot => cases slot <;> rfl
  | _ => rfl

theorem frameCount_noticeTaken (p : StampedNotice) (rest : List StampedNotice) (s : State) :
    (noticeTaken p rest s).view.frameCount = s.view.frameCount := by
  rw [noticeTaken, writeNotice_eq, frameCount_clearNoticeCount, writeRing_view]
  rfl

/-- The head of the receive queue leaves for a free place; with the last the cause of ACC_QUEUE_OVERRUN ends (R175, R176). -/
theorem writeQueueHead_control (m : QueueMessage) (rest : List QueueMessage) (s : State) : (writeQueueHead m rest s).control =
    { s.control with
      reportProducer := s.control.reportProducer + 1
      writes := s.control.writes ++ ringWrites s s.control.reportProducer (messageLine s m s.control.reportProducer)
      conditions := (writeQueueHead m rest s).control.conditions } := by
  unfold writeQueueHead
  dsimp only
  split
  · rw [endCause_control, State.setAcc_control, writeRing_control]
    rfl
  · rw [State.setAcc_control, writeRing_control]
    rfl

theorem writeQueueHead_acc (m : QueueMessage) (rest : List QueueMessage) (s : State) :
    (writeQueueHead m rest s).acc = { s.acc with queue := rest } := by
  unfold writeQueueHead
  split <;> simp

theorem changesOnly_writeQueueHead (m : QueueMessage) (rest : List QueueMessage) (s : State) :
    changesOnly [.control, .acc] s (writeQueueHead m rest s) := by
  intro p hp
  unfold writeQueueHead
  cases p <;> simp [Part.same] at hp ⊢ <;> split <;> simp

theorem writeQueueHead_unread (m : QueueMessage) (rest : List QueueMessage) (h : unread s < 64) :
    unread (writeQueueHead m rest s) = unread s + 1 :=
  unread_succ (by rw [writeQueueHead_control]) (congrArg Path.consumerCopy (changesOnly_writeQueueHead m rest s .path (by simp))) h

theorem condState_writeQueueHead {d : Condition} {rest : List QueueMessage} (m : QueueMessage) (s : State)
    (h : d ≠ .accQueueOverrun ∨ rest ≠ []) : condState (writeQueueHead m rest s) d = condState s d := by
  unfold writeQueueHead
  dsimp only
  split
  · rename_i last
    have other := h.resolve_right fun more => more (List.isEmpty_iff.mp last)
    rw [condState_endCause_other _ other]
    exact condState_congr rfl d
  · exact condState_congr rfl d

theorem causePresent_writeQueueHead_last (m : QueueMessage) (s : State) :
    causePresent (writeQueueHead m [] s) .accQueueOverrun = false := causePresent_endCause _ _

/-! ### What the filling of the ring comes to (R196) -/

/-- A relation between a state and what its free places make of it, proved from its last state back over each write. -/
theorem fillRing_induct {P : State → State → Prop}
    (rests : ∀ s, 64 ≤ unread s ∨ (s.control.pendingNotices = [] ∧ s.acc.queue = []) → P s s)
    (notice : ∀ s t p rest, unread s < 64 → s.control.pendingNotices = p :: rest → P (noticeTaken p rest s) t → P s t)
    (message : ∀ s t m rest, unread s < 64 → s.control.pendingNotices = [] → s.acc.queue = m :: rest →
      P (writeQueueHead m rest s) t → P s t)
    (fuel : Nat) (s : State) (enough : 64 ≤ fuel + unread s) : P s (fillRing fuel s) := by
  induction fuel generalizing s with
  | zero => exact rests s (.inl (by omega))
  | succ fuel ih =>
    rcases Nat.lt_or_ge (unread s) 64 with room | full
    · cases hp : s.control.pendingNotices with
      | cons p rest =>
        have taken : fillRing (fuel + 1) s = fillRing fuel (noticeTaken p rest s) := by
          rw [fillRing, hp]
          exact if_pos room
        rw [taken]
        refine notice s _ p rest room hp (ih _ ?_)
        rw [noticeTaken_unread p rest room]
        omega
      | nil =>
        cases hq : s.acc.queue with
        | cons m rest =>
          have taken : fillRing (fuel + 1) s = fillRing fuel (writeQueueHead m rest s) := by
            rw [fillRing, hp, hq]
            exact if_pos room
          rw [taken]
          refine message s _ m rest room hp hq (ih _ ?_)
          rw [writeQueueHead_unread m rest room]
          omega
        | nil =>
          rw [fillRing_empty _ hp hq]
          exact rests s (.inr ⟨hp, hq⟩)
    · rw [fillRing_full _ full]
      exact rests s (.inl full)

/-- The ring ends full, or nothing is left to write (R196). -/
theorem unread_fillRing {fuel : Nat} (atMost : unread s ≤ 64) (enough : 64 ≤ fuel + unread s) : unread (fillRing fuel s) ≤ 64 ∧
    (unread (fillRing fuel s) = 64 ∨ ((fillRing fuel s).control.pendingNotices = [] ∧ (fillRing fuel s).acc.queue = [])) := by
  refine fillRing_induct (P := fun s t => unread s ≤ 64 → unread t ≤ 64 ∧
    (unread t = 64 ∨ (t.control.pendingNotices = [] ∧ t.acc.queue = []))) (fun s h le => ⟨le, h.imp_left (le.antisymm ·)⟩)
    (fun s t p rest room hp next _ => next ?_) (fun s t m rest room hp hq next _ => next ?_) fuel s enough atMost
  · rw [noticeTaken_unread p rest room]
    omega
  · rw [writeQueueHead_unread m rest room]
    omega

theorem fillRing_path (fuel : Nat) (enough : 64 ≤ fuel + unread s) : (fillRing fuel s).path = s.path := by
  refine fillRing_induct (P := fun s t => t.path = s.path) (fun _ _ => rfl) (fun s t p rest _ _ next => ?_)
    (fun s t m rest _ _ _ next => ?_) fuel s enough
  · exact next.trans (changesOnly_noticeTaken p rest s .path (by simp))
  · exact next.trans (changesOnly_writeQueueHead m rest s .path (by simp))

end

end Sys2Proof.Machine

namespace Sys2Proof.Machine

/-! ### The lines that fill the ring (R176, R194, R196) -/

/-- Free places of the report ring (R193). -/
def freePlaces (s : State) : Nat := 64 - unread s

/-- The pending notices and the messages that take the free places, in order (R196). -/
def noticesDue (s : State) : List StampedNotice := s.control.pendingNotices.take (freePlaces s)

def messagesDue (s : State) : List QueueMessage := s.acc.queue.take (freePlaces s - (noticesDue s).length)

/-- Their 32 bytes, each by the sequence that it is written with (R207). -/
def linesDue (s : State) : List (Word16 → List Byte) := (noticesDue s).map (noticeLine s) ++ (messagesDue s).map (messageLine s)

/-- The writes of lines that take successive sequences from `n` on (R194). -/
def lineWrites (s : State) (n : Word16) (lines : List (Word16 → List Byte)) : List ReportWrite :=
  lines.zipIdx.flatMap fun x => ringWrites s (n + BitVec.ofNat 16 x.2) (x.1 (n + BitVec.ofNat 16 x.2))

theorem sequence_succ (n : Word16) (i : Nat) : n + BitVec.ofNat 16 (i + 1) = n + 1 + BitVec.ofNat 16 i := by
  rw [BitVec.ofNat_add, BitVec.add_comm (BitVec.ofNat 16 i), ← BitVec.add_assoc]
  rfl

theorem lineWrites_cons (s : State) (n : Word16) (l : Word16 → List Byte) (rest : List (Word16 → List Byte)) :
    lineWrites s n (l :: rest) = ringWrites s n (l n) ++ lineWrites s (n + 1) rest := by
  have start : n + BitVec.ofNat 16 0 = n := BitVec.add_zero n
  have later : (fun x : (Word16 → List Byte) × Nat =>
      ringWrites s (n + BitVec.ofNat 16 (x.2 + 1)) (x.1 (n + BitVec.ofNat 16 (x.2 + 1)))) =
      fun x => ringWrites s (n + 1 + BitVec.ofNat 16 x.2) (x.1 (n + 1 + BitVec.ofNat 16 x.2)) := by
    funext x
    rw [sequence_succ]
  rw [lineWrites, lineWrites, ← later, List.zipIdx_cons, List.flatMap_cons, Nat.zero_add, List.zipIdx_succ, List.flatMap_map, start]

theorem lineWrites_congr {s t : State} (h : t.path = s.path) : lineWrites t = lineWrites s := by
  funext n lines
  simp only [lineWrites, ringWrites, controlPage, h]

/-- From `s` to `t` the free places have been filled. -/
structure RingFilled (s t : State) : Prop where
  parts : changesOnly [.control, .acc, .tap, .view, .card .a, .card .b] s t
  control : t.control = { s.control with
    reportProducer := s.control.reportProducer + BitVec.ofNat 16 (linesDue s).length
    writes := s.control.writes ++ lineWrites s s.control.reportProducer (linesDue s)
    pendingNotices := s.control.pendingNotices.drop (freePlaces s)
    conditions := t.control.conditions }
  acc : t.acc = { s.acc with queue := s.acc.queue.drop (freePlaces s - (noticesDue s).length) }
  others : ∀ d, d ≠ .accQueueOverrun ∨ messagesDue s = [] ∨ t.acc.queue ≠ [] → condState t d = condState s d
  ended : messagesDue s ≠ [] → t.acc.queue = [] → causePresent t .accQueueOverrun = false
  quiet : noticesDue s = [] → changesOnly [.control, .acc] s t

section
variable {s t : State} {p : StampedNotice} {m : QueueMessage}

theorem ringFilled_rests (h : 64 ≤ unread s ∨ (s.control.pendingNotices = [] ∧ s.acc.queue = [])) : RingFilled s s := by
  have notices : noticesDue s = [] ∧ s.control.pendingNotices.drop (freePlaces s) = s.control.pendingNotices := by
    rcases h with full | ⟨hp, -⟩
    · have none_free : freePlaces s = 0 := by rw [freePlaces]; omega
      simp [noticesDue, none_free]
    · simp [noticesDue, hp]
  have messages : messagesDue s = [] ∧ s.acc.queue.drop (freePlaces s - (noticesDue s).length) = s.acc.queue := by
    rcases h with full | ⟨-, hq⟩
    · have none_free : freePlaces s = 0 := by rw [freePlaces]; omega
      simp [messagesDue, none_free]
    · simp [messagesDue, hq]
  have lines : linesDue s = [] := by rw [linesDue, notices.1, messages.1]; rfl
  exact
    { parts := changesOnly_refl _ s
      control := by rw [lines, notices.2]; simp [lineWrites]
      acc := by rw [messages.2]
      others := fun _ _ => rfl
      ended := fun something => absurd messages.1 something
      quiet := fun _ => changesOnly_refl _ s }

theorem freePlaces_succ {u : State} (room : unread s < 64) (h : unread u = unread s + 1) : freePlaces s = freePlaces u + 1 := by
  rw [freePlaces, freePlaces, h]
  omega

theorem noticesDue_noticeTaken {rest : List StampedNotice} (room : unread s < 64) (hp : s.control.pendingNotices = p :: rest) :
    noticesDue s = p :: noticesDue (noticeTaken p rest s) := by
  rw [noticesDue, noticesDue, freePlaces_succ room (noticeTaken_unread p rest room), hp, List.take_succ_cons, noticeTaken_control]

theorem messagesDue_noticeTaken {rest : List StampedNotice} (room : unread s < 64) (hp : s.control.pendingNotices = p :: rest) :
    messagesDue s = messagesDue (noticeTaken p rest s) := by
  have acc : (noticeTaken p rest s).acc = s.acc := changesOnly_noticeTaken p rest s .acc (by simp)
  rw [messagesDue, messagesDue, noticesDue_noticeTaken room hp, freePlaces_succ room (noticeTaken_unread p rest room), acc,
    List.length_cons, Nat.add_sub_add_right]

theorem linesDue_noticeTaken {rest : List StampedNotice} (room : unread s < 64) (hp : s.control.pendingNotices = p :: rest)
    (alone : ∀ q ∈ rest, ¬(p.notice.kind = q.notice.kind ∧ p.notice.source = q.notice.source)) :
    linesDue s = noticeLine s p :: linesDue (noticeTaken p rest s) := by
  have notices : (noticesDue (noticeTaken p rest s)).map (noticeLine (noticeTaken p rest s)) =
      (noticesDue (noticeTaken p rest s)).map (noticeLine s) := by
    refine List.map_congr_left fun q hq => noticeLine_noticeTaken rest s (alone q ?_)
    have among := List.mem_of_mem_take hq
    rwa [noticeTaken_control] at among
  have messages : messageLine (noticeTaken p rest s) = messageLine s := by
    funext m n
    rw [messageLine, messageLine, frameCount_noticeTaken]
  rw [linesDue, linesDue, notices, messages, noticesDue_noticeTaken room hp, messagesDue_noticeTaken room hp]
  rfl

/-- The filling from the oldest pending notice on (R196). -/
theorem ringFilled_notice {rest : List StampedNotice} (room : unread s < 64) (hp : s.control.pendingNotices = p :: rest)
    (alone : ∀ q ∈ rest, ¬(p.notice.kind = q.notice.kind ∧ p.notice.source = q.notice.source))
    (next : RingFilled (noticeTaken p rest s) t) : RingFilled s t := by
  have free := freePlaces_succ room (noticeTaken_unread p rest room)
  have parts := changesOnly_noticeTaken p rest s
  have path : (noticeTaken p rest s).path = s.path := parts .path (by simp)
  have acc : (noticeTaken p rest s).acc = s.acc := parts .acc (by simp)
  have states : ∀ d, condState (noticeTaken p rest s) d = condState s d := condState_congr (by rw [noticeTaken_control])
  have left := noticesDue_noticeTaken room hp
  have messages := messagesDue_noticeTaken room hp
  exact
    { parts := changesOnly_trans (changesOnly_mono (by simp) parts) next.parts
      control := by
        rw [next.control, noticeTaken_control, lineWrites_congr path, linesDue_noticeTaken room hp alone, lineWrites_cons, hp, free,
          List.length_cons, sequence_succ, List.append_assoc, List.drop_succ_cons]
      acc := by rw [next.acc, acc, left, free, List.length_cons, Nat.add_sub_add_right]
      others := fun d hd => (next.others d (messages ▸ hd)).trans (states d)
      ended := fun something => next.ended (messages ▸ something)
      quiet := fun nothing => by rw [left] at nothing; cases nothing }

theorem noticesDue_of_nil (hp : s.control.pendingNotices = []) : noticesDue s = [] := by rw [noticesDue, hp, List.take_nil]

theorem messagesDue_of_nil (hp : s.control.pendingNotices = []) : messagesDue s = s.acc.queue.take (freePlaces s) := by
  rw [messagesDue, noticesDue_of_nil hp, List.length_nil, Nat.sub_zero]

/-- The filling from the head of the receive queue on (R175, R176). -/
theorem ringFilled_message {rest : List QueueMessage} (room : unread s < 64) (hp : s.control.pendingNotices = [])
    (hq : s.acc.queue = m :: rest) (next : RingFilled (writeQueueHead m rest s) t) : RingFilled s t := by
  have free := freePlaces_succ room (writeQueueHead_unread m rest room)
  have parts := changesOnly_writeQueueHead m rest s
  have path : (writeQueueHead m rest s).path = s.path := parts .path (by simp)
  have view : (writeQueueHead m rest s).view = s.view := parts .view (by simp)
  have hp' : (writeQueueHead m rest s).control.pendingNotices = [] := by rw [writeQueueHead_control]; exact hp
  have first : messagesDue s = m :: messagesDue (writeQueueHead m rest s) := by
    rw [messagesDue_of_nil hp, messagesDue_of_nil hp', hq, free, writeQueueHead_acc]
    rfl
  have last : messagesDue (writeQueueHead m rest s) = [] → t.acc.queue = [] → rest = [] := fun nothing empty => by
    rw [next.acc, noticesDue_of_nil hp', writeQueueHead_acc] at empty
    rw [messagesDue_of_nil hp', writeQueueHead_acc] at nothing
    rw [← List.take_append_drop (freePlaces (writeQueueHead m rest s)) rest, nothing]
    exact empty
  have lines : linesDue s = messageLine s m :: linesDue (writeQueueHead m rest s) := by
    have same : messageLine (writeQueueHead m rest s) = messageLine s := by
      funext q n
      rw [messageLine, messageLine, view]
    rw [linesDue, linesDue, noticesDue_of_nil hp, noticesDue_of_nil hp', first, same]
    rfl
  have remains : t.acc.queue ≠ [] → rest ≠ [] := fun something nothing => something (by
    rw [next.acc, writeQueueHead_acc, nothing, List.drop_nil])
  exact
    { parts := changesOnly_trans (changesOnly_mono (by simp) parts) next.parts
      control := by
        rw [next.control, writeQueueHead_control, lineWrites_congr path, lines, lineWrites_cons, hp, List.length_cons, sequence_succ,
          List.append_assoc, List.drop_nil, List.drop_nil]
      acc := by
        rw [next.acc, writeQueueHead_acc, noticesDue_of_nil hp, noticesDue_of_nil hp', hq, free]
        rfl
      others := fun d hd => by
        have kept : d ≠ .accQueueOverrun ∨ t.acc.queue ≠ [] := hd.imp_right fun h => h.resolve_left (by rw [first]; simp)
        exact (next.others d (kept.imp_right .inr)).trans (condState_writeQueueHead m s (kept.imp_right remains))
      ended := fun _ empty => by
        by_cases more : messagesDue (writeQueueHead m rest s) = []
        · rw [causePresent, next.others _ (.inr (.inl more)), last more empty]
          exact causePresent_writeQueueHead_last m s
        · exact next.ended more empty
      quiet := fun _ => changesOnly_trans parts (next.quiet (noticesDue_of_nil hp')) }

/-- No two notices of a list are of one kind and source (R195). -/
def distinctSources (l : List StampedNotice) : Prop :=
  l.Pairwise fun p q => ¬(p.notice.kind = q.notice.kind ∧ p.notice.source = q.notice.source)

theorem ringFilled_fillRing (fuel : Nat) (enough : 64 ≤ fuel + unread s) (distinct : distinctSources s.control.pendingNotices) :
    RingFilled s (fillRing fuel s) := by
  refine fillRing_induct (P := fun s t => distinctSources s.control.pendingNotices → RingFilled s t)
    (fun s h _ => ringFilled_rests h) (fun s t p rest room hp next distinct => ?_) (fun s t m rest room hp hq next _ => ?_) fuel s enough
    distinct
  · rw [hp] at distinct
    obtain ⟨alone, distinct'⟩ := List.pairwise_cons.mp distinct
    refine ringFilled_notice room hp alone (next ?_)
    rwa [noticeTaken_control]
  · refine ringFilled_message room hp hq (next ?_)
    rw [writeQueueHead_control, hp]
    exact .nil

/-! ### The consumer word is handed over (R175, R176, R196) -/

/-- The consumer copy that a value of the word gives: an impossible one counts as the producer (R196). -/
def copyGiven (s : State) (v : Word16) : Word16 :=
  if (s.control.reportProducer - v).toNat ≤ 64 then v else s.control.reportProducer

/-- The copy has been taken and the places it frees are not filled yet. -/
def copyTaken (v : Word16) (s : State) : State := s.setPath { s.path with consumerCopy := copyGiven s v }

theorem handOverConsumer_eq (v : Word16) (s : State) : handOverConsumer v s = fillRing 64 (copyTaken v s) := by
  have copy : (if Config.reportRingCap < (s.control.reportProducer - v).toNat then s.control.reportProducer else v) = copyGiven s v := by
    have cap : Config.reportRingCap = 64 := rfl
    rw [copyGiven, cap, ← ite_not]
    simp only [Nat.not_lt]
  rw [handOverConsumer, copy]
  rfl

/-- No more than 64 notices are unread by the copy taken (R196). -/
theorem unread_copyTaken (v : Word16) (s : State) : unread (copyTaken v s) ≤ 64 := by
  show (s.control.reportProducer - copyGiven s v).toNat ≤ 64
  unfold copyGiven
  split
  · assumption
  · simp

theorem consumerTaken_handOverConsumer (v : Word16) (s : State) : consumerTaken v s (handOverConsumer v s) := by
  rw [handOverConsumer_eq]
  have enough : 64 ≤ 64 + unread (copyTaken v s) := by omega
  refine ⟨fillRing_path 64 enough, fun distinct => ?_⟩
  have filled := ringFilled_fillRing 64 enough (s := copyTaken v s) distinct
  have lines : noticeLine (copyTaken v s) = noticeLine s := noticeLine_setPath s _
  obtain ⟨parts, control, acc, others, ended, quiet⟩ := filled
  rw [linesDue, lines] at control
  exact ⟨changesOnly_trans (changesOnly_mono (by simp) (changesOnly_setPath _ s)) (changesOnly_mono (by simp) parts), control, acc,
    others, ended, fun nothing => changesOnly_trans (changesOnly_mono (by simp) (changesOnly_setPath _ s))
      (changesOnly_mono (by simp) (quiet nothing))⟩

end

end Sys2Proof.Machine

namespace Sys2Proof.Machine

/-! ### The words of a snooped write (R78) -/

section
variable {s : State} {a : Nat} {lanes : List LaneByte} {v : Word16}

theorem snoopProducer_taken (h : wordTaken s.path.producerCopy a lanes (controlPage s + 0xE00) v) :
    snoopProducer a lanes s = handOverProducer v (s.setPath { s.path with producerCopy := v }) := by
  rw [snoopProducer, newCopy_eq_some_iff.mpr h]

theorem snoopProducer_untouched (h : wordUntouched a lanes (controlPage s + 0xE00)) : snoopProducer a lanes s = s := by
  rw [snoopProducer, newCopy_eq_none.mpr h]

theorem snoopConsumer_taken (h : wordTaken s.path.consumerCopy a lanes (controlPage s + 0xE0C) v) :
    snoopConsumer a lanes s = handOverConsumer v s := by
  rw [snoopConsumer, newCopy_eq_some_iff.mpr h]

theorem snoopConsumer_untouched (h : wordUntouched a lanes (controlPage s + 0xE0C)) : snoopConsumer a lanes s = s := by
  rw [snoopConsumer, newCopy_eq_none.mpr h]

/-- The host's turn has come with a snooped write that enables a lower byte of a word. -/
theorem grantsWord_of_taken {e : QueueEntry} {p : Piece} {old : Word16} {word : Nat} (hrun : running s)
    (hhost : hostRequest s = some (e, p)) (htxn : p.txn = .write a lanes) (hsnoop : e.snooped = true)
    (turn : internalRequest s = none ∨ s.path.hostGrants < 8) (h : wordTaken old a lanes (controlPage s + word) v) :
    grantsWord word s = true := by
  obtain ⟨txn, skip, count⟩ := p
  cases htxn
  have off : s.path.resetLow = false := hrun
  have turn' : hostTurn s = true := by
    rcases turn with nothing | below
    · simp [hostTurn, nothing]
    · rw [hostTurn, Bool.or_eq_true]
      exact .inr (decide_eq_true below)
  have touched : (newCopy 0 a lanes (controlPage s + word)).isSome = true := by
    rw [Option.isSome_iff_ne_none, ne_eq, newCopy_eq_none]
    exact h.1
  simp only [grantsWord, off, turn', hhost, hsnoop, touched]
  rfl

/-- The grant of a snooped host write: its words are handed on, the producer word first (R78; log 4). -/
theorem grant_of_snooped {e : QueueEntry} {p : Piece} (hrun : running s) (hhost : hostRequest s = some (e, p))
    (htxn : p.txn = .write a lanes) (hsnoop : e.snooped = true) (turn : internalRequest s = none ∨ s.path.hostGrants < 8) :
    grant s = snoopConsumer a lanes (snoopProducer a lanes (s.setPath (hostGranted e p s))) := by
  rw [grant_of_hostTurn hrun hhost turn, if_pos hsnoop, htxn, snoop]

end

/-! ### The producer word is judged (R189, R190) -/

section
variable {s : State} {v : Word16}

theorem presentEntryRead_asks (idle : s.control.phase = .idle) (available : s.control.consumer ≠ s.control.effectiveProducer) :
    presentEntryRead s = s.setControl { s.control with
      phase := .entry
      readReq := some ⟨controlPage s + 64 * (s.control.consumer.toNat % 16), 64, unissuedWrites s⟩ } :=
  if_pos ⟨idle, available⟩

theorem presentEntryRead_rests (h : s.control.phase ≠ .idle ∨ s.control.consumer = s.control.effectiveProducer) :
    presentEntryRead s = s := by
  refine if_neg ?_
  rintro ⟨idle, available⟩
  exact h.elim (· idle) available

theorem presentEntryRead_control (s : State) : (presentEntryRead s).control = { s.control with
    phase := (presentEntryRead s).control.phase, readReq := (presentEntryRead s).control.readReq } := by
  unfold presentEntryRead
  split <;> rfl

theorem changesOnly_presentEntryRead (s : State) : changesOnly [.control] s (presentEntryRead s) := by
  intro p hp
  cases p <;> simp [Part.same] at hp ⊢

/-- The state with another effective producer. -/
def withProducer (x : Word16) (s : State) : State := s.setControl { s.control with effectiveProducer := x }

theorem writeRing_withProducer (bytes : List Byte) (x : Word16) (s : State) :
    writeRing bytes (withProducer x s) = withProducer x (writeRing bytes s) := by
  have page : controlPage (s.setControl { s.control with effectiveProducer := x }) = controlPage s := rfl
  simp only [writeRing, presentWrite, producerWordWrite, withProducer, page, State.setControl_control]
  generalize controlPage s = page
  rfl

/-- A CONDITION notice does not read the effective producer. -/
theorem postNotice_condition_withProducer (c : Condition) (x : Word16) (s : State) :
    postNotice (.condition c) (withProducer x s) = withProducer x (postNotice (.condition c) s) := by
  rcases Nat.lt_or_ge (unread s) 64 with room | full
  · have bytes : ringBytes ⟨.condition c, (withProducer x s).view.frameCount, 0⟩ (withProducer x s) =
        ringBytes ⟨.condition c, s.view.frameCount, 0⟩ s := rfl
    rw [postNotice_of_room room, postNotice_of_room (s := withProducer x s) room, bytes, writeRing_withProducer]
    rfl
  · rw [postNotice_of_full full, postNotice_of_full (s := withProducer x s) full]
    rfl

theorem startCause_withProducer (c : Condition) (x : Word16) (s : State) :
    startCause c (withProducer x s) = withProducer x (startCause c s) := by
  have present : causePresent (withProducer x s) c = causePresent s c := rfl
  have active : setCondState (withProducer x s) c .active = withProducer x (setCondState s c .active) := rfl
  have mask : (withProducer x s).control.noticeMask = s.control.noticeMask := rfl
  unfold startCause
  dsimp only
  rw [present, active, mask, postNotice_condition_withProducer]
  split
  · rfl
  · split <;> rfl

theorem startCause_setPath (c : Condition) {p : Path} (h : pathAlike p s.path) :
    startCause c (s.setPath p) = (startCause c s).setPath p := by
  have present : causePresent (s.setPath p) c = causePresent s c := rfl
  have active : setCondState (s.setPath p) c .active = (setCondState s c .active).setPath p := rfl
  unfold startCause
  dsimp only
  rw [present, active, postNotice_setPath _ (s := setCondState s c .active) h, State.setPath_control]
  split
  · rfl
  · split <;> rfl

/-- A cause that starts changes neither the command in progress nor the consumer. -/
theorem postNotice_entry (n : Notice) (s : State) : (postNotice n s).control.phase = s.control.phase ∧
    (postNotice n s).control.readReq = s.control.readReq ∧ (postNotice n s).control.consumer = s.control.consumer := by
  rcases Nat.lt_or_ge (unread s) 64 with room | full
  · rw [postNotice_of_room room, clearNoticeCount_control, writeRing_control]
    exact ⟨rfl, rfl, rfl⟩
  · rw [postNotice_of_full full]
    exact ⟨rfl, rfl, rfl⟩

theorem startCause_entry (c : Condition) (s : State) : (startCause c s).control.phase = s.control.phase ∧
    (startCause c s).control.readReq = s.control.readReq ∧ (startCause c s).control.consumer = s.control.consumer := by
  unfold startCause
  split
  · exact ⟨rfl, rfl, rfl⟩
  · dsimp only
    split
    · exact ⟨rfl, rfl, rfl⟩
    · exact postNotice_entry _ (setCondState s c .active)

/-- What CMD_RING_OVERRUN does at a producer value (R189). -/
def overrunJudged (v : Word16) (s : State) : State :=
  if (v - s.control.consumer).toNat ≤ 16 then endCause .cmdRingOverrun s else startCause .cmdRingOverrun s

/-- The effective producer that a value gives (R189). -/
def producerGiven (v : Word16) (s : State) : Word16 :=
  if (v - s.control.consumer).toNat ≤ 16 then v else s.control.consumer + 16

theorem handOverProducer_eq {p : Path} (h : pathAlike p s.path) : handOverProducer v (s.setPath p) =
    presentEntryRead ((withProducer (producerGiven v s) (overrunJudged v s)).setPath p) := by
  have cap : Config.commandRingCap = 16 := rfl
  rw [handOverProducer, State.setPath_control, cap, producerGiven, overrunJudged]
  by_cases near : (v - s.control.consumer).toNat ≤ 16
  · rw [if_pos near, if_pos near, if_pos near]
    rfl
  · rw [if_neg near, if_neg near, if_neg near, ← startCause_withProducer]
    exact congrArg _ (startCause_setPath (s := withProducer _ s) _ h)

theorem overrunJudged_entry (v : Word16) (s : State) : (overrunJudged v s).control.phase = s.control.phase ∧
    (overrunJudged v s).control.readReq = s.control.readReq ∧ (overrunJudged v s).control.consumer = s.control.consumer := by
  unfold overrunJudged
  split
  · exact ⟨rfl, rfl, rfl⟩
  · exact startCause_entry _ s

theorem changesOnly_overrunJudged (v : Word16) (s : State) : changesOnly [.control] s (overrunJudged v s) := by
  unfold overrunJudged
  split
  · exact changesOnly_endCause _ s
  · exact changesOnly_startCause _ s

theorem causePresent_overrunJudged (v : Word16) (s : State) :
    causePresent (overrunJudged v s) .cmdRingOverrun = !((v - s.control.consumer).toNat ≤ 16) := by
  unfold overrunJudged
  split
  · rename_i near
    rw [causePresent_endCause, decide_eq_true near]
    rfl
  · rename_i far
    rw [causePresent_startCause, decide_eq_false far]
    rfl

/-- The producer word has been handed over from `s` to `u`, with the path `p` (R189, R190). -/
structure ProducerTaken (v : Word16) (p : Path) (s u : State) : Prop where
  parts : changesOnly [.path, .control] s u
  path : u.path = p
  producer : u.control.effectiveProducer = producerGiven v s
  cause : causePresent u .cmdRingOverrun = !((v - s.control.consumer).toNat ≤ 16)
  control : u.control = { (overrunJudged v s).control with
    effectiveProducer := u.control.effectiveProducer, phase := u.control.phase, readReq := u.control.readReq }
  asks : s.control.phase = .idle →
    (u.control.effectiveProducer = s.control.consumer → u.control.phase = .idle ∧ u.control.readReq = s.control.readReq) ∧
    (u.control.effectiveProducer ≠ s.control.consumer → u.control.phase = .entry ∧
      u.control.readReq = some ⟨controlPage s + 64 * (s.control.consumer.toNat % 16), 64, unissuedWrites u⟩)
  rests : s.control.phase ≠ .idle → u.control.phase = s.control.phase ∧ u.control.readReq = s.control.readReq

theorem producerTaken_handOverProducer {p : Path} (h : pathAlike p s.path) :
    ProducerTaken v p s (handOverProducer v (s.setPath p)) := by
  rw [handOverProducer_eq h]
  generalize hj : (withProducer (producerGiven v s) (overrunJudged v s)).setPath p = j
  have control : j.control = { (overrunJudged v s).control with effectiveProducer := producerGiven v s } := by rw [← hj]; rfl
  obtain ⟨phase, read, consumer⟩ : j.control.phase = s.control.phase ∧ j.control.readReq = s.control.readReq ∧
      j.control.consumer = s.control.consumer := by
    rw [control]
    exact overrunJudged_entry v s
  have path : j.path = p := by rw [← hj]; rfl
  have page : controlPage j = controlPage s := controlPage_congr (by rw [path]; exact h.2.1)
  have parts : changesOnly [.path, .control] s j := by
    rw [← hj]
    exact changesOnly_trans (changesOnly_mono (by simp) (changesOnly_overrunJudged v s))
      (changesOnly_trans (changesOnly_mono (by simp) (changesOnly_setControl _ _)) (changesOnly_mono (by simp) (changesOnly_setPath p _)))
  have producer : (presentEntryRead j).control.effectiveProducer = producerGiven v s := by rw [presentEntryRead_control, control]
  have rests : j.control.phase ≠ .idle ∨ j.control.consumer = j.control.effectiveProducer →
      (presentEntryRead j).control.phase = s.control.phase ∧ (presentEntryRead j).control.readReq = s.control.readReq := fun hr => by
    rw [presentEntryRead_rests hr]
    exact ⟨phase, read⟩
  exact
    { parts := changesOnly_trans parts (changesOnly_mono (by simp) (changesOnly_presentEntryRead j))
      path := by rw [presentEntryRead_path, path]
      producer := producer
      cause := by
        rw [← causePresent_overrunJudged v s, causePresent, causePresent, condState_congr (s := overrunJudged v s)]
        rw [presentEntryRead_control, control]
      control := by
        rw [presentEntryRead_control, control]
      asks := fun idle => by
        rw [producer]
        refine ⟨fun nothing => ?_, fun something => ?_⟩
        · rw [← idle]
          exact rests (.inr (by rw [consumer, control]; exact nothing.symm))
        · have available : j.control.consumer ≠ j.control.effectiveProducer := by
            rw [consumer, control]
            exact fun e => something e.symm
          have writes : unissuedWrites (presentEntryRead j) = unissuedWrites j := by
            rw [unissuedWrites, unissuedWrites, presentEntryRead_path]
          rw [writes, presentEntryRead_asks (phase.trans idle) available, State.setControl_control, page, consumer]
          exact ⟨rfl, rfl⟩
      rests := fun busy => rests (.inl (phase ▸ busy)) }

end

/-! ### The three rows (R78, R189, R196, R197) -/

theorem pathAlike_hostGranted (e : QueueEntry) (p : Piece) (v : Word16) (s : State) :
    pathAlike { hostGranted e p s with producerCopy := v } s.path := ⟨rfl, rfl, rfl⟩

/-- The row of a producer word (R78, R189; log 4). -/
theorem exec_commandProducerWrite {s : State} {e : QueueEntry} {p : Piece} {a : Nat} {lanes : List LaneByte} {v : Word16}
    (hrun : running s) (hhost : hostRequest s = some (e, p)) (htxn : p.txn = .write a lanes) (hsnoop : e.snooped = true)
    (turn : internalRequest s = none ∨ s.path.hostGrants < 8)
    (taken : wordTaken s.path.producerCopy a lanes (controlPage s + 0xE00) v) : exec .commandProducerWrite s =
      .next (snoopConsumer a lanes (handOverProducer v (s.setPath { hostGranted e p s with producerCopy := v }))) := by
  have word := grantsWord_of_taken hrun hhost htxn hsnoop turn taken
  have producer := snoopProducer_taken (s := s.setPath (hostGranted e p s)) taken
  show Host.Outcome.next (if grantsWord 0xE00 s then grant s else s) = _
  rw [if_pos word, grant_of_snooped hrun hhost htxn hsnoop turn, producer]
  rfl

/-- The row of a consumer word without a producer word (R78, R196). -/
theorem exec_reportConsumerWrite {s : State} {e : QueueEntry} {p : Piece} {a : Nat} {lanes : List LaneByte} {v : Word16}
    (hrun : running s) (hhost : hostRequest s = some (e, p)) (htxn : p.txn = .write a lanes) (hsnoop : e.snooped = true)
    (turn : internalRequest s = none ∨ s.path.hostGrants < 8) (untouched : wordUntouched a lanes (controlPage s + 0xE00))
    (taken : wordTaken s.path.consumerCopy a lanes (controlPage s + 0xE0C) v) :
    exec .reportConsumerWrite s = .next (handOverConsumer v (s.setPath (hostGranted e p s))) := by
  have word := grantsWord_of_taken hrun hhost htxn hsnoop turn taken
  have producer := snoopProducer_untouched (s := s.setPath (hostGranted e p s)) untouched
  have consumer := snoopConsumer_taken (s := s.setPath (hostGranted e p s)) taken
  show Host.Outcome.next (if grantsWord 0xE0C s then grant s else s) = _
  rw [if_pos word, grant_of_snooped hrun hhost htxn hsnoop turn, producer, consumer]

/-- With nothing to write the hand-over changes the consumer copy alone (R196). -/
theorem handOverConsumer_idle {s : State} (v : Word16) (hp : s.control.pendingNotices = []) (hq : s.acc.queue = []) :
    handOverConsumer v s = copyTaken v s := by
  rw [handOverConsumer_eq]
  exact fillRing_empty 64 (s := copyTaken v s) hp hq

/-- Settles O12: the two words are handed over by `ProducerTaken` and `consumerTaken`, and the acknowledged value is published. -/
theorem indexWordsAreHandedOver : Obligations.IndexWordsAreHandedOver := by
  unfold Obligations.IndexWordsAreHandedOver
  refine ⟨fun s e p a lanes v hrun hhost htxn hsnoop turn taken => ?_,
    fun s e p a lanes v hrun hhost htxn hsnoop turn untouched taken => ?_, fun s x v ret => ?_⟩
  · obtain ⟨parts, path, producer, cause, control, asks, rests⟩ :=
      producerTaken_handOverProducer (v := v) (pathAlike_hostGranted e p v s)
    refine ⟨_, _, exec_commandProducerWrite hrun hhost htxn hsnoop turn taken, fun untouched => ?_, fun w consumer => ?_, parts, path,
      producer, cause, control, asks, rests⟩
    · refine snoopConsumer_untouched ?_
      rwa [controlPage, path]
    · rw [snoopConsumer_taken (v := w) (by rw [controlPage, path]; exact consumer)]
      exact consumerTaken_handOverConsumer w _
  · have given := consumerTaken_handOverConsumer v (s.setPath (hostGranted e p s))
    have ends := unread_fillRing (fuel := 64) (unread_copyTaken v (s.setPath (hostGranted e p s))) (by omega)
    rw [← handOverConsumer_eq] at ends
    refine ⟨_, _, exec_reportConsumerWrite hrun hhost htxn hsnoop turn untouched taken, changesOnly_setPath _ s, rfl, given, ?_, ?_,
      ends.1, ends.2, fun hp hq => ?_⟩
    · rw [given.1]
      rfl
    · rw [given.1]
      rfl
    · rw [handOverConsumer_idle (s := s.setPath (hostGranted e p s)) v hp hq]
      exact changesOnly_trans (changesOnly_setPath _ s) (changesOnly_setPath _ _)
  · have hrun : running s := ret.1
    have published : exec .reportProducerAck s =
        .next ((afterReturn s).setControl { s.control with published := v }) := by
      refine (act_of_running _ hrun).trans ?_
      rw [reportProducerAck, nextCompletion_of_returns ret]
      rfl
    refine ⟨_, published, changesOnly_setControl _ _, rfl, ?_⟩
    have off : s.path.resetLow = false := hrun
    simp [noticeAsserted, afterReturn, off]

end Sys2Proof.Machine
